-- ==== Sys2Proof/Word.lean ====
section
/-! DEFINITION. The words the part is made of: bytes, 32-bit time stamps and 32-bit sensor IDs. -/

namespace Sys2Proof

/-- A byte of a frame, a telegram, a sample set or the table store. -/
abbrev Byte := BitVec 8

/-- A time stamp: milliseconds since power-on, 32 bits, wrapping (00 conventions, R35). -/
abbrev Stamp := BitVec 32

/-- The 32-bit identity of a tyre sensor (R103). -/
abbrev SensorId := BitVec 32

end Sys2Proof
end

