-- ==== Sys2Proof/Syntax.lean ====
section
/-! DEFINITION. The commands: one constructor of `Instr` per row of spec/opcode_table.json, with the operands the
command's rule names. The table gives no row fields, so the operands are those of the numbered rules. -/

namespace Sys2Proof

/-- The two CAN ports (00, pins and external partners). -/
inductive Port where
  | front
  | rear
  deriving DecidableEq, Repr

/-- The two axle groups. -/
inductive Group where
  | a
  | b
  deriving DecidableEq, Repr

/-- The two sides of the trailer. -/
inductive Side where
  | left
  | right
  deriving DecidableEq, Repr

/-- A brake channel: C1 to C4 are 0 to 3. -/
abbrev Channel := Fin 4

/-- A tyre position 0 to 15 (R111). -/
abbrev Position := Fin 16

/-- A CAN frame as a port delivers it: whether its identifier has 29 bits (12.1, R149), the identifier and the data. -/
structure CanFrame where
  extended : Bool
  ident : BitVec 29
  data : List Byte
  deriving DecidableEq, Repr

/-- A DEMAND or POSITION frame: every identifier field but the class, which the command's name gives, and the data. -/
structure LinkFrame where
  priority : BitVec 3
  dest : BitVec 4
  source : BitVec 4
  subcode : BitVec 13
  data : List Byte
  deriving DecidableEq, Repr

/-- A MGMT_REQUEST frame at the front port: every identifier field but the class and the request code in subcode
bits 0-4, which the command's name gives; `subHigh` is subcode bits 5-12, which are not read. Byte 0 of the data is
the tag and bytes 1-7 the arguments (12.1). -/
structure ReqFrame where
  priority : BitVec 3
  dest : BitVec 4
  source : BitVec 4
  subHigh : BitVec 8
  data : List Byte
  deriving DecidableEq, Repr

/-- One command: an event at a pin or port, an expiry of one of the part's timers, the completion of an operation, or
a management request. Each constructor is one row of spec/opcode_table.json. -/
inductive Instr where
  /-- POWER_ON_RESET (R178) -/
  | powerOnReset
  /-- POWER_LOSS (R175) -/
  | powerLoss
  /-- RESET_LINE_ASSERTED (R36) -/
  | resetLineAsserted
  /-- RESET_LINE_RELEASED (R36) -/
  | resetLineReleased
  /-- SAMPLE_SET_ARRIVAL (R25): the bytes of the set as they arrived -/
  | sampleSetArrival (bytes : List Byte)
  /-- LOSS_TIMER_EXPIRY (R30) -/
  | lossTimerExpiry
  /-- VALVE_RECORD_SENT (R32) -/
  | valveRecordSent
  /-- PENDING_RECORD_TRANSMIT (R32) -/
  | pendingRecordTransmit
  /-- REFRESH_DUE (R33) -/
  | refreshDue
  /-- DRIVER_STATUS_RECORD (R34): the bytes of the record as they arrived -/
  | driverStatusRecord (bytes : List Byte)
  /-- HOLD_TIMER_EXPIRY (R48) -/
  | holdTimerExpiry (channel : Channel)
  /-- ROLL_TIMER_EXPIRY (R69) -/
  | rollTimerExpiry
  /-- CARRIER_CHANGE (R102): the level the carrier-present line takes -/
  | carrierChange (high : Bool)
  /-- SYNC_MATCH (R101): the bit that completes the match -/
  | syncMatch (bit : Bool)
  /-- TELEGRAM_COMPLETE (R103): the 80th bit -/
  | telegramComplete (bit : Bool)
  /-- TELEGRAM_ENTRY_TAKEN (R114) -/
  | telegramEntryTaken
  /-- CHECK_TIMER_EXPIRY (R121) -/
  | checkTimerExpiry
  /-- LEARN_TIMER_EXPIRY (R127) -/
  | learnTimerExpiry
  /-- FRAME_ARRIVAL (R149) -/
  | frameArrival (port : Port) (frame : CanFrame)
  /-- DEMAND_FRAME (R138), at the front port -/
  | demandFrame (frame : LinkFrame)
  /-- POSITION_FRAME (R134), at the front port -/
  | positionFrame (frame : LinkFrame)
  /-- DEMAND_TIMER_EXPIRY (R140) -/
  | demandTimerExpiry
  /-- REARWARD_TIMER_EXPIRY (R142) -/
  | rearwardTimerExpiry
  /-- FRONT_HANDOVER (R153) -/
  | frontHandover
  /-- FRONT_HANDOVER_OUTCOME (R153) -/
  | frontHandoverOutcome (acked : Bool)
  /-- REAR_HANDOVER (R155) -/
  | rearHandover
  /-- REAR_HANDOVER_OUTCOME (R155) -/
  | rearHandoverOutcome (acked : Bool)
  /-- STATUS_TIMER_EXPIRY (R164) -/
  | statusTimerExpiry
  /-- READ_RECORD (R169) -/
  | readRecord (req : ReqFrame)
  /-- OPEN_TABLE (R170) -/
  | openTable (req : ReqFrame)
  /-- LOAD_SEGMENT (R170) -/
  | loadSegment (req : ReqFrame)
  /-- ACTIVATE_TABLE (R171) -/
  | activateTable (req : ReqFrame)
  /-- STORE_BLOCK (R174) -/
  | storeBlock (req : ReqFrame)
  /-- BLOCK_WRITE_COMPLETE (R174) -/
  | blockWriteComplete
  /-- ERASE_TALLIES (R176) -/
  | eraseTallies (req : ReqFrame)
  /-- TALLY_ERASE_COMPLETE (R176) -/
  | tallyEraseComplete
  /-- TALLY_BIT_PROGRAMMED (R176) -/
  | tallyBitProgrammed
  /-- PENDING_TALLY_START (R172) -/
  | pendingTallyStart
  /-- WAITING_BLOCK3_STORE_START (R129) -/
  | waitingBlock3StoreStart
  /-- SET_PROTECTION (R177) -/
  | setProtection (req : ReqFrame)
  /-- REFRESH_PROTECTION (R177) -/
  | refreshProtection (req : ReqFrame)
  /-- LOCK_CALIBRATION (R177) -/
  | lockCalibration (req : ReqFrame)
  /-- PROTECTION_WORD_PROGRAMMED (R177) -/
  | protectionWordProgrammed
  /-- HALT_CHANNEL (R57) -/
  | haltChannel (req : ReqFrame)
  /-- RUN_CHANNEL (R60) -/
  | runChannel (req : ReqFrame)
  /-- CLEAR_CHANNEL (R61) -/
  | clearChannel (req : ReqFrame)
  /-- CLEAR_CAPTURE (R167) -/
  | clearCapture (req : ReqFrame)
  /-- LEARN_POSITION (R127) -/
  | learnPosition (req : ReqFrame)
  /-- CANCEL_LEARN (R127) -/
  | cancelLearn (req : ReqFrame)
  /-- ISOLATE_REAR (R157) -/
  | isolateRear (req : ReqFrame)
  /-- RESUME_REAR (R157) -/
  | resumeRear (req : ReqFrame)
  /-- RESTART (R179) -/
  | restart (req : ReqFrame)
  /-- BIT_TAKEN (R101) -/
  | bitTaken (bit : Bool)
  deriving DecidableEq, Repr

end Sys2Proof
end

