-- ==== Sys2Proof/Decode.lean ====
section
/-! DEFINITION. The table of this block gives no row any bits (spec/98_reader.md: no row with fixed bits, none with
fields), so no word spells a command. -/

namespace Sys2Proof

/-- The command a word of `nbits` bits spells by spec/opcode_table.json: none, since the table gives no row bits. -/
def decodeTableWord (_nbits _w : Nat) : Option Instr := none

end Sys2Proof
end

