-- ==== Sys2Proof/Config.lean ====
section
/-! DEFINITION. What the manual leaves open and the part goes on with: free values. Each is a constant with no body, so
no proof can see a value of it; a free value that may differ from event to event is read at the model's own counter
`State.free`. Each names the log entry that marks it. -/

namespace Sys2Proof

/-- The order in which the five blocks take one sample set (R25, R3, R68, R87), as the number of a permutation. Log 3. -/
opaque Config.blockOrder : Nat → Nat

/-- The order in which events of the part's own timers that fall due in one millisecond are taken (R35), as the number
of a permutation. Log 2. -/
opaque Config.expiryOrder : Nat → Nat

/-- Whether the tyre table takes an activated T1 before the pressure arbiter does (R38, R130, R171). Log 20. -/
opaque Config.tyresTakeT1First : Nat → Bool

/-- Byte `i` of what an abandoned block write or an erase leaves (R175, R176), drawn at the counter. Logs 22 and 23. -/
opaque Config.leftByte : Nat → Nat → Byte

/-- Whether the completion marker still reads as present while the erase step of a block write runs (R174). Log 22. -/
opaque Config.markerDuringErase : Nat → Bool

/-- Whether a tally bit or protection word program reached the new value at a loss of power (R175, R177). Log 24. -/
opaque Config.programmedAtPowerLoss : Nat → Bool

/-- The code of the `ordinal`-th value of an enumeration that chapter 12 gives no codes, in a record page; the first
argument names the enumeration. Log 30. -/
opaque Config.enumCode : Nat → Nat → Byte

/-- The two bytes a record page shows for a quantity above 65,535 (12.1). Log 31. -/
opaque Config.wideQuantity : Nat → BitVec 16

/-- The two bytes a record page shows for a learning session with so many milliseconds remaining (R131). Log 31. -/
opaque Config.sessionRemaining : Nat → BitVec 16

end Sys2Proof
end

