-- ==== Sys2Proof/Machine/Memory.lean ====
section
/-! DEFINITION. The nonvolatile table store as an addressed memory: 6 blocks of 256 bytes (R172), byte `o` of block `b`
at address `256 * b + o`. It is held as a list of (address, byte) with addresses strictly rising and no entry that reads
as an unlisted byte does; an unlisted byte is erased, and an erased bit reads 1 (12.3). -/

namespace Sys2Proof.Machine

open Sys2Proof

/-- The contents of the table store: the programmed bytes. -/
abbrev Memory := List Host.Cell

/-- What an unlisted byte reads as: every bit erased, and an erased bit reads 1 (12.3). -/
def erasedByte : Byte := 0xFF

/-- The number of addresses of the store: 6 blocks of 256 bytes (R172). -/
def memorySize : Nat := 1536

/-- The byte at an address. -/
def memRead : Memory → Nat → Byte
  | [], _ => erasedByte
  | (k, v) :: rest, a => if k = a then v else memRead rest a

/-- A memory with one byte set; an erased byte is not listed. -/
def memWrite : Memory → Nat → Byte → Memory
  | [], a, b => if b = erasedByte then [] else [(a, b)]
  | (k, v) :: rest, a, b =>
    if a < k then (if b = erasedByte then (k, v) :: rest else (a, b) :: (k, v) :: rest)
    else if a = k then (if b = erasedByte then rest else (a, b) :: rest)
    else (k, v) :: memWrite rest a b

/-- Bytes written from an address upward. -/
def memWriteBytes : Memory → Nat → List Byte → Memory
  | m, _, [] => m
  | m, a, b :: bs => memWriteBytes (memWrite m a b) (a + 1) bs

/-- `n` bytes read from an address upward. -/
def memReadBytes (m : Memory) (a n : Nat) : List Byte := (List.range n).map fun i => memRead m (a + i)

/-- Whether every entry lies above an address, addresses rise strictly, no listed byte is erased, and every address is one
of the store. -/
def memWfFrom : Nat → Memory → Bool
  | _, [] => true
  | lo, (k, v) :: rest => decide (lo ≤ k) && decide (k < memorySize) && (v != erasedByte) && memWfFrom (k + 1) rest

/-- The canonical form of the store's contents. -/
def Memory.wf (m : Memory) : Bool := memWfFrom 0 m

end Sys2Proof.Machine
end

