-- ==== Sys2Proof/Machine/Tables.lean ====
section
/-! DEFINITION. The six configuration tables as the bytes they are loaded and stored as (12.3): reading their fields,
the default tables (R178) and the validation of each table (R37, R15, R64, R113, R111, R151). A validation answers the
byte offset of the first failing field, or none. -/

namespace Sys2Proof.Machine

open Sys2Proof

/-- A configuration table in its layout of 12.3. -/
abbrev Table := List Byte

/-- The byte of a table at an offset. -/
def u8 (t : Table) (off : Nat) : Nat := (t.getD off 0).toNat

/-- The two-byte field of a table at an offset, most significant byte first (12). -/
def u16 (t : Table) (off : Nat) : Nat := 256 * u8 t off + u8 t (off + 1)

/-- Bit `k` of a two-byte field (12). -/
def u16Bit (t : Table) (off k : Nat) : Bool := (u16 t off).testBit k

/-- A number as one byte. -/
def byteOf (n : Nat) : Byte := BitVec.ofNat 8 n

/-- A number as two bytes, most significant first (12). -/
def wordBytes (n : Nat) : List Byte := [byteOf (n / 256), byteOf n]

/-- A 32-bit word as four bytes, most significant first (12). -/
def longBytes (v : BitVec 32) : List Byte :=
  [v.extractLsb' 24 8, v.extractLsb' 16 8, v.extractLsb' 8 8, v.extractLsb' 0 8]

/-- Four bytes as a 32-bit word, most significant first (12). -/
def longOf (b0 b1 b2 b3 : Byte) : BitVec 32 := b0 ++ b1 ++ b2 ++ b3

/-- The first failing check of a list of checks, each a byte offset with whether the field at it holds. -/
def firstFailing : List (Nat × Bool) → Option Nat
  | [] => none
  | (off, ok) :: rest => if ok then firstFailing rest else some off

/-- The size in bytes of table T`t` (R170). -/
def tableSize (t : Nat) : Nat :=
  match t with
  | 1 => 96
  | 2 => 120
  | 3 => 32
  | 4 => 48
  | 5 => 64
  | 6 => 144
  | _ => 0

/-- The number of segments of table T`t` (R170). -/
def tableSegments (t : Nat) : Nat :=
  match t with
  | 1 => 16
  | 2 => 20
  | 3 => 6
  | 4 => 8
  | 5 => 11
  | 6 => 24
  | _ => 0

/-! ### T1: channels and axles (R37) -/

/-- The axle group of axle 1-4, given as 0-3. -/
def t1AxleGroup (t : Table) (axle : Nat) : Group := if u8 t axle = 1 then .b else .a

/-- Where the fields of a channel start. -/
def t1Base (c : Channel) : Nat := 4 + 8 * c.val

/-- Whether a channel is assigned (PRESUMED code 1 yes, 0 no: log 33). -/
def t1Assigned (t : Table) (c : Channel) : Bool := u8 t (t1Base c) == 1

/-- The group of a channel. -/
def t1Group (t : Table) (c : Channel) : Group := if u8 t (t1Base c + 1) = 1 then .b else .a

/-- The side of a channel. -/
def t1Side (t : Table) (c : Channel) : Side := if u8 t (t1Base c + 2) = 1 then .right else .left

/-- P_max of a channel; 0 for an unassigned channel (R20). -/
def t1PMax (t : Table) (c : Channel) : Nat := if t1Assigned t c then u16 t (t1Base c + 3) else 0

/-- The volume factor v_c of a channel. -/
def t1Volume (t : Table) (c : Channel) : Nat := u8 t (t1Base c + 5)

/-- The wheel speed input of a channel: W1 to W4 as 0 to 3, or none. -/
def t1Wheel (t : Table) (c : Channel) : Option (Fin 4) :=
  match u8 t (t1Base c + 6) with
  | 1 => some 0
  | 2 => some 1
  | 3 => some 2
  | 4 => some 3
  | _ => none

/-- Whether the FS-A mode of a channel is BACKUP; LOAD_CORRECTED otherwise. -/
def t1FsaBackup (t : Table) (c : Channel) : Bool := (u8 t (t1Base c + 7)).testBit 0

/-- Whether the FS-B mode of a channel is HOLD_LAST; BACKUP otherwise. -/
def t1FsbHold (t : Table) (c : Channel) : Bool := (u8 t (t1Base c + 7)).testBit 1

/-- Whether the fault policy is ALL; OTHERS otherwise. -/
def t1PolicyAll (t : Table) : Bool := u8 t 36 == 1

/-- The error threshold. -/
def t1Threshold (t : Table) : Nat := u8 t 37

/-- The deviation band, kPa. -/
def t1Band (t : Table) : Nat := u16 t 38

/-- The settle time, ms. -/
def t1Settle (t : Table) : Nat := u16 t 40

/-- The emergency demand D_em, kPa. -/
def t1Emergency (t : Table) : Nat := u16 t 42

/-- Whether the diagnostics of input 1-16, given as 0-15, are enabled (bit k - 1 enables input k). -/
def t1InputEnabled (t : Table) (i : Fin 16) : Bool := u16Bit t 44 i.val

/-- The bytes of an assigned channel with P_max 800, v_c 10, FS-A LOAD_CORRECTED and FS-B BACKUP (R178). -/
def t1DefaultChannel (side wheel : Nat) : List Byte :=
  [1, 0, byteOf side] ++ wordBytes 800 ++ [10, byteOf wheel, 0]

/-- The default T1 (R37, R178). The bytes of the unassigned C3 and C4, for which R37 gives no default, are 0: DESIGN CHOICE,
unsafe (log 76). -/
def t1Default : Table :=
  [0, 0, 1, 1] ++ t1DefaultChannel 0 1 ++ t1DefaultChannel 1 2 ++ List.replicate 16 0 ++
    [0, 3] ++ wordBytes 60 ++ wordBytes 300 ++ wordBytes 1000 ++ wordBytes 65535 ++ List.replicate 50 0

/-- Whether an earlier assigned channel has the group and the side of channel `c` (R37). -/
def t1SideTaken (t : Table) (c : Channel) : Bool :=
  [(0 : Channel), 1, 2, 3].any fun d =>
    decide (d.val < c.val) && t1Assigned t d &&
      (u8 t (t1Base d + 1) == u8 t (t1Base c + 1)) && (u8 t (t1Base d + 2) == u8 t (t1Base c + 2))

/-- Whether an earlier assigned channel has the wheel speed input of channel `c` (R37). -/
def t1WheelTaken (t : Table) (c : Channel) : Bool :=
  (u8 t (t1Base c + 6) != 0) &&
    [(0 : Channel), 1, 2, 3].any fun d =>
      decide (d.val < c.val) && t1Assigned t d && (u8 t (t1Base d + 6) == u8 t (t1Base c + 6))

/-- The checks of one channel of T1; the fields of an unassigned channel are not checked (R37). -/
def t1ChannelChecks (t : Table) (c : Channel) : List (Nat × Bool) :=
  let base := t1Base c
  let assigned := u8 t base == 1
  [(base, decide (u8 t base ≤ 1)),
   (base + 1, !assigned || (decide (u8 t (base + 1) ≤ 1) && !t1SideTaken t c)),
   (base + 2, !assigned || decide (u8 t (base + 2) ≤ 1)),
   (base + 3, !assigned || decide (100 ≤ u16 t (base + 3) ∧ u16 t (base + 3) ≤ 1000)),
   (base + 5, !assigned || decide (u8 t (base + 5) ≤ 200)),
   (base + 6, !assigned || (decide (u8 t (base + 6) ≤ 4) && !t1WheelTaken t c))]

/-- Validation of T1 in the order of its layout (R37). -/
def t1Check (t : Table) : Option Nat :=
  firstFailing <|
    [(0, decide (u8 t 0 ≤ 1)), (1, decide (u8 t 1 ≤ 1)), (2, decide (u8 t 2 ≤ 1)), (3, decide (u8 t 3 ≤ 1))] ++
      t1ChannelChecks t 0 ++ t1ChannelChecks t 1 ++ t1ChannelChecks t 2 ++ t1ChannelChecks t 3 ++
      [(36, decide (u8 t 36 ≤ 1)),
       (37, decide (1 ≤ u8 t 37 ∧ u8 t 37 ≤ 15)),
       (38, decide (20 ≤ u16 t 38 ∧ u16 t 38 ≤ 500)),
       (40, decide (100 ≤ u16 t 40 ∧ u16 t 40 ≤ 5000)),
       (42, decide (u16 t 42 ≤ 1000))]

/-! ### T2: load curve and braking characteristic (R15) -/

/-- Where the fields of a group start (12.3). -/
def t2Base (g : Group) : Nat :=
  match g with
  | .a => 0
  | .b => 60

/-- The number of curve points n. -/
def t2Points (t : Table) (g : Group) : Nat := u8 t (t2Base g)

/-- Curve point bellows pressure b_(i+1). -/
def t2B (t : Table) (g : Group) (i : Nat) : Nat := u16 t (t2Base g + 2 + 2 * i)

/-- Curve point load L_(i+1). -/
def t2L (t : Table) (g : Group) (i : Nat) : Nat := u16 t (t2Base g + 18 + 2 * i)

/-- Empty load Le. -/
def t2Empty (t : Table) (g : Group) : Nat := u16 t (t2Base g + 34)

/-- Laden load Ll. -/
def t2Laden (t : Table) (g : Group) : Nat := u16 t (t2Base g + 36)

/-- The fallback ratio. -/
def t2Fallback (t : Table) (g : Group) : Nat := u16 t (t2Base g + 38)

/-- The freeze demand, kPa. -/
def t2FreezeDemand (t : Table) (g : Group) : Nat := u16 t (t2Base g + 40)

/-- The freeze acceleration. -/
def t2FreezeAccel (t : Table) (g : Group) : Nat := u16 t (t2Base g + 42)

/-- The onset pressure p_on. -/
def t2Onset (t : Table) (g : Group) : Nat := u16 t (t2Base g + 44)

/-- The empty ratio k_e. -/
def t2EmptyRatio (t : Table) (g : Group) : Nat := u16 t (t2Base g + 46)

/-- The default fields of one group of T2 (R15). The slots of the curve points beyond n are 0: DESIGN CHOICE, unsafe (log 76). -/
def t2DefaultGroup : List Byte :=
  [2, 0] ++ wordBytes 0 ++ wordBytes 1000 ++ List.replicate 12 0 ++
    wordBytes 6000 ++ wordBytes 6000 ++ List.replicate 12 0 ++
    wordBytes 0 ++ wordBytes 6000 ++ wordBytes 4096 ++ wordBytes 30 ++ wordBytes 150 ++ wordBytes 0 ++ wordBytes 4096 ++
    List.replicate 12 0

/-- The default T2 (R15, R178). -/
def t2Default : Table := t2DefaultGroup ++ t2DefaultGroup

/-- The checks of one group of T2 in the order of R15; curve point slots beyond n are not checked. -/
def t2GroupChecks (t : Table) (g : Group) : List (Nat × Bool) :=
  let base := t2Base g
  let n := t2Points t g
  [(base, decide (2 ≤ n ∧ n ≤ 8))] ++
    ((List.range n).map fun i =>
      (base + 2 + 2 * i, decide (t2B t g i ≤ 1000) && (decide (i = 0) || decide (t2B t g (i - 1) < t2B t g i)))) ++
    ((List.range n).map fun i =>
      (base + 18 + 2 * i, decide (t2L t g i ≤ 6000) && (decide (i = 0) || decide (t2L t g (i - 1) ≤ t2L t g i)))) ++
    [(base + 34, decide (t2Empty t g ≤ 6000)),
     (base + 36, decide (t2Laden t g ≤ 6000)), (base + 34, decide (t2Empty t g < t2Laden t g)),
     (base + 38, decide (t2Fallback t g ≤ 4096)),
     (base + 40, decide (t2FreezeDemand t g ≤ 1000)),
     (base + 42, decide (t2FreezeAccel t g ≤ 2000)),
     (base + 44, decide (t2Onset t g ≤ 200)),
     (base + 46, decide (t2EmptyRatio t g ≤ 4096))]

/-- Validation of T2 (R15): group A, then group B, each in the order of the table. Of Ll above Le the failing field is Le, the
second one named (R171): DEDUCED, unsafe (log 58). -/
def t2Check (t : Table) : Option Nat := firstFailing (t2GroupChecks t .a ++ t2GroupChecks t .b)

/-! ### T3: roll parameters (R64) -/

/-- Roll enable. -/
def t3Enabled (t : Table) : Bool := u8 t 0 == 1

/-- Empty limit a_e. -/
def t3EmptyLimit (t : Table) : Nat := u16 t 1

/-- Laden limit a_l. -/
def t3LadenLimit (t : Table) : Nat := u16 t 3

/-- Derate step. -/
def t3DerateStep (t : Table) : Nat := u16 t 5

/-- Test fraction, sixteenths. -/
def t3TestFraction (t : Table) : Nat := u16 t 7

/-- Hysteresis. -/
def t3Hysteresis (t : Table) : Nat := u16 t 9

/-- v_min. -/
def t3VMin (t : Table) : Nat := u16 t 11

/-- v_stop. -/
def t3VStop (t : Table) : Nat := u16 t 13

/-- Test pressure p_test. -/
def t3TestPressure (t : Table) : Nat := u16 t 15

/-- Pulse length, ms. -/
def t3PulseLength (t : Table) : Nat := u16 t 17

/-- Lift slip s_lift. -/
def t3LiftSlip (t : Table) : Nat := u16 t 19

/-- Intervention demand D_int. -/
def t3Intervention (t : Table) : Nat := u16 t 21

/-- Ramp, kPa per sample set. -/
def t3Ramp (t : Table) : Nat := u16 t 23

/-- Reserve floor, kPa. -/
def t3Floor (t : Table) : Nat := u16 t 25

/-- The default T3 (R64). -/
def t3Default : Table :=
  [1] ++ wordBytes 600 ++ wordBytes 380 ++ wordBytes 30 ++ wordBytes 12 ++ wordBytes 50 ++ wordBytes 2000 ++
    wordBytes 500 ++ wordBytes 150 ++ wordBytes 120 ++ wordBytes 614 ++ wordBytes 450 ++ wordBytes 10 ++
    wordBytes 500 ++ List.replicate 5 0

/-- Validation of T3 in the order of R64. Of a_l not above a_e the failing field is a_e and of v_stop not above v_min v_min, the
second one named (R171): DEDUCED, unsafe (log 58). -/
def t3Check (t : Table) : Option Nat :=
  firstFailing
    [(0, decide (u8 t 0 ≤ 1)),
     (1, decide (150 ≤ t3EmptyLimit t ∧ t3EmptyLimit t ≤ 2000)),
     (3, decide (150 ≤ t3LadenLimit t ∧ t3LadenLimit t ≤ 2000)), (1, decide (t3LadenLimit t ≤ t3EmptyLimit t)),
     (5, decide (t3DerateStep t ≤ 100)),
     (7, decide (8 ≤ t3TestFraction t ∧ t3TestFraction t ≤ 15)),
     (9, decide (t3Hysteresis t ≤ 500)),
     (11, decide (500 ≤ t3VMin t ∧ t3VMin t ≤ 20000)),
     (13, decide (t3VStop t ≤ 20000)), (11, decide (t3VStop t ≤ t3VMin t)),
     (15, decide (t3TestPressure t ≤ 400)),
     (17, decide (40 ≤ t3PulseLength t ∧ t3PulseLength t ≤ 250)),
     (19, decide (205 ≤ t3LiftSlip t ∧ t3LiftSlip t ≤ 2048)),
     (21, decide (t3Intervention t ≤ 1000)),
     (23, decide (1 ≤ t3Ramp t ∧ t3Ramp t ≤ 100)),
     (25, decide (t3Floor t ≤ 1200))]

/-! ### T4: tyre parameters (R113) -/

/-- The sync word (R109). -/
def t4Sync (t : Table) : Nat := u16 t 0

/-- Empty target t_e of a group. -/
def t4EmptyTarget (t : Table) (g : Group) : Nat :=
  match g with
  | .a => u16 t 2
  | .b => u16 t 4

/-- Laden target t_l of a group. -/
def t4LadenTarget (t : Table) (g : Group) : Nat :=
  match g with
  | .a => u16 t 6
  | .b => u16 t 8

/-- LOW fraction f_low. -/
def t4Low (t : Table) : Nat := u16 t 10

/-- VERY_LOW fraction f_vlow. -/
def t4VeryLow (t : Table) : Nat := u16 t 12

/-- HIGH fraction f_high. -/
def t4High (t : Table) : Nat := u16 t 14

/-- Hot limit, °C. -/
def t4Hot (t : Table) : Nat := u8 t 16

/-- Leak limit, kPa/min. -/
def t4Leak (t : Table) : Nat := u8 t 17

/-- LOST time, s. -/
def t4Lost (t : Table) : Nat := u16 t 18

/-- Derate factor. -/
def t4Derate (t : Table) : Nat := u16 t 20

/-- Whether the diagnostics of a position are enabled (bit p enables position p). -/
def t4PositionEnabled (t : Table) (p : Position) : Bool := u16Bit t 22 p.val

/-- The default T4 (R113, R178). -/
def t4Default : Table :=
  wordBytes 0xB38E ++ wordBytes 700 ++ wordBytes 700 ++ wordBytes 900 ++ wordBytes 900 ++ wordBytes 3686 ++
    wordBytes 3072 ++ wordBytes 4915 ++ [95, 20] ++ wordBytes 600 ++ wordBytes 3277 ++ wordBytes 65535 ++
    List.replicate 24 0

/-- Validation of T4 in the order of R113. Of t_l not below t_e the failing field is t_e and of f_vlow not above f_low f_low,
the second one named (R171): DEDUCED, unsafe (log 58). -/
def t4Check (t : Table) : Option Nat :=
  firstFailing
    [(0, decide (t4Sync t ≠ 0 ∧ t4Sync t ≠ 65535)),
     (2, decide (100 ≤ t4EmptyTarget t .a ∧ t4EmptyTarget t .a ≤ 1200)),
     (4, decide (100 ≤ t4EmptyTarget t .b ∧ t4EmptyTarget t .b ≤ 1200)),
     (6, decide (100 ≤ t4LadenTarget t .a ∧ t4LadenTarget t .a ≤ 1200)),
     (2, decide (t4EmptyTarget t .a ≤ t4LadenTarget t .a)),
     (8, decide (100 ≤ t4LadenTarget t .b ∧ t4LadenTarget t .b ≤ 1200)),
     (4, decide (t4EmptyTarget t .b ≤ t4LadenTarget t .b)),
     (10, decide (1 ≤ t4Low t ∧ t4Low t ≤ 4096)),
     (12, decide (1 ≤ t4VeryLow t ∧ t4VeryLow t ≤ 4096)), (10, decide (t4VeryLow t ≤ t4Low t)),
     (14, decide (4096 ≤ t4High t ∧ t4High t ≤ 8191)),
     (16, decide (40 ≤ t4Hot t ∧ t4Hot t ≤ 150)),
     (17, decide (1 ≤ t4Leak t ∧ t4Leak t ≤ 200)),
     (18, decide (60 ≤ t4Lost t ∧ t4Lost t ≤ 3600)),
     (20, decide (t4Derate t ≤ 4096))]

/-! ### T5: the position map (R111) -/

/-- The sensor ID in slot `p` of a T5; 0 marks an empty slot (12.3). -/
def t5Id (t : Table) (p : Nat) : SensorId :=
  longOf (t.getD (4 * p) 0) (t.getD (4 * p + 1) 0) (t.getD (4 * p + 2) 0) (t.getD (4 * p + 3) 0)

/-- The default T5: every slot empty (R178). -/
def t5Default : Table := List.replicate 64 0

/-- Validation of T5 (R111): no held ID is 0xFFFFFFFF, and none stands in an earlier slot. Of two slots with one ID the later
fails: DEDUCED, unsafe (log 70). -/
def t5Check (t : Table) : Option Nat :=
  firstFailing <| (List.range 16).map fun p =>
    (4 * p, (t5Id t p == 0) ||
      ((t5Id t p != 0xFFFFFFFF) && (List.range p).all fun q => t5Id t q != t5Id t p))

/-! ### T6: the routing table (R151) -/

/-- Whether slot `i` is in use. -/
def t6Used (t : Table) (i : Nat) : Bool := u8 t (6 * i) == 1

/-- The direction field: FRONT 0, REAR 1, EITHER 2. -/
def t6Direction (t : Table) (i : Nat) : Nat := u8 t (6 * i + 1)

/-- The class field: 0 ANY, or 7-31. -/
def t6Class (t : Table) (i : Nat) : Nat := u8 t (6 * i + 2)

/-- The destination field: 0-15, or 255 ANY. -/
def t6Dest (t : Table) (i : Nat) : Nat := u8 t (6 * i + 3)

/-- The action field: FORWARD 0, DROP 1, FORWARD_DEMOTED 2. -/
def t6Action (t : Table) (i : Nat) : Nat := u8 t (6 * i + 4)

/-- The demoted priority. -/
def t6Demoted (t : Table) (i : Nat) : Nat := u8 t (6 * i + 5)

/-- The default T6: every slot empty (R178), all of its bytes 0: DESIGN CHOICE, unsafe (log 76). -/
def t6Default : Table := List.replicate 144 0

/-- The checks of one slot of T6; the fields of a slot not in use are not checked (R151). -/
def t6SlotChecks (t : Table) (i : Nat) : List (Nat × Bool) :=
  let used := u8 t (6 * i) == 1
  [(6 * i, decide (u8 t (6 * i) ≤ 1)),
   (6 * i + 1, !used || decide (t6Direction t i ≤ 2)),
   (6 * i + 2, !used || decide (t6Class t i = 0 ∨ (7 ≤ t6Class t i ∧ t6Class t i ≤ 31))),
   (6 * i + 3, !used || decide (t6Dest t i ≤ 15 ∨ t6Dest t i = 255)),
   (6 * i + 4, !used || decide (t6Action t i ≤ 2)),
   (6 * i + 5, !used || decide (t6Demoted t i ≤ 7))]

/-- Validation of T6 from slot 0 upward (R151). -/
def t6Check (t : Table) : Option Nat := firstFailing ((List.range 24).flatMap (t6SlotChecks t))

/-- The bits of byte `k` of table T`n` that 12.3 gives a meaning: two of each modes byte of T1, none of the byte ranges that it
does not list, and all of the others (R181). -/
def usedBits (n k : Nat) : Byte :=
  match n with
  | 1 => if 46 ≤ k then 0 else if 4 ≤ k ∧ k < 36 ∧ k % 8 = 3 then 0x03 else 0xFF
  | 2 => if k % 60 = 1 ∨ 48 ≤ k % 60 then 0 else 0xFF
  | 3 => if 27 ≤ k then 0 else 0xFF
  | 4 => if 24 ≤ k then 0 else 0xFF
  | _ => 0xFF

/-- Validation of table T`n` (R171). -/
def tableCheck (n : Nat) (t : Table) : Option Nat :=
  match n with
  | 1 => t1Check t
  | 2 => t2Check t
  | 3 => t3Check t
  | 4 => t4Check t
  | 5 => t5Check t
  | 6 => t6Check t
  | _ => none

end Sys2Proof.Machine
end

