-- ==== Sys2Proof/Machine/State.lean ====
section
/-! DEFINITION. The state of the part: one structure per block of the block overview (00), the queue of waiting commands,
and the state right after a power-on reset. Every structure is plain data. -/

namespace Sys2Proof.Machine

open Sys2Proof

/-! ### Families of like things -/

/-- One thing per axle group. -/
structure Pair (α : Type) where
  a : α
  b : α
  deriving DecidableEq, Repr

/-- Four like things: the channels C1-C4, the wheel speeds W1-W4, the tallies TL0-TL3, the unknown-list slots 0-3. -/
structure Quad (α : Type) where
  q0 : α
  q1 : α
  q2 : α
  q3 : α
  deriving DecidableEq, Repr

/-- Sixteen like things: the inputs 1-16, the tyre positions 0-15. Thing `i` is thing `i mod 4` of row `i div 4`. -/
structure Grid (α : Type) where
  r0 : Quad α
  r1 : Quad α
  r2 : Quad α
  r3 : Quad α
  deriving DecidableEq, Repr

/-- One thing per group side (R122). -/
structure Sides (α : Type) where
  aLeft : α
  aRight : α
  bLeft : α
  bRight : α
  deriving DecidableEq, Repr

/-- Four copies of one thing. -/
def Quad.const {α : Type} (x : α) : Quad α := ⟨x, x, x, x⟩

/-- Sixteen copies of one thing. -/
def Grid.const {α : Type} (x : α) : Grid α := ⟨Quad.const x, Quad.const x, Quad.const x, Quad.const x⟩

/-! ### Sample port (R24) -/

/-- The sample-loss state (R24). -/
inductive LossState where
  | waiting
  | running
  | lost
  deriving DecidableEq, Repr

/-- The status of one input (R24, R27, R28). -/
inductive InputStatus where
  | valid
  | held
  | invalid
  | disabled
  deriving DecidableEq, Repr

/-- The record of one of the sixteen inputs (R24). -/
structure InputRec where
  status : InputStatus
  value : Int
  lastGood : Option Int
  holdStart : Option Stamp
  deriving DecidableEq, Repr

/-- The port record (R24). `lossStart` is none while the RESET line holds the port (R36). -/
structure SamplePort where
  loss : LossState
  lossStart : Option Stamp
  lastSeq : Option Byte
  lastTime : Option Stamp
  inputs : Grid InputRec
  accepted : Nat
  frameErrors : Nat
  duplicates : Nat
  gaps : Nat
  losses : Nat
  deriving DecidableEq, Repr

/-! ### Valve command port (R32 to R34) -/

/-- The kind of a valve command record (R32, R33). -/
inductive RecordKind where
  | normal
  | refresh
  deriving DecidableEq, Repr

/-- The mode and target commanded of one channel (R32): `pressure` is mode PRESSURE, otherwise BACKUP. -/
structure Command where
  pressure : Bool
  target : Nat
  deriving DecidableEq, Repr

/-- A valve command record (R32). -/
structure ValveRecord where
  kind : RecordKind
  seq : Byte
  commands : Quad Command
  deriving DecidableEq, Repr

/-- A status the valve driver reports of one channel (R34). -/
inductive DriverStatus where
  | ok
  | coilOpen
  | coilShort
  | overTemp
  deriving DecidableEq, Repr

/-- The valve command port (R32 to R34). `answered` says that a status record has been taken since the previous record
was sent. -/
structure ValvePort where
  tx : Option ValveRecord
  slot : Option ValveRecord
  composedAt : Option Stamp
  normalSent : Bool
  lastSent : Option Byte
  answered : Bool
  lastStatus : Quad (Option DriverStatus)
  superseded : Nat
  statusErrors : Nat
  lateStatus : Nat
  missingStatus : Nat
  deriving DecidableEq, Repr

/-! ### Load estimator (R1) -/

/-- The estimate state (R1). -/
inductive EstState where
  | invalid
  | valid
  deriving DecidableEq, Repr

/-- The estimate record of one group (R1). -/
structure Estimate where
  state : EstState
  filter : Option Nat
  bellows : Nat
  load : Nat
  ratio : Nat
  freeze : Bool
  overload : Bool
  absentSince : Option Stamp
  invalidSince : Stamp
  fallbackReported : Bool
  deriving DecidableEq, Repr

/-! ### Pressure arbiter (R39, R41, R46) -/

/-- The channel state (R39). -/
inductive ChanState where
  | start
  | active
  | backup
  | hold
  | halted
  | faulted
  deriving DecidableEq, Repr

/-- The reason of a backup (R39). -/
inductive BackupReason where
  | failsafe
  | sympathy
  | unassigned
  deriving DecidableEq, Repr

/-- The fault cause of a channel (R39). -/
inductive FaultCause where
  | counter
  | coilOpen
  | coilShort
  | overTemp
  | deliveredInvalid
  deriving DecidableEq, Repr

/-- The deviation timer (R53). -/
structure DevTimer where
  reference : Nat
  start : Stamp
  deriving DecidableEq, Repr

/-- A pending halt: its test pressure and the request's tag (R57). -/
structure PendingHalt where
  pressure : Nat
  tag : Byte
  deriving DecidableEq, Repr

/-- The channel record but for its configuration, which is read from T1 (R39). -/
structure ChannelRec where
  state : ChanState
  reason : Option BackupReason
  driverTarget : Nat
  rollContribution : Nat
  emergency : Nat
  haltPressure : Nat
  derate : Nat
  ceiling : Nat
  cmdPressure : Bool
  cmdTarget : Nat
  delivered : Nat
  deviation : Option DevTimer
  holdTimer : Option Stamp
  heldTarget : Nat
  errors : Nat
  cause : Option FaultCause
  haltPending : Option PendingHalt
  strapPending : Bool
  deriving DecidableEq, Repr

/-- The source of the driver demand (R41): NONE, ELECTRIC, CONTROL_LINE. -/
inductive DemandSource where
  | nothing
  | electric
  | controlLine
  deriving DecidableEq, Repr

/-- The fail-safe state (R46). -/
inductive FailSafe where
  | normal
  | fsA
  | fsB
  deriving DecidableEq, Repr

/-- The pressure arbiter. `strapHalt` is the START_HALTED strap as read at the latest reset (R44). `backupNext` holds from a
T1 activation until the next valve command record is composed, which commands BACKUP on every channel (R38; log 53). -/
structure Arbiter where
  channels : Quad ChannelRec
  demand : Nat
  source : DemandSource
  failSafe : FailSafe
  strapHalt : Bool
  backupNext : Bool
  deriving DecidableEq, Repr

/-! ### Air supervisor (R86) -/

/-- The supply presence (R86). -/
inductive Presence where
  | unknown
  | present
  | lost
  deriving DecidableEq, Repr

/-- The supply state (R86, R90). -/
inductive SupplyState where
  | unknown
  | supplyLost
  | charging
  | ready
  | low
  | exhausted
  deriving DecidableEq, Repr

/-- The entry of the commitment list (R86, R95). -/
structure Commitment where
  amount : Nat
  side : Side
  channels : List Channel
  time : Stamp
  deriving DecidableEq, Repr

/-- The air record (R86). -/
structure Air where
  presence : Presence
  state : SupplyState
  lostRun : Option Stamp
  presentRun : Option Stamp
  lowRun : Option Stamp
  commitment : Option Commitment
  mismatchStart : Option Stamp
  mismatchReported : Bool
  supplyLost : Nat
  reservoirLow : Nat
  mismatches : Nat
  grants : Nat
  refusedState : Nat
  refusedFloor : Nat
  deriving DecidableEq, Repr

/-! ### Roll monitor (R63) -/

/-- The roll state (R63). -/
inductive RollState where
  | idle
  | test
  | watch
  | intervene
  | recover
  deriving DecidableEq, Repr

/-- A timer: its start and its bound in milliseconds (R35). -/
structure Timer where
  start : Stamp
  bound : Nat
  deriving DecidableEq, Repr

/-- The thresholds in force (R67). -/
structure Thresholds where
  rMax : Nat
  derateStep : Bool
  aLim : Nat
  aTest : Nat
  aRelease : Nat
  deriving DecidableEq, Repr

/-- The roll record (R63). -/
structure Roll where
  state : RollState
  timer : Option Timer
  testSide : Option Side
  commitment : Option Nat
  contributions : Quad Nat
  stretch : Nat
  thresholds : Thresholds
  suspended : Bool
  tests : Nat
  withheld : Nat
  lifts : Nat
  aborts : Nat
  cuts : Nat
  timeouts : Nat
  interventions : Nat
  deriving DecidableEq, Repr

/-! ### Tyre receiver (R100) -/

/-- The receiver state (R100). -/
inductive RxState where
  | hunt
  | assemble
  deriving DecidableEq, Repr

/-- A telegram entry of the telegram queue (R106). -/
structure Telegram where
  id : SensorId
  pressure : Nat
  temperature : Int
  batteryLow : Bool
  fastLeak : Bool
  rolling : Bool
  learn : Bool
  counter : Byte
  time : Stamp
  overrunBefore : Bool
  deriving DecidableEq, Repr

/-- The receiver record (R100) with the level of the carrier-present line (R102) and the sync word that started the assembly
in progress, none in HUNT (R109). The window and the buffer hold their bits oldest first. -/
structure Receiver where
  state : RxState
  carrier : Bool
  word : Option Nat
  window : List Bool
  buffer : List Bool
  queue : List Telegram
  latch : Bool
  syncs : Nat
  goods : Nat
  aborts : Nat
  crcErrors : Nat
  rangeErrors : Nat
  overruns : Nat
  deriving DecidableEq, Repr

/-! ### Tyre table (R112) -/

/-- The state of a tyre record (R112). -/
inductive TyreState where
  | absent
  | disabled
  | noData
  | ok
  | high
  | low
  | hot
  | veryLow
  | fastLeak
  | lost
  deriving DecidableEq, Repr

/-- The target of the latest reading with its three levels (R117). -/
structure Target where
  target : Nat
  low : Nat
  veryLow : Nat
  high : Nat
  deriving DecidableEq, Repr

/-- One reading of a history (R112). -/
structure Reading where
  time : Stamp
  gauge : Nat
  deriving DecidableEq, Repr

/-- The tyre record of one position (R112). -/
structure TyreRec where
  state : TyreState
  pressure : Option Nat
  temperature : Option Int
  gauge : Option Nat
  target : Option Target
  leak : Nat
  lastHeard : Stamp
  lastCounter : Option Byte
  batteryLow : Bool
  history : List Reading
  lastDrag : Option Stamp
  deriving DecidableEq, Repr

/-- An entry of the unknown sensor list (R125). -/
structure UnknownEntry where
  id : SensorId
  count : Nat
  lastHeard : Stamp
  lastCounter : Byte
  reported : Bool
  deriving DecidableEq, Repr

/-- An open learning session (R127): the bound is in milliseconds. -/
structure Session where
  position : Position
  start : Stamp
  bound : Nat
  tag : Byte
  deriving DecidableEq, Repr

/-- The tyre table. `waiting` is the store request state, `changedSinceStore` says that a bind or a T5 activation has
occurred since the latest store of block 3 began (R129). -/
structure Tyres where
  map : Grid (Option SensorId)
  records : Grid TyreRec
  derates : Sides Bool
  zeroRun : Option Stamp
  unknown : Quad (Option UnknownEntry)
  session : Option Session
  waiting : Bool
  unsaved : Bool
  changedSinceStore : Bool
  checkStart : Stamp
  readings : Nat
  repeats : Nat
  misses : Nat
  marks : Nat
  deriving DecidableEq, Repr

/-! ### Link engine (R132) -/

/-- The demand state (R132): NONE, FRESH, STALE, LOST. -/
inductive DemandState where
  | nothing
  | fresh
  | stale
  | lost
  deriving DecidableEq, Repr

/-- The link record (R132). `position` is the chain position of a PLACED part and none while UNPLACED; `strapPos` is the
POS strap as read at the power-on reset, 0 for LEARN mode. -/
structure Link where
  strapPos : Nat
  position : Option Nat
  mismatchRun : Bool
  state : DemandState
  demand : Nat
  lastSeq : Option Nat
  subReceived : Bool
  lastFresh : Option Stamp
  lastFrame : Option Stamp
  demandTimer : Option Timer
  rearwardTimer : Option Stamp
  subSeq : Nat
  fillCount : Nat
  fresh : Nat
  staleFlagged : Nat
  repeats : Nat
  malformed : Nat
  fills : Nat
  subs : Nat
  subsSkipped : Nat
  lostEntries : Nat
  positionFrames : Nat
  mismatches : Nat
  deriving DecidableEq, Repr

/-! ### Relay (R148, R158) -/

/-- A frame of the relayed queue, with whether the front port is sending it (R152). -/
structure RelayedFrame where
  frame : CanFrame
  inTx : Bool
  deriving DecidableEq, Repr

/-- A frame of the rearward queue (R154): a frame as it will be sent, or the DEMAND frame, whose value and RAISED flag
are fixed at the hand-over (R143). -/
inductive RearItem where
  | frame (f : CanFrame)
  | demand (source seq : Nat) (stale substitute : Bool)
  deriving DecidableEq, Repr

/-- What the rear port is sending: the queued item, the frame made of it, and whether the rear port state has left FORWARDING
and NO_PARTNER during the hand-over (R155). -/
structure RearTx where
  item : RearItem
  frame : CanFrame
  left : Bool
  deriving DecidableEq, Repr

/-- Which queue or slot the frame on the front port came from (R148, R153). -/
inductive FrontSource where
  | ownAlert
  | relayed
  | response
  | status1
  | status2
  deriving DecidableEq, Repr

/-- What the front port is sending. -/
structure FrontTx where
  source : FrontSource
  frame : CanFrame
  deriving DecidableEq, Repr

/-- The rear port state (R148). -/
inductive RearState where
  | held
  | forwarding
  | noPartner
  | isolated
  deriving DecidableEq, Repr

/-- The relay record (R148) with its counts (R158). The routing table itself is `Tables.t6`. -/
structure Relay where
  matchCounts : List Nat
  relayed : List RelayedFrame
  rearward : List RearItem
  rearTx : Option RearTx
  frontTx : Option FrontTx
  rear : RearState
  run : Nat
  isolation : Option Byte
  rearOff : Bool
  frontArrivals : Nat
  rearArrivals : Nat
  frontShort : Nat
  rearShort : Nat
  misdirected : Nat
  wrongDirection : Nat
  routedDrop : Nat
  unmatched : Nat
  relayedRoutineFull : Nat
  relayedAlertFull : Nat
  displaced : Nat
  frontUnacked : Nat
  rearRefused : Nat
  rearFull : Nat
  demandReplaced : Nat
  rearDiscard : Nat
  flushed : Nat
  isolatedDrop : Nat
  drops : Nat
  deriving DecidableEq, Repr

/-! ### Alert composer (R160) -/

/-- The eighteen alert causes, in the order of their codes (R159). -/
inductive Cause where
  | supplyLost
  | channelFault
  | rollIntervention
  | sampleLost
  | demandLost
  | tyreFastLeak
  | tyreVeryLow
  | reservoirLow
  | tyreHot
  | brakeDrag
  | controlLineMismatch
  | loadFallback
  | tyreLow
  | tyreLost
  | haltAbandoned
  | positionMismatch
  | storeIncomplete
  | unknownSensor
  deriving DecidableEq, Repr

/-- The kind of a subject (R159, 12.1). -/
inductive SubjectKind where
  | block
  | channel
  | group
  | tyre
  | storeBlock
  deriving DecidableEq, Repr

/-- A subject: a kind and a number (R159). -/
structure Subject where
  kind : SubjectKind
  number : Nat
  deriving DecidableEq, Repr

/-- An entry of the own alert queue (R160): `updated` is the updated-in-transmission flag, `inTx` says that the front
port is sending the entry. -/
structure Alert where
  cause : Cause
  subject : Subject
  value : Nat
  time : Stamp
  updated : Bool
  inTx : Bool
  deriving DecidableEq, Repr

/-- A status pair in the status slot (R164), with whether the front port is sending one of its frames. -/
structure StatusPair where
  first : CanFrame
  second : CanFrame
  sent1 : Bool
  sent2 : Bool
  inTx : Bool
  deriving DecidableEq, Repr

/-- The kind of a fault capture (R166). -/
inductive CaptureKind where
  | channelFault
  | sampleLost
  | demandLost
  | supplyLost
  | storeIncomplete
  deriving DecidableEq, Repr

/-- A filled fault capture record (R166). -/
structure Capture where
  kind : CaptureKind
  subject : Subject
  time : Stamp
  demand : Nat
  commanded : Nat
  delivered : Nat
  supply : Nat
  supplyValid : Bool
  reservoir : Nat
  reservoirValid : Bool
  roll : RollState
  deriving DecidableEq, Repr

/-- The alert composer (R160). -/
structure Alerts where
  queue : List Alert
  lost : Nat
  statusStart : Stamp
  slot : Option StatusPair
  superseded : Nat
  capture : Option Capture
  sinceCapture : Nat
  deriving DecidableEq, Repr

/-! ### Management engine (R168) -/

/-- The tag, with its request's code, of the request whose table store operation is in progress (R168). -/
structure StoreTag where
  code : Nat
  tag : Byte
  deriving DecidableEq, Repr

/-- The management engine (R168). A response entry is the list of its frames not yet acknowledged. -/
structure Mgmt where
  queue : List (List CanFrame)
  openTable : Option Nat
  buffer : Table
  segments : List Nat
  storeTag : Option StoreTag
  taken : Nat
  malformed : Nat
  unknown : Nat
  responsesLost : Nat
  deriving DecidableEq, Repr

/-! ### Table store (R172) -/

/-- The store state (R172). -/
inductive StoreState where
  | idle
  | writing
  | tally
  | erasing
  | protecting
  deriving DecidableEq, Repr

/-- A block write in progress: the block and the content snapshot (R172, R174). -/
structure Writing where
  block : Fin 5
  content : List Byte
  deriving DecidableEq, Repr

/-- The table store (R172, R173). `nv` and `protStored` are nonvolatile. `ended` says that the operation of `state` has
completed and the next waiting work has not been started; `copyDue` that a functional reset's copy of the protection word
waits for the program in progress (R177). -/
structure Store where
  nv : Memory
  protStored : BitVec 16
  protForce : BitVec 16
  state : StoreState
  ended : Bool
  since : Stamp
  pendingTally : Quad Nat
  writing : Option Writing
  tally : Option (Fin 4)
  newWord : Option (BitVec 16)
  copyDue : Bool
  writes : Nat
  abandoned : Nat
  bits : Nat
  discarded : Nat
  lostAtReset : Nat
  defaults : Nat
  deriving DecidableEq, Repr

/-! ### The whole part -/

/-- The straps as the board sets them (12.4). -/
structure Straps where
  pos : Fin 4
  startHalted : Bool
  rearOff : Bool
  deriving DecidableEq, Repr

/-- The tables in force; T5 in force is the position map `Tyres.map`. -/
structure Tables where
  t1 : Table
  t2 : Table
  t3 : Table
  t4 : Table
  t6 : Table
  deriving DecidableEq, Repr

/-- The state of the part and the queue of waiting commands. `free` is the model's own counter, at which free values are
read. -/
structure State where
  powered : Bool
  resetLine : Bool
  straps : Straps
  timeBase : Stamp
  free : Nat
  pending : List Instr
  tables : Tables
  sample : SamplePort
  valve : ValvePort
  load : Pair Estimate
  arbiter : Arbiter
  air : Air
  roll : Roll
  rx : Receiver
  tyres : Tyres
  link : Link
  relay : Relay
  alerts : Alerts
  mgmt : Mgmt
  store : Store
  deriving DecidableEq, Repr

/-- Reasons for a fault. No rule of the spec stops the part, so there is none: no command raises a fault. -/
inductive Fault where
  deriving DecidableEq, Repr

/-- Reasons for a refusal. -/
inductive Refusal where
  /-- A command that has no meaning in the model yet, raised by `exec` alone; safe. No arm raises it now. -/
  | notModelled (mnemonic : String)
  deriving DecidableEq, Repr

/-! ### After-reset values -/

/-- An input after a reset (R24). -/
def inputReset (enabled : Bool) : InputRec :=
  { status := if enabled then .invalid else .disabled, value := 0, lastGood := none, holdStart := none }

/-- The sample port after a reset, all inputs enabled (R24). -/
def samplePortReset (lossStart : Option Stamp) : SamplePort :=
  { loss := .waiting, lossStart := lossStart, lastSeq := none, lastTime := none, inputs := Grid.const (inputReset true),
    accepted := 0, frameErrors := 0, duplicates := 0, gaps := 0, losses := 0 }

/-- The valve command port after a reset (R34). -/
def valvePortReset : ValvePort :=
  { tx := none, slot := none, composedAt := none, normalSent := false, lastSent := none, answered := false,
    lastStatus := Quad.const none, superseded := 0, statusErrors := 0, lateStatus := 0, missingStatus := 0 }

/-- An estimate after a reset at `now` with the fallback ratio of the T2 in force (R1). -/
def estimateReset (fallback : Nat) (now : Stamp) : Estimate :=
  { state := .invalid, filter := none, bellows := 0, load := 0, ratio := fallback, freeze := false, overload := false,
    absentSince := none, invalidSince := now, fallbackReported := false }

/-- A channel record after a power-on reset (R39), with its ceiling at P_max (R22). -/
def channelReset (pMax : Nat) (strap : Bool) : ChannelRec :=
  { state := .start, reason := none, driverTarget := 0, rollContribution := 0, emergency := 0, haltPressure := 0,
    derate := 4096, ceiling := pMax, cmdPressure := false, cmdTarget := 0, delivered := 0, deviation := none,
    holdTimer := none, heldTarget := 0, errors := 0, cause := none, haltPending := none, strapPending := strap }

/-- The air record after a reset (R86). -/
def airReset : Air :=
  { presence := .unknown, state := .unknown, lostRun := none, presentRun := none, lowRun := none, commitment := none,
    mismatchStart := none, mismatchReported := false, supplyLost := 0, reservoirLow := 0, mismatches := 0, grants := 0,
    refusedState := 0, refusedFloor := 0 }

/-- The thresholds before the first event after a reset computes them (R63). DESIGN CHOICE, unsafe: log 9. -/
def thresholdsReset : Thresholds := { rMax := 0, derateStep := false, aLim := 0, aTest := 0, aRelease := 0 }

/-- The roll record after a power-on reset (R63). -/
def rollReset : Roll :=
  { state := .idle, timer := none, testSide := none, commitment := none, contributions := Quad.const 0, stretch := 0,
    thresholds := thresholdsReset, suspended := false, tests := 0, withheld := 0, lifts := 0, aborts := 0, cuts := 0,
    timeouts := 0, interventions := 0 }

/-- The receiver record after a reset, the carrier line as it stands (R100, R102). -/
def receiverReset (carrier : Bool) : Receiver :=
  { state := .hunt, carrier := carrier, word := none, window := [], buffer := [], queue := [], latch := false, syncs := 0, goods := 0,
    aborts := 0, crcErrors := 0, rangeErrors := 0, overruns := 0 }

/-- A tyre record started afresh in a state (R111, R112). -/
def tyreFresh (state : TyreState) (now : Stamp) : TyreRec :=
  { state := state, pressure := none, temperature := none, gauge := none, target := none, leak := 0, lastHeard := now,
    lastCounter := none, batteryLow := false, history := [], lastDrag := none }

/-- The tyre table after a power-on reset, before the map of block 3 is taken (R112). -/
def tyresReset (now : Stamp) : Tyres :=
  { map := Grid.const none, records := Grid.const (tyreFresh .absent now), derates := ⟨false, false, false, false⟩,
    zeroRun := none, unknown := Quad.const none, session := none, waiting := false, unsaved := false,
    changedSinceStore := false, checkStart := now, readings := 0, repeats := 0, misses := 0, marks := 0 }

/-- The link record after a power-on reset (R132, R146). -/
def linkReset (strapPos : Nat) (now : Stamp) : Link :=
  { strapPos := strapPos, position := if strapPos = 0 then none else some strapPos, mismatchRun := false,
    state := .nothing, demand := 0, lastSeq := none, subReceived := false, lastFresh := none, lastFrame := none,
    demandTimer := some ⟨now, 1000⟩, rearwardTimer := none, subSeq := 0, fillCount := 0, fresh := 0, staleFlagged := 0,
    repeats := 0, malformed := 0, fills := 0, subs := 0, subsSkipped := 0, lostEntries := 0, positionFrames := 0,
    mismatches := 0 }

/-- The relay record after a power-on reset; a PLACED part's rear port goes to FORWARDING at once unless REAR_OFF is set
(R148, R156). -/
def relayReset (placed rearOff : Bool) : Relay :=
  { matchCounts := List.replicate 24 0, relayed := [], rearward := [], rearTx := none, frontTx := none,
    rear := if placed && !rearOff then .forwarding else .held, run := 0, isolation := none, rearOff := rearOff,
    frontArrivals := 0, rearArrivals := 0, frontShort := 0, rearShort := 0, misdirected := 0, wrongDirection := 0,
    routedDrop := 0, unmatched := 0, relayedRoutineFull := 0, relayedAlertFull := 0, displaced := 0, frontUnacked := 0,
    rearRefused := 0, rearFull := 0, demandReplaced := 0, rearDiscard := 0, flushed := 0, isolatedDrop := 0, drops := 0 }

/-- The alert composer after a power-on reset, before any raise (R160). -/
def alertsReset (now : Stamp) : Alerts :=
  { queue := [], lost := 0, statusStart := now, slot := none, superseded := 0, capture := none, sinceCapture := 0 }

/-- The management engine after a power-on reset (R168). -/
def mgmtReset : Mgmt :=
  { queue := [], openTable := none, buffer := List.replicate 144 0, segments := [], storeTag := none, taken := 0,
    malformed := 0, unknown := 0, responsesLost := 0 }

/-- The table store after a power-on reset with its nonvolatile contents, before the start-up load (R172, R173). -/
def storeReset (nv : Memory) (prot : BitVec 16) (now : Stamp) : Store :=
  { nv := nv, protStored := prot, protForce := prot, state := .idle, ended := false, since := now,
    pendingTally := Quad.const 0, writing := none, tally := none, newWord := none, copyDue := false, writes := 0,
    abandoned := 0, bits := 0, discarded := 0, lostAtReset := 0, defaults := 0 }

/-- The default tables (R178). -/
def tablesDefault : Tables := { t1 := t1Default, t2 := t2Default, t3 := t3Default, t4 := t4Default, t6 := t6Default }

/-- A STORE_INCOMPLETE alert of the start-up load at time 0, marker missing (R178). -/
def storeIncompleteAlert (block : Nat) : Alert :=
  { cause := .storeIncomplete, subject := ⟨.storeBlock, block⟩, value := 0, time := 0, updated := false, inTx := false }

/-- The alert composer after the start-up load of a store with nothing programmed: five STORE_INCOMPLETE raises, of which
the queue holds four, and a capture record filled by the first (R161, R166, R178). Log 7. -/
def alertsAfterBlankLoad : Alerts :=
  { alertsReset 0 with
    queue := [storeIncompleteAlert 0, storeIncompleteAlert 1, storeIncompleteAlert 2, storeIncompleteAlert 3]
    lost := 1
    capture := some
      { kind := .storeIncomplete, subject := ⟨.storeBlock, 0⟩, time := 0, demand := 0, commanded := 0, delivered := 0,
        supply := 0, supplyValid := false, reservoir := 0, reservoirValid := false, roll := .idle }
    sinceCapture := 4 }

/-- The part right after a power-on reset, its nonvolatile store holding nothing (log 7), its straps at 0 (log 8), its
RESET line released and the carrier line low (log 8). -/
def State.reset : State :=
  { powered := true
    resetLine := false
    straps := { pos := 0, startHalted := false, rearOff := false }
    timeBase := 0
    free := 0
    pending := []
    tables := tablesDefault
    sample := samplePortReset (some 0)
    valve := valvePortReset
    load := ⟨estimateReset 4096 0, estimateReset 4096 0⟩
    arbiter :=
      { channels := ⟨channelReset 800 false, channelReset 800 false, channelReset 0 false, channelReset 0 false⟩
        demand := 0, source := .nothing, failSafe := .normal, strapHalt := false, backupNext := false }
    air := airReset
    roll := rollReset
    rx := receiverReset false
    tyres := tyresReset 0
    link := linkReset 0 0
    relay := relayReset false false
    alerts := alertsAfterBlankLoad
    mgmt := mgmtReset
    store := { storeReset [] 0xFFFF 0 with defaults := 5 } }

end Sys2Proof.Machine
end

