-- ==== Sys2Proof/Machine/Ops.lean ====
section
/-! DEFINITION. The operations every block is written over: families of like things, saturating counts, intervals on the
time base, arrangements, and one update operation per part of the state. -/

namespace Sys2Proof.Machine

open Sys2Proof

/-! ### Families -/

/-- The thing of a group. -/
def pairGet {α : Type} (p : Pair α) : Group → α
  | .a => p.a
  | .b => p.b

/-- The family with the thing of one group set. -/
def pairSet {α : Type} (p : Pair α) (g : Group) (x : α) : Pair α :=
  match g with
  | .a => { p with a := x }
  | .b => { p with b := x }

/-- Thing `i` of four. -/
def quadGet {α : Type} (q : Quad α) (i : Fin 4) : α :=
  match i with
  | 0 => q.q0
  | 1 => q.q1
  | 2 => q.q2
  | 3 => q.q3

/-- The family with thing `i` set. -/
def quadSet {α : Type} (q : Quad α) (i : Fin 4) (x : α) : Quad α :=
  match i with
  | 0 => { q with q0 := x }
  | 1 => { q with q1 := x }
  | 2 => { q with q2 := x }
  | 3 => { q with q3 := x }

/-- A function of the number applied to each of four things. -/
def quadMap {α β : Type} (f : Fin 4 → α → β) (q : Quad α) : Quad β := ⟨f 0 q.q0, f 1 q.q1, f 2 q.q2, f 3 q.q3⟩

/-- The four things in order. -/
def quadList {α : Type} (q : Quad α) : List α := [q.q0, q.q1, q.q2, q.q3]

/-- The row of thing `i` of sixteen. -/
def gridRow (i : Fin 16) : Fin 4 := ⟨i.val / 4, by omega⟩

/-- The place of thing `i` of sixteen in its row. -/
def gridCol (i : Fin 16) : Fin 4 := ⟨i.val % 4, by omega⟩

/-- The rows of a grid as a family of four. -/
def gridRows {α : Type} (g : Grid α) : Quad (Quad α) := ⟨g.r0, g.r1, g.r2, g.r3⟩

/-- The grid of four rows. -/
def gridOfRows {α : Type} (q : Quad (Quad α)) : Grid α := ⟨q.q0, q.q1, q.q2, q.q3⟩

/-- Thing `i` of sixteen. -/
def gridGet {α : Type} (g : Grid α) (i : Fin 16) : α := quadGet (quadGet (gridRows g) (gridRow i)) (gridCol i)

/-- The grid with thing `i` set. -/
def gridSet {α : Type} (g : Grid α) (i : Fin 16) (x : α) : Grid α :=
  gridOfRows (quadSet (gridRows g) (gridRow i) (quadSet (quadGet (gridRows g) (gridRow i)) (gridCol i) x))

/-- Thing `4 r + c`. -/
def gridIndex (r c : Fin 4) : Fin 16 := ⟨4 * r.val + c.val, by omega⟩

/-- A function of the number applied to each of sixteen things. -/
def gridMap {α β : Type} (f : Fin 16 → α → β) (g : Grid α) : Grid β :=
  gridOfRows (quadMap (fun r row => quadMap (fun c x => f (gridIndex r c) x) row) (gridRows g))

/-- The sixteen things in order. -/
def gridList {α : Type} (g : Grid α) : List α :=
  quadList g.r0 ++ quadList g.r1 ++ quadList g.r2 ++ quadList g.r3

/-- The thing of a group side. -/
def sidesGet {α : Type} (x : Sides α) (g : Group) (sd : Side) : α :=
  match g, sd with
  | .a, .left => x.aLeft
  | .a, .right => x.aRight
  | .b, .left => x.bLeft
  | .b, .right => x.bRight

/-- The channels C1-C4 in order. -/
def allChannels : List Channel := [0, 1, 2, 3]

/-- The positions 0-15 in order. -/
def allPositions : List Position := [0, 1, 2, 3, 4, 5, 6, 7, 8, 9, 10, 11, 12, 13, 14, 15]

/-- The other side. -/
def otherSide : Side → Side
  | .left => .right
  | .right => .left

/-! ### Counts, intervals, orders -/

/-- A 16-bit count raised by `k`, saturating at 65,535. -/
def satAdd (n k : Nat) : Nat := min (n + k) 65535

/-- A 16-bit count raised by one, saturating at 65,535. -/
def satInc (n : Nat) : Nat := satAdd n 1

/-- An 8-bit count raised by one, saturating at 255. -/
def satInc8 (n : Nat) : Nat := min (n + 1) 255

/-- The interval from one time stamp to another, modulo 2^32 (R35). -/
def elapsed (now start : Stamp) : Nat := (now - start).toNat

/-- Whether a timer's interval has reached its duration (R35). -/
def reached (now start : Stamp) (duration : Nat) : Bool := decide (duration ≤ elapsed now start)

/-- Whether a run that may be none has lasted a duration. -/
def runLasted (now : Stamp) (run : Option Stamp) (duration : Nat) : Bool :=
  match run with
  | some start => reached now start duration
  | none => false

/-- Whether a timer that may be none has expired (R35). -/
def timerExpired (now : Stamp) (t : Option Timer) : Bool :=
  match t with
  | some t => reached now t.start t.bound
  | none => false

/-- A run after a set: a set that meets the condition starts it when it is none and leaves a running start, another set
ends it (R88). -/
def runUpdate (holds : Bool) (now : Stamp) (run : Option Stamp) : Option Stamp :=
  if holds then some (run.getD now) else none

/-- Arrangement number `n` of a list: every permutation of the list is one of its arrangements. -/
def arrange {α : Type} : Nat → List α → List α
  | _, [] => []
  | _, [x] => [x]
  | n, x :: y :: xs =>
    let rest := arrange (n / (xs.length + 2)) (y :: xs)
    let k := n % (xs.length + 2)
    rest.take k ++ x :: rest.drop k

/-- The difference of two pressures. -/
def absDiff (x y : Nat) : Nat := (x - y) + (y - x)

/-! ### Updates of the state, one per part -/

/-- The state with the sample port changed. -/
def State.onSample (f : SamplePort → SamplePort) (s : State) : State := { s with sample := f s.sample }

/-- The state with the valve command port changed. -/
def State.onValve (f : ValvePort → ValvePort) (s : State) : State := { s with valve := f s.valve }

/-- The state with the load estimator changed. -/
def State.onLoad (f : Pair Estimate → Pair Estimate) (s : State) : State := { s with load := f s.load }

/-- The state with the pressure arbiter changed. -/
def State.onArbiter (f : Arbiter → Arbiter) (s : State) : State := { s with arbiter := f s.arbiter }

/-- The state with the air supervisor changed. -/
def State.onAir (f : Air → Air) (s : State) : State := { s with air := f s.air }

/-- The state with the roll monitor changed. -/
def State.onRoll (f : Roll → Roll) (s : State) : State := { s with roll := f s.roll }

/-- The state with the tyre receiver changed. -/
def State.onRx (f : Receiver → Receiver) (s : State) : State := { s with rx := f s.rx }

/-- The state with the tyre table changed. -/
def State.onTyres (f : Tyres → Tyres) (s : State) : State := { s with tyres := f s.tyres }

/-- The state with the link engine changed. -/
def State.onLink (f : Link → Link) (s : State) : State := { s with link := f s.link }

/-- The state with the relay changed. -/
def State.onRelay (f : Relay → Relay) (s : State) : State := { s with relay := f s.relay }

/-- The state with the alert composer changed. -/
def State.onAlerts (f : Alerts → Alerts) (s : State) : State := { s with alerts := f s.alerts }

/-- The state with the management engine changed. -/
def State.onMgmt (f : Mgmt → Mgmt) (s : State) : State := { s with mgmt := f s.mgmt }

/-- The state with the table store changed. -/
def State.onStore (f : Store → Store) (s : State) : State := { s with store := f s.store }

/-- The state with the tables in force changed. -/
def State.onTables (f : Tables → Tables) (s : State) : State := { s with tables := f s.tables }

/-- The channel record of a channel. -/
def chan (s : State) (c : Channel) : ChannelRec := quadGet s.arbiter.channels c

/-- The state with one channel record changed. -/
def State.onChannel (c : Channel) (f : ChannelRec → ChannelRec) (s : State) : State :=
  s.onArbiter fun a => { a with channels := quadSet a.channels c (f (quadGet a.channels c)) }

/-- The tyre record of a position. -/
def tyre (s : State) (p : Position) : TyreRec := gridGet s.tyres.records p

/-- The state with one tyre record changed. -/
def State.onTyre (p : Position) (f : TyreRec → TyreRec) (s : State) : State :=
  s.onTyres fun t => { t with records := gridSet t.records p (f (gridGet t.records p)) }

/-- The estimate of a group. -/
def estimate (s : State) (g : Group) : Estimate := pairGet s.load g

/-- The state with one group's estimate changed. -/
def State.onEstimate (g : Group) (f : Estimate → Estimate) (s : State) : State :=
  s.onLoad fun l => pairSet l g (f (pairGet l g))

/-- The state with the model's own counter advanced: the free values of the next command are read at a new number. -/
def State.spend (s : State) : State := { s with free := s.free + 1 }

/-- A command's outcome: its effect on a powered part; a part without supply takes nothing (log 6). -/
def live (f : State → State) (s : State) : Host.Outcome State Fault Refusal :=
  if s.powered then .next (f s) else .next s

end Sys2Proof.Machine
end

