-- ==== Sys2Proof/Machine/Operands.lean ====
section
/-! DEFINITION. What the commands carry: CAN identifiers and payloads (12.1), sample sets, valve command records, driver
status records and telegrams (12.2), and the CRC-8 that checks them (R104). -/

namespace Sys2Proof.Machine

open Sys2Proof

/-! ### CRC-8 (R104) -/

/-- The register after one bit: shifted, and combined with 0x2F when the bit differs from the register's top bit. -/
def crcBit (reg : Byte) (bit : Bool) : Byte := if reg.msb == bit then reg <<< 1 else (reg <<< 1) ^^^ 0x2F

/-- The bits of a byte, most significant first. -/
def byteBits (b : Byte) : List Bool :=
  [b.getLsbD 7, b.getLsbD 6, b.getLsbD 5, b.getLsbD 4, b.getLsbD 3, b.getLsbD 2, b.getLsbD 1, b.getLsbD 0]

/-- The CRC-8 of bytes: the register starts at 0xFF and takes every bit, most significant first. -/
def crc8 (bytes : List Byte) : Byte := (bytes.flatMap byteBits).foldl crcBit 0xFF

/-- Bits, most significant first, as a number. -/
def bitsNat (bits : List Bool) : Nat := bits.foldl (fun n b => 2 * n + b.toNat) 0

/-! ### CAN identifiers (12.1) -/

/-- The class codes of 12.1. -/
def classDemand : Nat := 1
def classPosition : Nat := 2
def classAlert : Nat := 3
def classStatus : Nat := 4
def classRequest : Nat := 5
def classResponse : Nat := 6

/-- The priority field, identifier bits 28-26. -/
def framePriority (f : CanFrame) : Nat := (f.ident.extractLsb' 26 3).toNat

/-- The class field, bits 25-21. -/
def frameClass (f : CanFrame) : Nat := (f.ident.extractLsb' 21 5).toNat

/-- The destination position, bits 20-17. -/
def frameDest (f : CanFrame) : Nat := (f.ident.extractLsb' 17 4).toNat

/-- The source position, bits 16-13. -/
def frameSource (f : CanFrame) : Nat := (f.ident.extractLsb' 13 4).toNat

/-- The subcode, bits 12-0. -/
def frameSubcode (f : CanFrame) : BitVec 13 := f.ident.extractLsb' 0 13

/-- The request code in subcode bits 0-4. -/
def frameCode (f : CanFrame) : Nat := (f.ident.extractLsb' 0 5).toNat

/-- An identifier from its fields. -/
def identOf (priority cls dest source : Nat) (subcode : BitVec 13) : BitVec 29 :=
  BitVec.ofNat 3 priority ++ BitVec.ofNat 5 cls ++ BitVec.ofNat 4 dest ++ BitVec.ofNat 4 source ++ subcode

/-- A frame of the part's own. -/
def ownFrame (priority cls dest source subcode : Nat) (data : List Byte) : CanFrame :=
  { extended := true, ident := identOf priority cls dest source (BitVec.ofNat 13 subcode), data := data }

/-- A frame with its priority field replaced, everything else unchanged (R150). -/
def withPriority (f : CanFrame) (p : Nat) : CanFrame :=
  { f with ident := BitVec.ofNat 3 p ++ f.ident.extractLsb' 0 26 }

/-- The frame of a management request: class MGMT_REQUEST and the request code with the fields the operand gives. -/
def requestFrame (code : Nat) (r : ReqFrame) : CanFrame :=
  { extended := true
    ident := r.priority ++ BitVec.ofNat 5 classRequest ++ r.dest ++ r.source ++ r.subHigh ++ BitVec.ofNat 5 code
    data := r.data }

/-- The operand of a management request from its frame. -/
def requestOf (f : CanFrame) : ReqFrame :=
  { priority := f.ident.extractLsb' 26 3, dest := f.ident.extractLsb' 17 4, source := f.ident.extractLsb' 13 4,
    subHigh := f.ident.extractLsb' 5 8, data := f.data }

/-- The operand of a DEMAND or POSITION frame from its frame. -/
def linkFrameOf (f : CanFrame) : LinkFrame :=
  { priority := f.ident.extractLsb' 26 3, dest := f.ident.extractLsb' 17 4, source := f.ident.extractLsb' 13 4,
    subcode := f.ident.extractLsb' 0 13, data := f.data }

/-! ### Payloads (12.1) -/

/-- A byte of a payload as a number. -/
def dataByte (data : List Byte) (i : Nat) : Nat := (data.getD i 0).toNat

/-- Two bytes of a payload, most significant first. -/
def dataWord (data : List Byte) (i : Nat) : Nat := 256 * dataByte data i + dataByte data (i + 1)

/-- Bit `k` of a byte of a payload. -/
def dataBit (data : List Byte) (i k : Nat) : Bool := (data.getD i 0).getLsbD k

/-- The payload of a DEMAND frame. -/
def demandPayload (value seq : Nat) (stale raised substitute : Bool) : List Byte :=
  wordBytes value ++ [byteOf seq, byteOf (stale.toNat + 2 * raised.toNat + 4 * substitute.toNat)]

/-! ### Sample sets (12.2) -/

/-- The length of a sample set. -/
def sampleSetLength : Nat := 34

/-- Whether the frame check of a sample set holds: 34 bytes, the last the CRC-8 of the others (R25, R181). -/
def sampleSetOk (bytes : List Byte) : Bool :=
  decide (bytes.length = sampleSetLength) && (bytes.getD 33 0 == crc8 (bytes.take 33))

/-- The sequence number of a sample set. -/
def sampleSeq (bytes : List Byte) : Byte := bytes.getD 0 0

/-- The 16-bit word of an input. -/
def sampleWord (bytes : List Byte) (i : Fin 16) : BitVec 16 := bytes.getD (1 + 2 * i.val) 0 ++ bytes.getD (2 + 2 * i.val) 0

/-- The fault mark of an input, bit 15 of its word. -/
def sampleMark (bytes : List Byte) (i : Fin 16) : Bool := (sampleWord bytes i).getLsbD 15

/-- Input 12, lateral acceleration, as input number 11 from 0. -/
def inputAy : Fin 16 := 11

/-- The control-line pressure, the supply and the reservoir pressure (02 section 2.1). -/
def inputControl : Fin 16 := 4
def inputSupply : Fin 16 := 5
def inputReservoir : Fin 16 := 6

/-- The bellows pressures of a group. -/
def inputBellows (g : Group) (sd : Side) : Fin 16 :=
  match g, sd with
  | .a, .left => 0
  | .a, .right => 1
  | .b, .left => 2
  | .b, .right => 3

/-- The delivered pressure of a channel. -/
def inputDelivered (c : Channel) : Fin 16 := ⟨7 + c.val, by omega⟩

/-- The wheel speed W1-W4. -/
def inputWheel (w : Fin 4) : Fin 16 := ⟨12 + w.val, by omega⟩

/-- The value an input's word carries: lateral acceleration is signed in 15 bits, every other value unsigned (12.2). -/
def sampleValue (bytes : List Byte) (i : Fin 16) : Int :=
  let v : BitVec 15 := (sampleWord bytes i).extractLsb' 0 15
  if i = inputAy then v.toInt else v.toNat

/-- The upper end of an input's range (02 section 2.1). -/
def inputMax (i : Fin 16) : Int :=
  match i with
  | 5 => 1200
  | 6 => 1200
  | 11 => 2000
  | 12 => 20000
  | 13 => 20000
  | 14 => 20000
  | 15 => 20000
  | _ => 1000

/-- The lower end of an input's range. -/
def inputMin (i : Fin 16) : Int := if i = inputAy then -2000 else 0

/-- A value clamped to its input's range (R26). -/
def clampInput (i : Fin 16) (v : Int) : Int := max (inputMin i) (min v (inputMax i))

/-! ### Valve command records and driver status records (12.2) -/

/-- The word of one channel: the mode in bit 15, the target in bits 0-9. -/
def commandWord (c : Command) : List Byte := wordBytes ((if c.pressure then 32768 else 0) + c.target % 1024)

/-- The eleven bytes of a valve command record. -/
def valveRecordBytes (r : ValveRecord) : List Byte :=
  let body := [match r.kind with
    | .normal => 0
    | .refresh => 1, r.seq] ++ (quadList r.commands).flatMap commandWord
  body ++ [crc8 body]

/-- Whether the frame check of a driver status record holds: 3 bytes, the last the CRC-8 of the others (R34, R181). -/
def driverStatusOk (bytes : List Byte) : Bool :=
  decide (bytes.length = 3) && (bytes.getD 2 0 == crc8 (bytes.take 2))

/-- A status code; the four codes fill their bit pair. -/
def driverStatusOf (code : Nat) : DriverStatus :=
  match code with
  | 1 => .coilOpen
  | 2 => .coilShort
  | 3 => .overTemp
  | _ => .ok

/-- The status of a channel in a driver status record, bit pair 2c of byte 1. -/
def driverStatus (bytes : List Byte) (c : Channel) : DriverStatus :=
  driverStatusOf ((bytes.getD 1 0).extractLsb' (2 * c.val) 2).toNat

/-! ### Telegrams (R103) -/

/-- Bits in arrival order as bytes, the first bit of each byte the most significant. -/
def bytesOfBits : Nat → List Bool → List Byte
  | 0, _ => []
  | n + 1, bits => byteOf (bitsNat (bits.take 8)) :: bytesOfBits n (bits.drop 8)

/-- Whether a telegram's check byte equals the CRC-8 of bytes 1-9 (R104). -/
def telegramCrcOk (bytes : List Byte) : Bool := bytes.getD 9 0 == crc8 (bytes.take 9)

/-- The sensor ID of a telegram. -/
def telegramId (bytes : List Byte) : SensorId :=
  longOf (bytes.getD 0 0) (bytes.getD 1 0) (bytes.getD 2 0) (bytes.getD 3 0)

/-- Whether a telegram's fields are in range (R105). -/
def telegramInRange (bytes : List Byte) : Bool :=
  (telegramId bytes != 0) && (telegramId bytes != 0xFFFFFFFF) && decide (dataWord bytes 4 ≤ 1600)

/-- The entry made of a good telegram (R106). -/
def telegramEntry (bytes : List Byte) (now : Stamp) (overrunBefore : Bool) : Telegram :=
  { id := telegramId bytes, pressure := dataWord bytes 4, temperature := (dataByte bytes 6 : Int) - 55,
    batteryLow := dataBit bytes 7 7, fastLeak := dataBit bytes 7 6, rolling := dataBit bytes 7 5,
    learn := dataBit bytes 7 4, counter := bytes.getD 8 0, time := now, overrunBefore := overrunBefore }

/-! ### Enumeration codes of 12.1 -/

/-- Channel state codes. -/
def chanStateCode : ChanState → Nat
  | .start => 0
  | .active => 1
  | .backup => 2
  | .hold => 3
  | .halted => 4
  | .faulted => 5

/-- Supply state codes. -/
def supplyStateCode : SupplyState → Nat
  | .unknown => 0
  | .supplyLost => 1
  | .charging => 2
  | .ready => 3
  | .low => 4
  | .exhausted => 5

/-- Roll state codes. -/
def rollStateCode : RollState → Nat
  | .idle => 0
  | .test => 1
  | .watch => 2
  | .intervene => 3
  | .recover => 4

/-- Fail-safe state codes. -/
def failSafeCode : FailSafe → Nat
  | .normal => 0
  | .fsA => 1
  | .fsB => 2

/-- Demand source codes. -/
def demandSourceCode : DemandSource → Nat
  | .nothing => 0
  | .electric => 1
  | .controlLine => 2

/-- Tyre state codes. -/
def tyreStateCode : TyreState → Nat
  | .absent => 0
  | .disabled => 1
  | .noData => 2
  | .ok => 3
  | .high => 4
  | .low => 5
  | .hot => 6
  | .veryLow => 7
  | .fastLeak => 8
  | .lost => 9

/-- Fault cause values of CHANNEL_FAULT. -/
def faultCauseCode : FaultCause → Nat
  | .counter => 0
  | .coilOpen => 1
  | .coilShort => 2
  | .overTemp => 3
  | .deliveredInvalid => 4

/-- Driver status codes (12.2). -/
def driverStatusCode : DriverStatus → Nat
  | .ok => 0
  | .coilOpen => 1
  | .coilShort => 2
  | .overTemp => 3

/-- Subject kind codes. -/
def subjectKindCode : SubjectKind → Nat
  | .block => 0
  | .channel => 1
  | .group => 2
  | .tyre => 3
  | .storeBlock => 4

/-- Alert cause codes, which are also their priorities (R159). -/
def causeCode : Cause → Nat
  | .supplyLost => 0
  | .channelFault => 1
  | .rollIntervention => 2
  | .sampleLost => 3
  | .demandLost => 4
  | .tyreFastLeak => 5
  | .tyreVeryLow => 6
  | .reservoirLow => 7
  | .tyreHot => 8
  | .brakeDrag => 9
  | .controlLineMismatch => 10
  | .loadFallback => 11
  | .tyreLow => 12
  | .tyreLost => 13
  | .haltAbandoned => 14
  | .positionMismatch => 15
  | .storeIncomplete => 16
  | .unknownSensor => 17

/-- Group codes: A 0, B 1. -/
def groupCode : Group → Nat
  | .a => 0
  | .b => 1

/-- Side codes: left 0 as in T1, and right 1. On a page they are DEDUCED, unsafe (log 57). -/
def sideCode : Side → Nat
  | .left => 0
  | .right => 1

/-- The subjects of the alert causes (R159, block numbers of 12.1). -/
def blockSubject (n : Nat) : Subject := ⟨.block, n⟩
def channelSubject (c : Channel) : Subject := ⟨.channel, c.val + 1⟩
def groupSubject (g : Group) : Subject := ⟨.group, groupCode g⟩
def tyreSubject (p : Position) : Subject := ⟨.tyre, p.val⟩
def storeSubject (b : Nat) : Subject := ⟨.storeBlock, b⟩

/-- Block numbers (12.1). -/
def blockSP : Nat := 1
def blockAS : Nat := 4
def blockRM : Nat := 5
def blockTT : Nat := 7
def blockLK : Nat := 8

end Sys2Proof.Machine
end

