-- ==== Sys2Proof/Machine/Flags.lean ====
section
/-! DEFINITION. The conditions the blocks judge by: input validity (R29), vehicle speed and standstill (00, R66), the
driver demand as rules compare it (R41), protection flags (R172, R177) and the chain position (R132). -/

namespace Sys2Proof.Machine

open Sys2Proof

/-! ### Inputs (R29) -/

/-- The record of an input. -/
def input (s : State) (i : Fin 16) : InputRec := gridGet s.sample.inputs i

/-- Whether an input reports valid: VALID and HELD do (R29). -/
def inputValid (s : State) (i : Fin 16) : Bool :=
  match (input s i).status with
  | .valid => true
  | .held => true
  | .invalid => false
  | .disabled => false

/-- The value in use of a pressure or a speed. -/
def inputValue (s : State) (i : Fin 16) : Nat := (input s i).value.toNat

/-- The reading of a valid input. -/
def reading (s : State) (i : Fin 16) : Option Nat := if inputValid s i then some (inputValue s i) else none

/-- The lateral acceleration a_y of a valid input. -/
def lateral (s : State) : Option Int := if inputValid s inputAy then some (input s inputAy).value else none

/-! ### Speeds -/

/-- The larger of two readings, either of which may be absent. -/
def maxReading (x y : Option Nat) : Option Nat :=
  match x, y with
  | some a, some b => some (max a b)
  | some a, none => some a
  | none, r => r

/-- The smaller of two readings, either of which may be absent. -/
def minReading (x y : Option Nat) : Option Nat :=
  match x, y with
  | some a, some b => some (min a b)
  | some a, none => some a
  | none, r => r

/-- The reading of a wheel speed. -/
def wheel (s : State) (w : Fin 4) : Option Nat := reading s (inputWheel w)

/-- The vehicle speed: the largest valid wheel speed, unknown when none is valid (R66). -/
def vehicleSpeed (s : State) : Option Nat :=
  maxReading (maxReading (wheel s 0) (wheel s 1)) (maxReading (wheel s 2) (wheel s 3))

/-- Whether a reading is known and at or above a level; false while it is unknown (R66). -/
def atLeast (r : Option Nat) (level : Nat) : Bool :=
  match r with
  | some v => decide (level ≤ v)
  | none => false

/-- Whether a reading is known and below a level; false while it is unknown (R66). -/
def below (r : Option Nat) (level : Nat) : Bool :=
  match r with
  | some v => decide (v < level)
  | none => false

/-- Whether the vehicle speed is known and above 200 (R57 to R59). -/
def speedAbove200 (s : State) : Bool := atLeast (vehicleSpeed s) 201

/-- Stationary: every valid wheel speed below 200; with none valid the condition holds (00 terms, R171). -/
def stationary (s : State) : Bool := !atLeast (vehicleSpeed s) 200

/-! ### Demand -/

/-- The driver demand as rules compare it: 0 when its source is NONE (R41). -/
def demandLevel (s : State) : Nat :=
  match s.arbiter.source with
  | .nothing => 0
  | .electric => s.arbiter.demand
  | .controlLine => s.arbiter.demand

/-- Whether the driver demand is 30 kPa or less. -/
def demandLow (s : State) : Bool := decide (demandLevel s ≤ 30)

/-! ### Configuration of the channels -/

/-- Whether a channel is assigned. -/
def assigned (s : State) (c : Channel) : Bool := t1Assigned s.tables.t1 c

/-- The assigned channels of a side, in order. -/
def channelsOfSide (s : State) (sd : Side) : List Channel :=
  allChannels.filter fun c => assigned s c && (t1Side s.tables.t1 c == sd)

/-- Whether any channel is FAULTED. -/
def anyFaulted (s : State) : Bool := allChannels.any fun c => (chan s c).state == .faulted

/-- The group of a tyre position: that of its axle in T1 (R111). -/
def positionGroup (s : State) (p : Position) : Group := t1AxleGroup s.tables.t1 (p.val / 4)

/-- The side of a tyre position (R111). -/
def positionSide (p : Position) : Side := if p.val / 2 % 2 = 1 then .right else .left

/-- The assigned channel that serves a group side, if any (R37). -/
def servingChannel (s : State) (g : Group) (sd : Side) : Option Channel :=
  allChannels.find? fun c => assigned s c && (t1Group s.tables.t1 c == g) && (t1Side s.tables.t1 c == sd)

/-- Whether the group side of a channel is reported derated (R20). -/
def channelDerated (s : State) (c : Channel) : Bool :=
  sidesGet s.tyres.derates (t1Group s.tables.t1 c) (t1Side s.tables.t1 c)

/-! ### Link and store -/

/-- The chain position: 1-3 when PLACED, 15 when UNPLACED (R132). -/
def chainPosition (s : State) : Nat := s.link.position.getD 15

/-- Whether the front link is alive: a DEMAND frame of any kind within the last 25 ms (R139). -/
def frontAlive (s : State) : Bool :=
  match s.link.lastFrame with
  | some t => decide (elapsed s.timeBase t ≤ 25)
  | none => false

/-- Whether the store is busy: in every state but IDLE (R172). -/
def storeBusy (s : State) : Bool := s.store.state != .idle

/-- Whether a flag of a protection word is set: while its bit is programmed, and a programmed bit reads 0 (12.3). -/
def protectFlag (word : BitVec 16) (k : Nat) : Bool := !word.getLsbD k

/-- Whether a block is write-protected in force (R172). -/
def blockProtected (s : State) (b : Nat) : Bool := protectFlag s.store.protForce b

/-- Whether the calibration lock is in force (R177): bit 15. -/
def lockInForce (s : State) : Bool := protectFlag s.store.protForce 15

/-- Whether a roll test or intervention is under way. -/
def rollIdle (s : State) : Bool := s.roll.state == .idle

end Sys2Proof.Machine
end

