-- ==== Sys2Proof/Machine/Alerts.lean ====
section
/-! DEFINITION. The alert composer's shared operations: taking a raise into the own alert queue (R161), the outcome of an
alert's hand-over (R162), the alert frame (R163), and filling the fault capture record (R166). -/

namespace Sys2Proof.Machine

open Sys2Proof

/-! ### The own alert queue (R161) -/

/-- Whether a queued entry is of a cause and subject. -/
def sameAlert (cause : Cause) (subject : Subject) (e : Alert) : Bool := (e.cause == cause) && (e.subject == subject)

/-- Case 1 of R161: the entry's value becomes the raise's; an entry in transmission is marked updated. -/
def updateAlert (cause : Cause) (subject : Subject) (value : Nat) (e : Alert) : Alert :=
  if sameAlert cause subject e then { e with value := value, updated := e.updated || e.inTx } else e

/-- Whether an entry stands before a new one: of a higher priority, or of the same code and raised at or before it. Times
are compared by their age at `now`, modulo 2^32 (log 37). -/
def standsBefore (now : Stamp) (new e : Alert) : Bool :=
  decide (causeCode e.cause < causeCode new.cause) ||
    (decide (causeCode e.cause = causeCode new.cause) && decide (elapsed now new.time ≤ elapsed now e.time))

/-- Case 2 of R161: the queue with the new entry in its place. -/
def insertAlert (now : Stamp) (new : Alert) : List Alert → List Alert
  | [] => [new]
  | e :: rest => if standsBefore now new e then e :: insertAlert now new rest else new :: e :: rest

/-- The highest code among the candidates: the entries not in transmission. -/
def lowestCandidateCode : List Alert → Option Nat
  | [] => none
  | e :: rest => if e.inTx then lowestCandidateCode rest else maxReading (some (causeCode e.cause)) (lowestCandidateCode rest)

/-- The queue without its last candidate of a code. -/
def dropLastCandidate (code : Nat) : List Alert → List Alert
  | [] => []
  | e :: rest =>
    if rest.any (fun d => !d.inTx && causeCode d.cause == code) then e :: dropLastCandidate code rest
    else if !e.inTx && causeCode e.cause == code then rest
    else e :: rest

/-- The own alert queue and the alerts-lost count after a raise (R161). -/
def placeAlert (now : Stamp) (new : Alert) (a : Alerts) : Alerts :=
  if a.queue.any (sameAlert new.cause new.subject) then
    { a with queue := a.queue.map (updateAlert new.cause new.subject new.value) }
  else if a.queue.length < 4 then
    { a with queue := insertAlert now new a.queue }
  else
    match lowestCandidateCode a.queue with
    | some code =>
      if causeCode new.cause < code then
        { a with queue := insertAlert now new (dropLastCandidate code a.queue), lost := satInc a.lost }
      else { a with lost := satInc a.lost }
    | none => { a with lost := satInc a.lost }

/-- A raise: cause, subject and value, with the time stamp of the event that raised it (R159, R161). -/
def raiseAlertAt (time : Stamp) (cause : Cause) (subject : Subject) (value : Nat) (s : State) : State :=
  s.onAlerts <| placeAlert s.timeBase
    { cause := cause, subject := subject, value := value, time := time, updated := false, inTx := false }

/-- A raise by an event of the present time (R159). -/
def raiseAlert (cause : Cause) (subject : Subject) (value : Nat) (s : State) : State :=
  raiseAlertAt s.timeBase cause subject value s

/-! ### Hand-over of an alert (R162, R163) -/

/-- The alert frame of an entry, composed at its hand-over (R163). -/
def alertFrame (s : State) (e : Alert) : CanFrame :=
  ownFrame 3 classAlert 0 (chainPosition s) (causeCode e.cause)
    ([byteOf (subjectKindCode e.subject.kind), byteOf e.subject.number] ++ wordBytes e.value)

/-- An entry after the outcome of its hand-over: none when it is removed (R162). -/
def alertAfterOutcome (acked : Bool) (e : Alert) : Option Alert :=
  if e.inTx then
    if acked && !e.updated then none else some { e with inTx := false, updated := false }
  else some e

/-- The own alert queue after the outcome of an alert's hand-over; an entry the functional reset has removed is not
there to change (R160, R162). -/
def alertOutcome (acked : Bool) (s : State) : State :=
  s.onAlerts fun a => { a with queue := a.queue.filterMap (alertAfterOutcome acked) }

/-! ### Fault capture (R166) -/

/-- The target a channel commanded in the latest record; 0 when that record commanded backup. -/
def commandedOf (s : State) (c : Channel) : Nat := if (chan s c).cmdPressure then (chan s c).cmdTarget else 0

/-- What the fault capture record is filled with: the values in force when the composer takes the request (R166). -/
def captureRecord (kind : CaptureKind) (subject : Subject) (commanded delivered : Nat) (s : State) : Capture :=
  { kind := kind, subject := subject, time := s.timeBase, demand := demandLevel s, commanded := commanded,
    delivered := delivered, supply := inputValue s inputSupply, supplyValid := inputValid s inputSupply,
    reservoir := inputValue s inputReservoir, reservoirValid := inputValid s inputReservoir, roll := s.roll.state }

/-- A request to fill the fault capture record: an empty record is filled, a filled one counts the request (R166). The
commanded and delivered pressures are those of a channel subject and 0 otherwise. -/
def fillCapture (kind : CaptureKind) (subject : Subject) (commanded delivered : Nat) (s : State) : State :=
  match s.alerts.capture with
  | some _ => s.onAlerts fun a => { a with sinceCapture := satInc8 a.sinceCapture }
  | none =>
    s.onAlerts fun a => { a with capture := some (captureRecord kind subject commanded delivered s) }

/-- A request to fill the capture record for a subject that is no channel. -/
def fillCaptureBlock (kind : CaptureKind) (subject : Subject) (s : State) : State := fillCapture kind subject 0 0 s

/-- A request to fill the capture record for a channel. -/
def fillCaptureChannel (kind : CaptureKind) (c : Channel) (s : State) : State :=
  fillCapture kind (channelSubject c) (commandedOf s c) (chan s c).delivered s

/-- CLEAR_CAPTURE's effect (R167). -/
def emptyCapture (s : State) : State := s.onAlerts fun a => { a with capture := none, sinceCapture := 0 }

/-! ### The status pair (R164, R165) -/

/-- A count in one byte: the count, or 255 once it has reached 255 (12.1). -/
def countByte (n : Nat) : Byte := byteOf (min n 255)

/-- The rank of a tyre state in STATUS-2, 0 the worst; ABSENT and DISABLED are not ranked (R131). -/
def tyreRank : TyreState → Option Nat
  | .fastLeak => some 0
  | .veryLow => some 1
  | .hot => some 2
  | .low => some 3
  | .lost => some 4
  | .high => some 5
  | .noData => some 6
  | .ok => some 7
  | .absent => none
  | .disabled => none

/-- The worst of a list of positions with their states: least rank, then least number (R131). -/
def worstTyreOf (s : State) : List Position → Option Position
  | [] => none
  | p :: rest =>
    match tyreRank (tyre s p).state, worstTyreOf s rest with
    | none, r => r
    | some _, none => some p
    | some n, some q =>
      match tyreRank (tyre s q).state with
      | some m => if n ≤ m then some p else some q
      | none => some p

/-- The worst tyre state and its position; ABSENT with position 0 when none is ranked (R131). -/
def worstTyre (s : State) : TyreState × Nat :=
  match worstTyreOf s allPositions with
  | some p => ((tyre s p).state, p.val)
  | none => (.absent, 0)

/-- The word of a group's load estimate: the load in bits 0-12, the estimate state in bit 15 (12.1). -/
def loadWord (e : Estimate) : Nat :=
  e.load % 8192 +
    match e.state with
    | .valid => 32768
    | .invalid => 0

/-- The payload of STATUS-1 (R165, 12.1). -/
def status1Payload (s : State) : List Byte :=
  wordBytes (loadWord s.load.a) ++ wordBytes (loadWord s.load.b) ++
    [byteOf (supplyStateCode s.air.state + 16 * rollStateCode s.roll.state), byteOf (failSafeCode s.arbiter.failSafe)] ++
    wordBytes (chanStateCode (chan s 0).state + 16 * chanStateCode (chan s 1).state +
      256 * chanStateCode (chan s 2).state + 4096 * chanStateCode (chan s 3).state)

/-- The payload of STATUS-2 (R165, 12.1). -/
def status2Payload (s : State) : List Byte :=
  let worst := worstTyre s
  wordBytes (inputValue s inputReservoir % 2048 + 2048 * (inputValid s inputReservoir).toNat + 4096 * worst.2) ++
    wordBytes (inputValue s inputSupply % 2048 + 2048 * (inputValid s inputSupply).toNat +
      4096 * demandSourceCode s.arbiter.source + 16384 * s.load.a.overload.toNat + 32768 * s.load.b.overload.toNat) ++
    wordBytes (demandLevel s % 1024 + 4096 * tyreStateCode worst.1) ++
    [countByte s.alerts.lost, countByte s.relay.drops]

/-- The status pair composed from the blocks' state (R164, R165). -/
def composeStatus (s : State) : StatusPair :=
  { first := ownFrame 6 classStatus 0 (chainPosition s) 1 (status1Payload s)
    second := ownFrame 6 classStatus 0 (chainPosition s) 2 (status2Payload s)
    sent1 := false, sent2 := false, inTx := false }

/-- Whether a pair still has a frame marked unsent. -/
def pairUnsent (slot : Option StatusPair) : Bool :=
  match slot with
  | some p => !p.sent1 || !p.sent2
  | none => false

/-- STATUS_TIMER_EXPIRY: a new pair replaces the old one whole, and the timer restarts from this expiry (R164). -/
def statusTimerExpiry (s : State) : State :=
  if reached s.timeBase s.alerts.statusStart 100 then
    s.onAlerts fun a =>
      { a with
        statusStart := s.timeBase
        slot := some (composeStatus s)
        superseded := if pairUnsent a.slot then satInc a.superseded else a.superseded }
  else s

/-- The status slot after the outcome of a status frame's hand-over; a frame of a pair that has been replaced changes
nothing (R164). -/
def statusOutcome (first acked : Bool) (s : State) : State :=
  s.onAlerts fun a =>
    match a.slot with
    | some p =>
      if p.inTx then
        { a with slot := some { p with
            sent1 := p.sent1 || (first && acked), sent2 := p.sent2 || (!first && acked), inTx := false } }
      else a
    | none => a

end Sys2Proof.Machine
end

