-- ==== Sys2Proof/Machine/Responses.lean ====
section
/-! DEFINITION. The management engine's answers: the response frames (12.1) and placing an answer in the own response
queue (R168). -/

namespace Sys2Proof.Machine

open Sys2Proof

/-- Request codes (12.1). -/
def codeReadRecord : Nat := 1
def codeOpenTable : Nat := 2
def codeLoadSegment : Nat := 3
def codeActivateTable : Nat := 4
def codeStoreBlock : Nat := 5
def codeEraseTallies : Nat := 6
def codeSetProtection : Nat := 7
def codeRefreshProtection : Nat := 8
def codeLockCalibration : Nat := 9
def codeHaltChannel : Nat := 10
def codeRunChannel : Nat := 11
def codeClearChannel : Nat := 12
def codeClearCapture : Nat := 13
def codeLearnPosition : Nat := 14
def codeCancelLearn : Nat := 15
def codeIsolateRear : Nat := 16
def codeResumeRear : Nat := 17
def codeRestart : Nat := 18

/-- The reasons of a refusal (12.1). -/
inductive Reason where
  | busy
  | state
  | range
  | locked
  | sequence
  | unknown
  deriving DecidableEq, Repr

/-- Codes of the reasons. -/
def reasonCode : Reason → Nat
  | .busy => 1
  | .state => 2
  | .range => 3
  | .locked => 4
  | .sequence => 5
  | .unknown => 7

/-- The results of a COMPLETED response (12.1). -/
inductive Completion where
  | done
  | halted
  | bound
  | timeout
  | cancelled
  deriving DecidableEq, Repr

/-- Codes of the results. -/
def completionCode : Completion → Nat
  | .done => 0
  | .halted => 1
  | .bound => 2
  | .timeout => 3
  | .cancelled => 4

/-- An answer to a request. -/
inductive Answer where
  | done
  | accepted
  | completed (result : Completion)
  | refused (reason : Reason)
  | invalid (offset : Nat)
  deriving DecidableEq, Repr

/-- The bytes of an answer after the tag: the kind, then the result or the reason; with INVALID the byte offset of the
failing field (12.1). -/
def answerBytes : Answer → List Byte
  | .done => [0, 0]
  | .accepted => [1, 0]
  | .completed r => [2, byteOf (completionCode r)]
  | .refused r => [3, byteOf (reasonCode r)]
  | .invalid offset => [3, 6] ++ wordBytes offset

/-- A response frame: class MGMT_RESPONSE, destination 0, source the chain position (R168). -/
def responseFrame (s : State) (subcode : Nat) (data : List Byte) : CanFrame :=
  ownFrame 5 classResponse 0 (chainPosition s) subcode data

/-- An entry placed in the own response queue, or lost at a full queue (R168). -/
def placeEntry (frames : List CanFrame) (s : State) : State :=
  s.onMgmt fun m =>
    if m.queue.length < 4 then { m with queue := m.queue ++ [frames] }
    else { m with responsesLost := satInc m.responsesLost }

/-- An answer to the request of a code, with its tag. -/
def answer (code : Nat) (tag : Byte) (a : Answer) (s : State) : State :=
  placeEntry [responseFrame s code (tag :: answerBytes a)] s

/-- A pending halt that ends: the flag clears, and COMPLETED is sent with the tag held (R58). -/
def endPendingHalt (c : Channel) (result : Completion) (s : State) : State :=
  match (chan s c).haltPending with
  | some h => answer codeHaltChannel h.tag (.completed result) (s.onChannel c fun r => { r with haltPending := none })
  | none => s

/-- A pending halt that is cancelled (R58). -/
def cancelPendingHalt (c : Channel) (s : State) : State := endPendingHalt c .cancelled s

/-- The frames of a record page: up to 6 bytes each, with the tag, the segment number and the last-segment mark (R169,
12.1). The first argument bounds the number of frames. -/
def pageFrames (s : State) (tag : Byte) : Nat → Nat → List Byte → List CanFrame
  | 0, _, _ => []
  | n + 1, seg, bytes =>
    if bytes.length ≤ 6 then [responseFrame s (codeReadRecord + 32) (tag :: byteOf (seg + 128) :: bytes)]
    else responseFrame s (codeReadRecord + 32) (tag :: byteOf seg :: bytes.take 6) ::
      pageFrames s tag n (seg + 1) (bytes.drop 6)

/-- A page of up to 48 bytes placed as one entry of up to 8 frames (R169). -/
def placePage (tag : Byte) (page : List Byte) (s : State) : State := placeEntry (pageFrames s tag 8 0 page) s

end Sys2Proof.Machine
end

