-- ==== Sys2Proof/Machine/Store.lean ====
section
/-! DEFINITION. The table store: tallies and their increments (R176), block writes (R174, R175), the protection word (R177),
the order of waiting work (R172) and the validation of stored blocks (R178). -/

namespace Sys2Proof.Machine

open Sys2Proof

/-! ### Layout of the store (12.3) -/

/-- The address of a byte of a block. -/
def blockAddr (b off : Nat) : Nat := 256 * b + off

/-- The completion marker at byte 255 of blocks 0-4. -/
def markerByte : Byte := 0x5A

/-- Whether a block holds its completion marker. -/
def markerPresent (nv : Memory) (b : Nat) : Bool := memRead nv (blockAddr b 255) == markerByte

/-- The address of byte `i` of a tally: TL`k` stands at byte 64k of block 5. -/
def tallyAddr (k : Fin 4) (i : Nat) : Nat := blockAddr 5 (64 * k.val + i)

/-- The number of programmed bits of a byte: an erased bit reads 1, a programmed bit 0. -/
def programmedBits (b : Byte) : Nat := (byteBits b).countP fun bit => !bit

/-- The value of a tally: the number of programmed bits in its 512-bit field (R176). -/
def tallyValue (nv : Memory) (k : Fin 4) : Nat := ((memReadBytes nv (tallyAddr k 0) 64).map programmedBits).sum

/-- The lowest-numbered unprogrammed bit of a byte, from bit `k` of `n` upward. -/
def lowestErasedBit (b : Byte) : Nat → Nat → Option Nat
  | 0, _ => none
  | n + 1, k => if b.getLsbD k then some k else lowestErasedBit b n (k + 1)

/-- Bytes with the lowest-numbered unprogrammed bit programmed: bit k of a field is bit k mod 8 of its byte k div 8. -/
def programLowest : List Byte → List Byte
  | [] => []
  | b :: rest =>
    match lowestErasedBit b 8 0 with
    | some k => (b &&& ~~~(1#8 <<< k)) :: rest
    | none => b :: programLowest rest

/-- The store's contents with the lowest-numbered unprogrammed bit of a tally programmed (R176). -/
def programTally (nv : Memory) (k : Fin 4) : Memory :=
  memWriteBytes nv (tallyAddr k 0) (programLowest (memReadBytes nv (tallyAddr k 0) 64))

/-- What an erase that has not run to its end leaves of block 5: some of the bits erased, which is a free choice (R176;
log 23). -/
def partlyErased (n : Nat) (nv : Memory) : Memory :=
  memWriteBytes nv (blockAddr 5 0)
    ((List.range 256).map fun i => memRead nv (blockAddr 5 i) ||| Config.leftByte n i)

/-- What an abandoned write leaves of a block: whatever bytes, and no marker (R175; log 22). -/
def abandonedBlock (n b : Nat) (nv : Memory) : Memory :=
  memWriteBytes nv (blockAddr b 0) ((List.range 255).map (Config.leftByte n) ++ [erasedByte])

/-! ### Waiting work (R172) -/

/-- Whether neither a tally increment nor the tyre table's store of block 3 is waiting. -/
def nothingWaiting (s : State) : Bool :=
  (quadList s.store.pendingTally).all (fun n => n == 0) && !s.tyres.waiting

/-- The store IDLE, from this moment. -/
def storeIdle (s : State) : State :=
  s.onStore fun t =>
    { t with state := .idle, ended := false, since := s.timeBase, writing := none, tally := none, newWord := none }

/-- The end of an operation: with nothing waiting the store becomes IDLE; otherwise it stays busy until the next work is
started (R172; log 21). Work that comes to wait between a functional reset and the end of a program that runs on through it
is started then: DEDUCED, unsafe (log 62). -/
def endOperation (s : State) : State :=
  if nothingWaiting s then storeIdle s
  else s.onStore fun t => { t with ended := true, writing := none, tally := none, newWord := none }

/-! ### Tallies (R176) -/

/-- The store starts programming one bit of a tally. -/
def startTally (k : Fin 4) (s : State) : State :=
  s.onStore fun t => { t with state := .tally, ended := false, since := s.timeBase, tally := some k }

/-- Whether a tally is at 512. During an erase its increments wait whatever the field reads (R176; log 23). -/
def tallyFull (s : State) (k : Fin 4) : Bool :=
  (s.store.state != .erasing) && decide (512 ≤ tallyValue s.store.nv k)

/-- An increment request for a tally: discarded at 512, started in IDLE, pending otherwise (R176), also while a program runs
on through a functional reset (log 62). -/
def requestTally (k : Fin 4) (s : State) : State :=
  if tallyFull s k then s.onStore fun t => { t with discarded := satInc t.discarded }
  else if storeBusy s then
    s.onStore fun t => { t with pendingTally := quadSet t.pendingTally k (satInc8 (quadGet t.pendingTally k)) }
  else startTally k s

/-- The tallies (R176). -/
def tallyInterventions : Fin 4 := 0
def tallySupplyLosses : Fin 4 := 1
def tallyFaults : Fin 4 := 2
def tallyOverloads : Fin 4 := 3

/-- The first tally with a pending increment: TL0 before TL1, TL1 before TL2, TL2 before TL3 (R172). -/
def firstPending (s : State) : Option (Fin 4) :=
  ([0, 1, 2, 3] : List (Fin 4)).find? fun k => quadGet s.store.pendingTally k != 0

/-- PENDING_TALLY_START: after an operation has ended, the first pending increment is started, or discarded at 512
(R172, R176). -/
def pendingTallyStart (s : State) : State :=
  if s.store.ended then
    match firstPending s with
    | some k =>
      let s := s.onStore fun t => { t with pendingTally := quadSet t.pendingTally k (quadGet t.pendingTally k - 1) }
      if 512 ≤ tallyValue s.store.nv k then
        endOperation (s.onStore fun t => { t with discarded := satInc t.discarded })
      else startTally k s
    | none => s
  else s

/-- TALLY_BIT_PROGRAMMED: the bit is programmed and the tally rises by one (R176). -/
def tallyBitProgrammed (s : State) : State :=
  match s.store.tally with
  | some k =>
    if s.store.state = .tally ∧ s.store.ended = false then
      endOperation (s.onStore fun t => { t with nv := programTally t.nv k, bits := satInc t.bits })
    else s
  | none => s

/-! ### Answers of a store operation -/

/-- The COMPLETED response of the operation in progress, sent when a request started it (R168). -/
def completeStore (result : Completion) (s : State) : State :=
  match s.mgmt.storeTag with
  | some t => answer t.code t.tag (.completed result) (s.onMgmt fun m => { m with storeTag := none })
  | none => s

/-- The store tag of a request that starts an operation. -/
def holdStoreTag (code : Nat) (tag : Byte) (s : State) : State :=
  s.onMgmt fun m => { m with storeTag := some ⟨code, tag⟩ }

/-! ### Block writes (R174) -/

/-- A T5 of a position map (12.3: 0 marks an empty slot). -/
def mapBytes (m : Grid (Option SensorId)) : List Byte := (gridList m).flatMap fun id => longBytes (id.getD 0)

/-- The content of a block: its working table or tables from byte 0 (12.3). -/
def blockTables (s : State) (b : Fin 5) : List Byte :=
  match b with
  | 0 => s.tables.t1
  | 1 => s.tables.t2
  | 2 => s.tables.t3
  | 3 => s.tables.t4 ++ mapBytes s.tyres.map
  | 4 => s.tables.t6

/-- The 256 bytes a completed write leaves: the snapshot, unused bytes 0 (R181), and the marker. -/
def blockImage (content : List Byte) : List Byte :=
  content ++ List.replicate (255 - content.length) 0 ++ [markerByte]

/-- Whether a store of a block is refused LOCKED (R174 step 3). -/
def writeLocked (s : State) (b : Fin 5) : Bool := blockProtected s b.val || (b == 1 && lockInForce s)

/-- The store enters WRITING with a snapshot of the block's working tables (R174). -/
def startWrite (b : Fin 5) (s : State) : State :=
  (s.onStore fun t =>
    { t with state := .writing, ended := false, since := s.timeBase, writing := some ⟨b, blockTables s b⟩ }).onTyres
    fun y => if b = 3 then { y with changedSinceStore := false } else y

/-- What the tyre table does when a store of block 3 is reported done: the unsaved-map flag clears unless the map has
changed since the store began (R129). -/
def tyresStored (b : Fin 5) (y : Tyres) : Tyres :=
  if b = 3 ∧ y.changedSinceStore = false then { y with unsaved := false } else y

/-- BLOCK_WRITE_COMPLETE: the block holds the snapshot and its marker; COMPLETED(DONE) when a request started the write,
and the tyre table is told of block 3 (R174, R129). -/
def blockWriteComplete (s : State) : State :=
  match s.store.writing with
  | some w =>
    if s.store.state = .writing ∧ s.store.ended = false then
      endOperation <| (completeStore .done <| s.onStore fun t =>
        { t with
          nv := memWriteBytes t.nv (blockAddr w.block.val 0) (blockImage w.content)
          writes := satInc t.writes }).onTyres (tyresStored w.block)
    else s
  | none => s

/-- WAITING_BLOCK3_STORE_START: with no tally pending the store starts the tyre table's waiting store of block 3, judged
by step 3 of R174; when block 3 is protected the request is dropped and the unsaved-map flag stays (R129, R172). -/
def waitingBlock3StoreStart (s : State) : State :=
  if s.store.ended ∧ firstPending s = none ∧ s.tyres.waiting then
    let s := s.onTyres fun y => { y with waiting := false }
    if writeLocked s 3 then endOperation s else startWrite 3 s
  else s

/-- The tyre table's store request at a bind: made at once when the store is idle and not refused, WAITING when it is
busy (R129, R174). -/
def requestBlock3 (s : State) : State :=
  if storeBusy s then s.onTyres fun y => { y with waiting := true }
  else if writeLocked s 3 then s
  else startWrite 3 s

/-! ### Erase and protection (R176, R177) -/

/-- The store enters ERASING. -/
def startErase (s : State) : State := s.onStore fun t => { t with state := .erasing, ended := false, since := s.timeBase }

/-- TALLY_ERASE_COMPLETE: all four fields are clear, and COMPLETED(DONE) is sent (R176). -/
def tallyEraseComplete (s : State) : State :=
  if s.store.state = .erasing ∧ s.store.ended = false then
    endOperation <| completeStore .done <| s.onStore fun t =>
      { t with nv := memWriteBytes t.nv (blockAddr 5 0) (List.replicate 256 erasedByte) }
  else s

/-- The store enters PROTECTING to program a word. -/
def startProtect (word : BitVec 16) (s : State) : State :=
  s.onStore fun t => { t with state := .protecting, ended := false, since := s.timeBase, newWord := some word }

/-- The word of SET_PROTECTION: the mask's flags programmed, the lock flag as stored, unused bits 0 (R177, R181). -/
def protectionWord (stored : BitVec 16) (mask : Nat) : BitVec 16 :=
  (~~~(BitVec.ofNat 16 mask) &&& 0x003F#16) ||| (stored &&& 0x8000#16)

/-- The word with the calibration-lock flag programmed, the protection flags as stored, unused bits 0 (R177, R181). -/
def lockedWord (stored : BitVec 16) : BitVec 16 := stored &&& 0x003F#16

/-- PROTECTION_WORD_PROGRAMMED: the stored word is the new one, a reset's copy that waited for it is taken, and
COMPLETED(DONE) is sent (R177, R172). -/
def protectionWordProgrammed (s : State) : State :=
  match s.store.newWord with
  | some word =>
    if s.store.state = .protecting ∧ s.store.ended = false then
      endOperation <| completeStore .done <| s.onStore fun t =>
        { t with protStored := word, protForce := if t.copyDue then word else t.protForce, copyDue := false }
    else s
  | none => s

/-! ### Stored blocks (R178) -/

/-- The stored T5 as a position map: a slot of 0 is empty. -/
def mapOfTable (t : Table) : Grid (Option SensorId) :=
  gridMap (fun p _ => if t5Id t p.val = 0 then none else some (t5Id t p.val)) (Grid.const ())

/-- The stored table T`n`: blocks 0, 1, 2 and 4 hold T1, T2, T3 and T6, block 3 holds T4 and then T5 (12.3). -/
def storedTable (nv : Memory) (n : Nat) : Table :=
  match n with
  | 1 => memReadBytes nv (blockAddr 0 0) 96
  | 2 => memReadBytes nv (blockAddr 1 0) 120
  | 3 => memReadBytes nv (blockAddr 2 0) 32
  | 4 => memReadBytes nv (blockAddr 3 0) 48
  | 5 => memReadBytes nv (blockAddr 3 48) 64
  | 6 => memReadBytes nv (blockAddr 4 0) 144
  | _ => []

/-- The tables of a block. -/
def tablesOfBlock (b : Nat) : List Nat :=
  match b with
  | 0 => [1]
  | 1 => [2]
  | 2 => [3]
  | 3 => [4, 5]
  | 4 => [6]
  | _ => []

/-- What a start-up load finds of a block: none when it is good, 0 when its marker is missing, 1 when a table of it is
invalid (R178). -/
def blockFinding (nv : Memory) (b : Nat) : Option Nat :=
  if markerPresent nv b then
    if (tablesOfBlock b).all fun n => (tableCheck n (storedTable nv n)).isNone then none else some 1
  else some 0

/-- The table a start-up load of its block gives: the stored one of a good block, the default otherwise (R178). -/
def loadedTable (nv : Memory) (b n : Nat) (default : Table) : Table :=
  if (blockFinding nv b).isNone then storedTable nv n else default

/-- STORE_INCOMPLETE of a block at a start-up load: the alert, the capture record, the defaults count (R178). -/
def raiseIncomplete (b : Nat) (s : State) : State :=
  match blockFinding s.store.nv b with
  | some v =>
    (fillCaptureBlock .storeIncomplete (storeSubject b) (raiseAlert .storeIncomplete (storeSubject b) v s)).onStore
      fun t => { t with defaults := satInc t.defaults }
  | none => s

end Sys2Proof.Machine
end

