-- ==== Sys2Proof/Machine/Estimator.lean ====
section
/-! DEFINITION. The load estimator (01): taking a sample set, the load curve and ratio, overload, T2, and the arithmetic of
the braking characteristic. -/

namespace Sys2Proof.Machine

open Sys2Proof

/-! ### Load curve and load ratio (R8, R9) -/

/-- Rounded linear interpolation on one segment of a curve: the point `x` from (x0, y0) to (x1, y1) (R8). -/
def segmentLoad (x x0 y0 x1 y1 : Nat) : Nat := y0 + ((x - x0) * (y1 - y0) + (x1 - x0) / 2) / (x1 - x0)

/-- The load from segment `i` of `n` remaining segments: the first whose upper end lies above bf. -/
def curveFrom (t : Table) (g : Group) (bf : Nat) : Nat → Nat → Nat
  | 0, i => t2L t g i
  | n + 1, i =>
    if bf < t2B t g (i + 1) then segmentLoad bf (t2B t g i) (t2L t g i) (t2B t g (i + 1)) (t2L t g (i + 1))
    else curveFrom t g bf n (i + 1)

/-- The load estimate of a filtered bellows pressure by a group's load curve (R8). -/
def loadOf (t : Table) (g : Group) (bf : Nat) : Nat :=
  if bf ≤ t2B t g 0 then t2L t g 0 else curveFrom t g bf (t2Points t g - 1) 0

/-- The load ratio of a load estimate (R9). -/
def ratioOf (t : Table) (g : Group) (load : Nat) : Nat :=
  let le := t2Empty t g
  let ll := t2Laden t g
  if load ≤ le then 0 else if ll ≤ load then 4096 else ((load - le) * 4096 + (ll - le) / 2) / (ll - le)

/-- The overload level: 110 % of the laden load, truncated (R14). -/
def overloadLevel (t : Table) (g : Group) : Nat := t2Laden t g * 4506 / 4096

/-! ### The braking characteristic (R17, R18) -/

/-- The characteristic factor k of a load ratio (R17). -/
def characteristicFactor (t : Table) (g : Group) (r : Nat) : Nat :=
  t2EmptyRatio t g + ((4096 - t2EmptyRatio t g) * r + 2048) / 4096

/-- The pressure of a demand by the braking characteristic of a group at a load ratio; a demand above 1000 is taken as
1000 (R18). -/
def characteristicAt (t : Table) (g : Group) (r demand : Nat) : Nat :=
  let d := min demand 1000
  if d ≤ t2Onset t g then d else t2Onset t g + ((d - t2Onset t g) * characteristicFactor t g r + 2048) / 4096

/-- The braking characteristic of a group at its current load ratio (R18, R19). -/
def characteristic (s : State) (g : Group) (demand : Nat) : Nat :=
  characteristicAt s.tables.t2 g (estimate s g).ratio demand

/-! ### Taking a sample set -/

/-- The bellows pressure of a group on the set (R4). -/
def bellowsPressure (s : State) (g : Group) : Option Nat :=
  match reading s (inputBellows g .left), reading s (inputBellows g .right) with
  | some l, some r => some ((l + r + 1) / 2)
  | some l, none => some l
  | none, r => r

/-- The freeze condition of a group (R2). -/
def freezeCondition (s : State) (g : Group) : Bool :=
  decide (t2FreezeDemand s.tables.t2 g < demandLevel s) || !rollIdle s ||
    match lateral s with
    | some a => decide (t2FreezeAccel s.tables.t2 g < a.natAbs)
    | none => false

/-- An estimate with filter state F and what follows from it: bf, L and r (R5, R6). -/
def withFilter (t : Table) (g : Group) (filter : Nat) (e : Estimate) : Estimate :=
  let bf := (filter + 8) / 16
  { e with filter := some filter, bellows := bf, load := loadOf t g bf, ratio := ratioOf t g (loadOf t g bf) }

/-- The overload flag of a VALID group judged against its level; a rise requests a TL3 increment (R14). -/
def judgeOverload (g : Group) (s : State) : State :=
  let above := decide (overloadLevel s.tables.t2 g < (estimate s g).load)
  let rise := above && !(estimate s g).overload
  let s := s.onEstimate g fun e => { e with overload := above }
  if rise then requestTally tallyOverloads s else s

/-- Seeding of an INVALID estimate (R5). -/
def seedEstimate (g : Group) (b : Nat) (s : State) : State :=
  judgeOverload g <| s.onEstimate g fun e =>
    { withFilter s.tables.t2 g (16 * b) e with state := .valid, fallbackReported := false }

/-- An unfrozen update of a VALID estimate (R6). -/
def updateEstimate (g : Group) (b : Nat) (s : State) : State :=
  judgeOverload g <| s.onEstimate g fun e =>
    let f := e.filter.getD 0
    withFilter s.tables.t2 g (f + b - (f + 8) / 16) e

/-- A VALID estimate that becomes INVALID (R11). -/
def invalidateEstimate (g : Group) (s : State) : State :=
  s.onEstimate g fun e =>
    { e with
      state := .invalid
      ratio := t2Fallback s.tables.t2 g
      invalidSince := s.timeBase
      fallbackReported := false }

/-- What an unfrozen set does to a group's estimate (R5, R6, R11). -/
def unfrozenStep (g : Group) (s : State) : State :=
  match (estimate s g).state, bellowsPressure s g with
  | .invalid, some b => seedEstimate g b s
  | .invalid, none => s
  | .valid, some b => updateEstimate g b s
  | .valid, none => if runLasted s.timeBase (estimate s g).absentSince 10000 then invalidateEstimate g s else s

/-- LOAD_FALLBACK, once in each INVALID spell of 10 s (R12). -/
def reportFallback (g : Group) (s : State) : State :=
  let e := estimate s g
  if e.state = .invalid ∧ e.fallbackReported = false ∧ reached s.timeBase e.invalidSince 10000 then
    raiseAlert .loadFallback (groupSubject g) (t2Fallback s.tables.t2 g)
      (s.onEstimate g fun e => { e with fallbackReported := true })
  else s

/-- The freeze flag and the bellows-absent time of a group on a set (R2, R4). -/
def noteSet (g : Group) (s : State) : State :=
  s.onEstimate g fun e =>
    { e with
      freeze := freezeCondition s g
      absentSince := runUpdate (bellowsPressure s g).isNone s.timeBase e.absentSince }

/-- One group takes a sample set: freeze flag and bellows, then the update of an unfrozen set, then LOAD_FALLBACK
(R2, R4 to R7, R11, R12). -/
def estimateTakesSet (g : Group) (s : State) : State :=
  let s1 := noteSet g s
  reportFallback g (if freezeCondition s g then s1 else unfrozenStep g s1)

/-- The load estimator takes a sample set, group A before group B: DESIGN CHOICE, unsafe (log 51). -/
def estimatorTakesSet (s : State) : State := estimateTakesSet .b (estimateTakesSet .a s)

/-! ### Activation of T2 (R16) -/

/-- What an activated T2 does to one group: a VALID group's L and r are recomputed and its overload judged, an INVALID
group takes the new fallback ratio (R16). -/
def estimateTakesT2 (g : Group) (s : State) : State :=
  match (estimate s g).state with
  | .valid =>
    judgeOverload g <| s.onEstimate g fun e =>
      { e with load := loadOf s.tables.t2 g e.bellows, ratio := ratioOf s.tables.t2 g (loadOf s.tables.t2 g e.bellows) }
  | .invalid => s.onEstimate g fun e => { e with ratio := t2Fallback s.tables.t2 g }

/-- T2 activation at the load estimator (R16). -/
def estimatorTakesT2 (s : State) : State := estimateTakesT2 .b (estimateTakesT2 .a s)

end Sys2Proof.Machine
end

