-- ==== Sys2Proof/Machine/Arbiter.lean ====
section
/-! DEFINITION. The pressure arbiter (03) and the valve command port (02 section 2.5): driver demand, ceilings, fail-safe
state, faults, halts, the target and the valve command records. -/

namespace Sys2Proof.Machine

open Sys2Proof

/-! ### Driver demand (R41) -/

/-- The driver demand and its source as derived from the demand state, the electric demand and the control line (R41). -/
def derivedDemand (s : State) : Nat × DemandSource :=
  match s.link.state with
  | .fresh => (s.link.demand, .electric)
  | .stale => (s.link.demand, .electric)
  | .lost =>
    match reading s inputControl with
    | some p => (p, .controlLine)
    | none => (0, .nothing)
  | .nothing => (0, .nothing)

/-- The arbiter derives the driver demand again (R41). -/
def deriveDemand (s : State) : State :=
  s.onArbiter fun a => { a with demand := (derivedDemand s).1, source := (derivedDemand s).2 }

/-! ### Ceilings (R20 to R22) -/

/-- The derate of a channel: the T4 factor while its group side is derated, 4096 otherwise and for an unassigned channel
(R20). -/
def channelDerate (s : State) (c : Channel) : Nat :=
  if assigned s c && channelDerated s c then t4Derate s.tables.t4 else 4096

/-- The nominal ceiling of a channel (R20). -/
def nominalCeiling (s : State) (c : Channel) : Nat := t1PMax s.tables.t1 c * channelDerate s c / 4096

/-- The effective ceiling moved towards a nominal one: a rise at once, a fall by at most 20 kPa (R21). -/
def movedCeiling (nominal ceiling : Nat) : Nat := if ceiling ≤ nominal then nominal else max nominal (ceiling - 20)

/-- Every channel's effective ceiling moved on a sample set (R21). -/
def moveCeilings (s : State) : State :=
  s.onArbiter fun a =>
    { a with channels := quadMap (fun c r =>
        { r with derate := channelDerate s c, ceiling := movedCeiling (nominalCeiling s c) r.ceiling }) a.channels }

/-- Every channel's effective ceiling set to its nominal ceiling (R22). -/
def setCeilings (s : State) : State :=
  s.onArbiter fun a =>
    { a with channels := quadMap (fun c r =>
        { r with derate := channelDerate s c, ceiling := nominalCeiling s c }) a.channels }

/-! ### Leaving and entering channel states -/

/-- A channel that goes to START, or to BACKUP with a reason: its HOLD and deviation timers become none. -/
def goTo (state : ChanState) (reason : Option BackupReason) (r : ChannelRec) : ChannelRec :=
  { r with state := state, reason := reason, holdTimer := none, deviation := none }

/-- A channel that goes to ACTIVE (R43). -/
def goActive (r : ChannelRec) : ChannelRec := { r with state := .active, reason := none, holdTimer := none }

/-- A channel that goes to HALTED with a test pressure; its strap-pending flag clears (R44, R57, R58). A channel that
passes from ACTIVE straight to HALTED keeps its deviation timer (R53). -/
def goHalted (pressure : Nat) (r : ChannelRec) : ChannelRec :=
  { r with state := .halted, reason := none, holdTimer := none, haltPressure := pressure, strapPending := false }

/-- A channel that goes to HOLD with a held target; the HOLD timer starts (R47, R48). -/
def goHold (held : Nat) (now : Stamp) (r : ChannelRec) : ChannelRec :=
  { r with state := .hold, reason := none, heldTarget := held, holdTimer := some now, deviation := none }

/-- HALT_ABANDONED of a channel, with its test pressure (R59). -/
def raiseAbandoned (c : Channel) (s : State) : State :=
  raiseAlert .haltAbandoned (channelSubject c) (chan s c).haltPressure s

/-! ### Faults (R50 to R52) -/

/-- A sympathy backup of one channel: an ACTIVE, HOLD or HALTED channel goes to BACKUP with reason SYMPATHY, a HALTED one
raises HALT_ABANDONED, and a pending halt is cancelled (R51). -/
def sympathyBackup (c : Channel) (s : State) : State :=
  let back := fun s : State => cancelPendingHalt c (s.onChannel c (goTo .backup (some .sympathy)))
  match (chan s c).state with
  | .active => back s
  | .hold => back s
  | .halted => back (raiseAbandoned c s)
  | .start => s
  | .backup => s
  | .faulted => s

/-- The fault policy at an entry of channel `c` into FAULTED (R51). -/
def applyPolicy (c : Channel) (s : State) : State :=
  if t1PolicyAll s.tables.t1 then
    allChannels.foldl (fun s d => if d = c then s else sympathyBackup d s) s
  else s

/-- The entry of a channel into FAULTED with a cause, from any other state (R50). -/
def enterFaulted (c : Channel) (cause : FaultCause) (s : State) : State :=
  let s := s.onChannel c fun r => { goTo .faulted none r with cause := some cause }
  let s := raiseAlert .channelFault (channelSubject c) (faultCauseCode cause) s
  let s := requestTally tallyFaults s
  let s := fillCaptureChannel .channelFault c s
  applyPolicy c (cancelPendingHalt c s)

/-- An error event of a channel: its counter rises by one up to 15, and at the threshold a channel that is not FAULTED
enters FAULTED with cause COUNTER (R52). -/
def errorEvent (c : Channel) (s : State) : State :=
  let s := s.onChannel c fun r => { r with errors := min (r.errors + 1) 15 }
  if (chan s c).state ≠ .faulted ∧ t1Threshold s.tables.t1 ≤ (chan s c).errors then enterFaulted c .counter s else s

/-- A hard failure: a channel that is not FAULTED has its counter set to the threshold if it is below it and enters
FAULTED at once (R55, R56). -/
def hardFault (c : Channel) (cause : FaultCause) (s : State) : State :=
  if (chan s c).state = .faulted then s
  else enterFaulted c cause (s.onChannel c fun r => { r with errors := max r.errors (t1Threshold s.tables.t1) })

/-! ### The fail-safe state (R46, R47) -/

/-- The fail-safe state of the sample-loss state and the demand state (R46). -/
def failSafeOf (s : State) : FailSafe :=
  if s.sample.loss = .lost then .fsB else if s.link.state = .lost then .fsA else .normal

/-- Entry to FS_B of one channel: an ACTIVE or HALTED channel goes to BACKUP(FAILSAFE), or to HOLD by its FS-B mode; a
HALTED one raises HALT_ABANDONED and holds its bounded test pressure; a pending halt is cancelled (R47). -/
def channelEntersFsB (c : Channel) (s : State) : State :=
  let r := chan s c
  let leave := fun (held : Nat) (s : State) =>
    s.onChannel c (if t1FsbHold s.tables.t1 c then goHold held s.timeBase else goTo .backup (some .failsafe))
  let s := match r.state with
    | .active => leave r.cmdTarget s
    | .halted => leave (min r.haltPressure r.ceiling) (raiseAbandoned c s)
    | .start => s
    | .backup => s
    | .hold => s
    | .faulted => s
  cancelPendingHalt c s

/-- Whether a channel is in HOLD, or in BACKUP with reason FAILSAFE. -/
def heldOrFailsafe (r : ChannelRec) : Bool :=
  (r.state == .hold) || ((r.state == .backup) && (r.reason == some .failsafe))

/-- Entry to FS_A of one channel (R47). -/
def channelEntersFsA (s : State) (c : Channel) (r : ChannelRec) : ChannelRec :=
  if t1FsaBackup s.tables.t1 c then
    if r.state = .active ∨ heldOrFailsafe r then goTo .backup (some .failsafe) r else r
  else if heldOrFailsafe r then goTo .start none r else r

/-- Entry to NORMAL of one channel (R47). -/
def channelEntersNormal (r : ChannelRec) : ChannelRec := if heldOrFailsafe r then goTo .start none r else r

/-- The arbiter evaluates the fail-safe state again; a change moves the channels (R46, R47). -/
def evaluateFailSafe (s : State) : State :=
  let new := failSafeOf s
  if new = s.arbiter.failSafe then s
  else
    let s := s.onArbiter fun a => { a with failSafe := new }
    match new with
    | .fsB => allChannels.foldl (fun s c => channelEntersFsB c s) s
    | .fsA => s.onArbiter fun a => { a with channels := quadMap (channelEntersFsA s) a.channels }
    | .normal => s.onArbiter fun a => { a with channels := quadMap (fun _ r => channelEntersNormal r) a.channels }

/-- HOLD_TIMER_EXPIRY: 500 ms after entry to HOLD the channel goes to BACKUP with reason FAILSAFE (R48). -/
def holdTimerExpiry (c : Channel) (s : State) : State :=
  if (chan s c).state = .hold ∧ runLasted s.timeBase (chan s c).holdTimer 500 then
    s.onChannel c (goTo .backup (some .failsafe))
  else s

/-! ### The target (R40, R45) -/

/-- The driver target of a channel (R45). -/
def driverTarget (s : State) (c : Channel) : Nat :=
  match s.arbiter.source with
  | .nothing => 0
  | .electric => characteristic s (t1Group s.tables.t1 c) s.arbiter.demand
  | .controlLine => characteristic s (t1Group s.tables.t1 c) s.arbiter.demand

/-- The emergency contribution of a channel (R45). -/
def emergencyContribution (s : State) (c : Channel) : Nat :=
  if s.air.presence = .lost then characteristic s (t1Group s.tables.t1 c) (t1Emergency s.tables.t1) else 0

/-- A channel in ACTIVE with its three contributions as computed for a record (R45); another channel keeps those it last
had (log 13). -/
def withContributions (s : State) (c : Channel) (r : ChannelRec) : ChannelRec :=
  if r.state = .active then
    { r with
      driverTarget := driverTarget s c
      rollContribution := quadGet s.roll.contributions c
      emergency := emergencyContribution s c }
  else r

/-- The mode and target a channel record commands (R40, R45). -/
def commandOf (r : ChannelRec) : Command :=
  match r.state with
  | .start => ⟨false, 0⟩
  | .active => ⟨true, min r.ceiling (max r.driverTarget (max r.rollContribution r.emergency))⟩
  | .backup => ⟨false, 0⟩
  | .hold => ⟨true, min r.heldTarget r.ceiling⟩
  | .halted => ⟨true, min r.haltPressure r.ceiling⟩
  | .faulted => ⟨false, 0⟩

/-- A channel record with its contributions, mode and target computed for a record (R40). -/
def computeChannel (s : State) (c : Channel) (r : ChannelRec) : ChannelRec :=
  let r := withContributions s c r
  { r with cmdPressure := (commandOf r).pressure, cmdTarget := (commandOf r).target }

/-- Every channel's commanded mode and target computed for a record (R40), which is the next one after a T1 activation
(R38). -/
def computeCommands (s : State) : State :=
  s.onArbiter fun a => { a with channels := quadMap (computeChannel s) a.channels, backupNext := false }

/-! ### Valve command records (R32, R33) -/

/-- The record of the channels' latest commanded modes and targets. -/
def recordOf (kind : RecordKind) (seq : Byte) (s : State) : ValveRecord :=
  { kind := kind, seq := seq
    commands := quadMap (fun _ r => { pressure := r.cmdPressure, target := r.cmdTarget }) s.arbiter.channels }

/-- The port begins to transmit a record: the missing-status count rises when no status record has been taken since the
previous record was sent (R34). -/
def beginTransmit (r : ValveRecord) (v : ValvePort) : ValvePort :=
  { v with
    tx := some r
    missingStatus := if v.lastSent.isSome && !v.answered then satInc v.missingStatus else v.missingStatus }

/-- A record composed: it replaces a waiting one, waits behind a transmission, or is transmitted at once (R32; log 11). -/
def sendRecord (r : ValveRecord) (now : Stamp) (v : ValvePort) : ValvePort :=
  let v := { v with composedAt := some now }
  if v.slot.isSome then { v with slot := some r, superseded := satInc v.superseded }
  else if v.tx.isSome then { v with slot := some r }
  else beginTransmit r v

/-- VALVE_RECORD_SENT: the transmission in progress completes (R32). -/
def valveRecordSent (s : State) : State :=
  match s.valve.tx with
  | some r =>
    s.onValve fun v =>
      { v with
        tx := none
        lastSent := some r.seq
        answered := false
        normalSent := v.normalSent || (r.kind == .normal) }
  | none => s

/-- PENDING_RECORD_TRANSMIT: the waiting record is transmitted once the transmission in progress has completed (R32). -/
def pendingRecordTransmit (s : State) : State :=
  match s.valve.tx, s.valve.slot with
  | none, some r => s.onValve fun v => beginTransmit r { v with slot := none }
  | none, none => s
  | some _, _ => s

/-- Whether a refresh record is due: 10 ms after the composition of the latest record, once the first NORMAL record since
the reset has been sent, and not while the RESET line holds the port (R33, R36). -/
def refreshIsDue (s : State) : Bool :=
  s.valve.normalSent && !s.resetLine && runLasted s.timeBase s.valve.composedAt 10

/-- REFRESH_DUE: the arbiter computes every channel's mode and target and the port sends a REFRESH record (R33, R40). -/
def refreshDue (s : State) : State :=
  if refreshIsDue s then
    let s := computeCommands s
    s.onValve (sendRecord (recordOf .refresh (s.valve.lastSent.getD 0) s) s.timeBase)
  else s

/-! ### Driver status records (R34, R55) -/

/-- A driver status other than OK as a fault cause. -/
def statusCause : DriverStatus → Option FaultCause
  | .ok => none
  | .coilOpen => some .coilOpen
  | .coilShort => some .coilShort
  | .overTemp => some .overTemp

/-- The arbiter examines one channel's driver status (R55). -/
def examineStatus (bytes : List Byte) (s : State) (c : Channel) : State :=
  match statusCause (driverStatus bytes c) with
  | some cause => if assigned s c then hardFault c cause s else s
  | none => s

/-- The port takes a status record (R34). -/
def takeStatus (bytes : List Byte) (v : ValvePort) : ValvePort :=
  { v with
    lastStatus := quadMap (fun c _ => some (driverStatus bytes c)) v.lastStatus
    answered := true
    lateStatus := if some (bytes.getD 0 0) = v.lastSent then v.lateStatus else satInc v.lateStatus }

/-- DRIVER_STATUS_RECORD (R34, R55). One that arrives whole while the RESET line is asserted is taken: DEDUCED, unsafe (log
52). -/
def driverStatusRecord (bytes : List Byte) (s : State) : State :=
  if driverStatusOk bytes then allChannels.foldl (examineStatus bytes) (s.onValve (takeStatus bytes))
  else s.onValve fun v => { v with statusErrors := satInc v.statusErrors }

/-! ### Taking a sample set (R42) -/

/-- Step 1: the driver demand and the last delivered pressures. -/
def storeDelivered (s : State) : State :=
  s.onArbiter fun a =>
    { a with channels := quadMap (fun c r => { r with delivered := inputValue s (inputDelivered c) }) a.channels }

/-- The deviation check of a channel whose settle time has passed (R53). -/
def deviationCheck (c : Channel) (s : State) : State :=
  let r := chan s c
  match r.deviation with
  | some d =>
    if (r.state = .active ∨ r.state = .halted) ∧ reached s.timeBase d.start (t1Settle s.tables.t1) ∧
        t1Band s.tables.t1 < absDiff r.delivered r.cmdTarget then
      errorEvent c (s.onChannel c fun r => { r with deviation := some { d with start := s.timeBase } })
    else s
  | none => s

/-- Step 3 of one channel: an INVALID delivered-pressure input faults an assigned channel in ACTIVE, BACKUP, HOLD or
HALTED; otherwise the deviation check is made (R42, R53, R56). -/
def superviseChannel (s : State) (c : Channel) : State :=
  if assigned s c then
    if (input s (inputDelivered c)).status = .invalid then
      match (chan s c).state with
      | .active => hardFault c .deliveredInvalid s
      | .backup => hardFault c .deliveredInvalid s
      | .hold => hardFault c .deliveredInvalid s
      | .halted => hardFault c .deliveredInvalid s
      | .start => s
      | .faulted => s
    else deviationCheck c s
  else s

/-- Step 4 of one channel: the control-line checks of FS_A (R49). -/
def controlLineCheck (s : State) (c : Channel) (r : ChannelRec) : ChannelRec :=
  if s.arbiter.failSafe = .fsA ∧ t1FsaBackup s.tables.t1 c = false then
    if r.state = .active ∧ inputValid s inputControl = false then goTo .backup (some .failsafe) r
    else if (r.state = .backup ∧ r.reason = some .failsafe) ∧ inputValid s inputControl then goTo .start none r
    else r
  else r

/-- Step 4. -/
def controlLineChecks (s : State) : State :=
  s.onArbiter fun a => { a with channels := quadMap (controlLineCheck s) a.channels }

/-- A pending halt on a sample set: taken, cancelled, or left waiting (R58; the cases in the order of the rule, log 14). -/
def pendingHaltStep (c : Channel) (h : PendingHalt) (s : State) : State :=
  if rollIdle s && demandLow s then endPendingHalt c .halted (s.onChannel c (goHalted h.pressure))
  else if (vehicleSpeed s).isNone || speedAbove200 s then cancelPendingHalt c s
  else s

/-- A HALTED channel on a sample set: abandoned above 30 kPa or above 200 (R59). -/
def haltedCheck (s : State) (c : Channel) : State :=
  if (chan s c).state = .halted ∧ (demandLow s = false ∨ speedAbove200 s) then
    (raiseAbandoned c s).onChannel c (goTo .start none)
  else s

/-- A channel with a halt pending on a sample set, in whatever state the channel is (R58). -/
def pendingHaltCheck (s : State) (c : Channel) : State :=
  match (chan s c).haltPending with
  | some h => pendingHaltStep c h s
  | none => s

/-- Step 5 of one channel: the rule of HALTED, and then that of a pending halt, in the order in which R42 names them (R59,
R58; log 54). -/
def haltStep (s : State) (c : Channel) : State := pendingHaltCheck (haltedCheck s c) c

/-- Whether a driver demand exists for a channel (R43). -/
def demandExistsFor (s : State) (c : Channel) : Bool :=
  match s.link.state with
  | .fresh => true
  | .stale => true
  | .lost => !t1FsaBackup s.tables.t1 c && inputValid s inputControl
  | .nothing => false

/-- Every condition of R43 but the strap-pending flag. -/
def startConditions (s : State) (c : Channel) : Bool :=
  inputValid s (inputDelivered c) && (s.air.presence == .present) && demandExistsFor s c &&
    (s.arbiter.failSafe != .fsB) && (!t1PolicyAll s.tables.t1 || !anyFaulted s)

/-- Step 6 of one channel: START to ACTIVE, to HALTED by the strap, or to BACKUP(UNASSIGNED) (R43, R44, R39). While the next
record is the first after a T1 activation, which commands BACKUP on every channel, an assigned channel stays in START (R38):
DEDUCED, unsafe (log 53). -/
def leaveStart (s : State) (c : Channel) (r : ChannelRec) : ChannelRec :=
  if r.state = .start then
    if assigned s c then
      if startConditions s c && !s.arbiter.backupNext then
        if r.strapPending then
          if demandLow s && (vehicleSpeed s).isSome && !speedAbove200 s then goHalted 0 r else r
        else goActive r
      else r
    else { goTo .backup (some .unassigned) r with strapPending := false }
  else r

/-- Step 6. -/
def leaveStarts (s : State) : State :=
  s.onArbiter fun a => { a with channels := quadMap (leaveStart s) a.channels }

/-- The deviation timer of a channel after its target is computed (step 7, R53). -/
def updateDeviation (now : Stamp) (r : ChannelRec) : ChannelRec :=
  if r.state = .active ∨ r.state = .halted then
    match r.deviation with
    | none => { r with deviation := some ⟨r.cmdTarget, now⟩ }
    | some d => if 5 ≤ absDiff r.cmdTarget d.reference then { r with deviation := some ⟨r.cmdTarget, now⟩ } else r
  else r

/-- The deviation timers of step 7. -/
def updateDeviations (s : State) : State :=
  s.onArbiter fun a => { a with channels := quadMap (fun _ r => updateDeviation s.timeBase r) a.channels }

/-- Steps 1 to 6 of R42. -/
def arbiterJudges (s : State) : State :=
  let s := moveCeilings (storeDelivered (deriveDemand s))
  let s := controlLineChecks (allChannels.foldl superviseChannel s)
  leaveStarts (allChannels.foldl haltStep s)

/-- Steps 7 and 8 of R42: the commands, the deviation timers, and the NORMAL record handed to the port (R32). -/
def arbiterCommands (s : State) : State :=
  let s := updateDeviations (computeCommands s)
  s.onValve (sendRecord (recordOf .normal (s.sample.lastSeq.getD 0) s) s.timeBase)

/-- The pressure arbiter takes an accepted sample set (R42). -/
def arbiterTakesSet (s : State) : State := arbiterCommands (arbiterJudges s)

/-! ### Activation of T1 (R38) -/

/-- What an activated T1 does to one channel record (R38, R44): the channel leaves its state, its commanded mode becomes
BACKUP with target 0, and the START_HALTED strap applies afresh. A channel that was FAULTED and whose counter is at or
above the new threshold stays so with its cause; a newly FAULTED one enters FAULTED afterwards. -/
def leaveForT1 (s : State) (r : ChannelRec) : ChannelRec :=
  let stays := (r.state == .faulted) && decide (t1Threshold s.tables.t1 ≤ r.errors)
  { goTo (if stays then .faulted else .start) none r with
    cause := if stays then r.cause else none
    cmdPressure := false
    cmdTarget := 0
    strapPending := s.arbiter.strapHalt }

/-- A channel whose counter is at or above the threshold in force enters FAULTED with cause COUNTER, unless it is FAULTED
(R38, R39). -/
def faultByThreshold (s : State) (c : Channel) : State :=
  if (chan s c).state ≠ .faulted ∧ t1Threshold s.tables.t1 ≤ (chan s c).errors then enterFaulted c .counter s else s

/-- T1 activation at the pressure arbiter (R38, R22). -/
def arbiterTakesT1 (s : State) : State :=
  let s := s.onArbiter fun a => { a with channels := quadMap (fun _ r => leaveForT1 s r) a.channels, backupNext := true }
  let s := allChannels.foldl faultByThreshold s
  setCeilings (allChannels.foldl (fun s c => cancelPendingHalt c s) s)

/-! ### Halt, run and clear (R57, R60, R61) -/

/-- Whether HALT_CHANNEL is refused STATE (R57 step 2). -/
def haltRefused (s : State) (c : Channel) : Bool :=
  !assigned s c || ((chan s c).state == .faulted) ||
    (((chan s c).state == .backup) && ((chan s c).reason == some .sympathy)) ||
    (s.arbiter.failSafe == .fsB) || (s.air.presence != .present) || (vehicleSpeed s).isNone || speedAbove200 s ||
    !inputValid s (inputDelivered c)

/-- A channel number of a request: C1-C4 are coded 1-4 (12.1). -/
def channelOf (n : Nat) : Option Channel :=
  match n with
  | 1 => some 0
  | 2 => some 1
  | 3 => some 2
  | 4 => some 3
  | _ => none

/-- HALT_CHANNEL(ch, p) (R57). -/
def haltChannel (tag : Byte) (n p : Nat) (s : State) : State :=
  match channelOf n with
  | none => answer codeHaltChannel tag (.refused .range) s
  | some c =>
    if 1000 < p then answer codeHaltChannel tag (.refused .range) s
    else if haltRefused s c then answer codeHaltChannel tag (.refused .state) s
    else if (chan s c).state = .halted then
      answer codeHaltChannel tag .done (s.onChannel c fun r => { r with haltPressure := p })
    else if (chan s c).haltPending.isSome then answer codeHaltChannel tag (.refused .busy) s
    else if rollIdle s && demandLow s then answer codeHaltChannel tag .done (s.onChannel c (goHalted p))
    else answer codeHaltChannel tag .accepted (s.onChannel c fun r => { r with haltPending := some ⟨p, tag⟩ })

/-- RUN_CHANNEL(ch) (R60). Of a HALTED channel that also has a halt pending both cases are taken: DEDUCED, unsafe (log
54). -/
def runChannel (tag : Byte) (n : Nat) (s : State) : State :=
  match channelOf n with
  | none => answer codeRunChannel tag (.refused .range) s
  | some c =>
    if (chan s c).state = .halted then
      answer codeRunChannel tag .done (cancelPendingHalt c (s.onChannel c (goTo .start none)))
    else if (chan s c).haltPending.isSome then answer codeRunChannel tag .done (cancelPendingHalt c s)
    else answer codeRunChannel tag (.refused .state) s

/-- A SYMPATHY backup released to START (R51, R61). -/
def releaseSympathy (r : ChannelRec) : ChannelRec :=
  if r.state = .backup ∧ r.reason = some .sympathy then goTo .start none r else r

/-- A channel cleared: its counter is 0 and a FAULTED one goes to START (R61). -/
def clearFault (r : ChannelRec) : ChannelRec :=
  if r.state = .faulted then { goTo .start none r with errors := 0, cause := none } else { r with errors := 0 }

/-- CLEAR_CHANNEL(ch) (R61). -/
def clearChannel (tag : Byte) (n : Nat) (s : State) : State :=
  match channelOf n with
  | none => answer codeClearChannel tag (.refused .range) s
  | some c =>
    if stationary s then
      let s := s.onChannel c clearFault
      answer codeClearChannel tag .done <|
        if anyFaulted s then s
        else s.onArbiter fun a => { a with channels := quadMap (fun _ r => releaseSympathy r) a.channels }
    else answer codeClearChannel tag (.refused .state) s

end Sys2Proof.Machine
end

