-- ==== Sys2Proof/Machine/AirSupply.lean ====
section
/-! DEFINITION. The air supervisor (05): supply presence and state, the air reserve account, the control-line check, and
the sample loss. -/

namespace Sys2Proof.Machine

open Sys2Proof

/-- Whether a reading is valid and below a level. -/
def readsBelow (s : State) (i : Fin 16) (level : Nat) : Bool := below (reading s i) level

/-- Whether a reading is valid and at or above a level. -/
def readsAtLeast (s : State) (i : Fin 16) (level : Nat) : Bool := atLeast (reading s i) level

/-! ### Runs and presence (R88, R89) -/

/-- Step 1 of R87: the lost run and the present run (R88). -/
def updateSupplyRuns (s : State) : State :=
  s.onAir fun a =>
    { a with
      lostRun := runUpdate (readsBelow s inputSupply 250) s.timeBase a.lostRun
      presentRun := runUpdate (readsAtLeast s inputSupply 450) s.timeBase a.presentRun }

/-- The supply presence after a set whose runs are up to date (R89). -/
def nextPresence (s : State) : Presence :=
  match s.air.presence with
  | .unknown => if readsAtLeast s inputSupply 450 then .present else .unknown
  | .present => if runLasted s.timeBase s.air.lostRun 100 then .lost else .present
  | .lost => if runLasted s.timeBase s.air.presentRun 1000 then .present else .lost

/-- Step 2 of R87, and the low run, which depends on the presence reached (R88). -/
def movePresence (s : State) : State :=
  let p := nextPresence s
  s.onAir fun a =>
    { a with
      presence := p
      lowRun := runUpdate ((p == .present) && readsBelow s inputReservoir 450) s.timeBase a.lowRun }

/-! ### Supply state (R90 to R93) -/

/-- The supply state by the rows of R90; the first that applies decides. -/
def nextSupplyState (s : State) : SupplyState :=
  let a := s.air
  if a.presence = .lost then .supplyLost
  else if a.presence = .unknown then .unknown
  else
    match reading s inputSupply, reading s inputReservoir with
    | some _, some r =>
      if r < 200 ∨ (a.state = .exhausted ∧ r < 220) then .exhausted
      else if runLasted s.timeBase a.lowRun 1000 ∨ ((a.state = .low ∨ a.state = .exhausted) ∧ r < 470) then .low
      else if 600 ≤ r ∨ (a.state = .ready ∧ 580 ≤ r) then .ready
      else .charging
    | none, _ => .unknown
    | some _, none => .unknown

/-- The effects of entry to SUPPLY_LOST (R91). -/
def enterSupplyLost (s : State) : State :=
  let s := s.onAir fun a => { a with supplyLost := satInc a.supplyLost }
  let s := raiseAlert .supplyLost (blockSubject blockAS) (inputValue s inputSupply) s
  requestTally tallySupplyLosses (fillCaptureBlock .supplyLost (blockSubject blockAS) s)

/-- RESERVOIR_LOW (R93). -/
def raiseReservoirLow (s : State) : State :=
  raiseAlert .reservoirLow (blockSubject blockAS) (inputValue s inputReservoir)
    (s.onAir fun a => { a with reservoirLow := satInc a.reservoirLow })

/-- Step 3 of R87: the supply state is evaluated, and an entry into a different state has its effects (R90 to R93). -/
def evaluateSupply (s : State) : State :=
  let old := s.air.state
  let new := nextSupplyState s
  if new = old then s
  else
    let s := s.onAir fun a => { a with state := new }
    match new with
    | .supplyLost => enterSupplyLost s
    | .exhausted => raiseReservoirLow s
    | .low => if old = .exhausted then s else raiseReservoirLow s
    | .unknown => s
    | .charging => s
    | .ready => s

/-! ### Control-line plausibility (R97) -/

/-- The control-line mismatch of a set: the difference when the condition holds (R97). -/
def mismatchOf (s : State) : Option Nat :=
  match s.link.state, reading s inputControl with
  | .fresh, some p =>
    if 50 < s.link.demand ∧ 50 < p ∧ 80 < absDiff s.link.demand p then some (absDiff s.link.demand p) else none
  | .fresh, none => none
  | .stale, _ => none
  | .lost, _ => none
  | .nothing, _ => none

/-- Step 4 of R87: the control-line check (R97). -/
def controlLinePlausibility (s : State) : State :=
  match mismatchOf s with
  | some d =>
    match s.air.mismatchStart with
    | none => s.onAir fun a => { a with mismatchStart := some s.timeBase }
    | some start =>
      if reached s.timeBase start 500 ∧ s.air.mismatchReported = false then
        raiseAlert .controlLineMismatch (blockSubject blockAS) d
          (s.onAir fun a => { a with mismatchReported := true, mismatches := satInc a.mismatches })
      else s
  | none => s.onAir fun a => { a with mismatchStart := none, mismatchReported := false }

/-- The air supervisor takes an accepted sample set (R87). -/
def airTakesSet (s : State) : State :=
  controlLinePlausibility (evaluateSupply (movePresence (updateSupplyRuns s)))

/-- The air supervisor takes the declaration of SAMPLE_LOST (R94). -/
def airTakesLoss (s : State) : State :=
  s.onAir fun a =>
    { a with
      lostRun := none
      presentRun := none
      lowRun := none
      state := if a.state = .supplyLost then .supplyLost else .unknown
      mismatchStart := none }

/-! ### The air reserve account (R95, R96) -/

/-- The amount of a commitment: the sum over the named channels of (p_test * v_c + 500) div 1000 (R71, R95). -/
def commitmentAmount (s : State) (channels : List Channel) : Nat :=
  (channels.map fun c => (t3TestPressure s.tables.t3 * t1Volume s.tables.t1 c + 500) / 1000).sum

/-- The projected reservoir: the reservoir in use less the entries of the commitment list, or 0 (R95). -/
def projectedReservoir (s : State) : Nat :=
  inputValue s inputReservoir -
    match s.air.commitment with
    | some e => e.amount
    | none => 0

/-- The air supervisor's answer to a commitment request: the state after it and the amount granted, or none when it is
refused (R95). -/
def requestCommitment (sd : Side) (channels : List Channel) (s : State) : State × Option Nat :=
  let amount := commitmentAmount s channels
  if s.air.commitment.isSome then (s, none)
  else if s.air.state ≠ .ready then (s.onAir fun a => { a with refusedState := satInc a.refusedState }, none)
  else if projectedReservoir s < t3Floor s.tables.t3 + amount then
    (s.onAir fun a => { a with refusedFloor := satInc a.refusedFloor }, none)
  else
    (s.onAir fun a =>
      { a with
        commitment := some { amount := amount, side := sd, channels := channels, time := s.timeBase }
        grants := satInc a.grants }, some amount)

/-- The release of the commitment; an empty list does not change (R96). -/
def releaseCommitment (s : State) : State := s.onAir fun a => { a with commitment := none }

end Sys2Proof.Machine
end

