-- ==== Sys2Proof/Machine/RollMonitor.lean ====
section
/-! DEFINITION. The roll monitor (04): sides and thresholds, the states IDLE, TEST, WATCH, INTERVENE and RECOVER, the
expiry of the roll timer, and the sample loss. -/

namespace Sys2Proof.Machine

open Sys2Proof

/-! ### Sides, speeds and thresholds (R66, R67) -/

/-- The current side: LEFT for a positive a_y, RIGHT for a negative one, none for 0 or an invalid input (R66). -/
def currentSide (s : State) : Option Side :=
  match lateral s with
  | some a => if 0 < a then some .left else if a < 0 then some .right else none
  | none => none

/-- |a_y| of a valid input. -/
def lateralSize (s : State) : Option Nat := (lateral s).map Int.natAbs

/-- The valid speeds of the wheel speed inputs of the assigned channels on a side (R66). -/
def sideSpeeds (s : State) (sd : Side) : List Nat :=
  (channelsOfSide s sd).filterMap fun c => (t1Wheel s.tables.t1 c).bind (wheel s)

/-- v_i: the smallest valid inner wheel speed (R66). -/
def innerSpeed (s : State) (inner : Side) : Option Nat :=
  (sideSpeeds s inner).foldl (fun r v => minReading r (some v)) none

/-- v_o: the largest valid outer wheel speed (R66). -/
def outerSpeed (s : State) (inner : Side) : Option Nat :=
  (sideSpeeds s (otherSide inner)).foldl (fun r v => maxReading r (some v)) none

/-- Whether the derate step applies: the group side of an assigned channel is derated and the derate factor is below
4096 (R67). -/
def derateStepApplies (s : State) : Bool :=
  decide (t4Derate s.tables.t4 < 4096) && allChannels.any fun c => assigned s c && channelDerated s c

/-- The thresholds of the values in force (R67). -/
def computeThresholds (s : State) : Thresholds :=
  let t := s.tables.t3
  let rMax := max s.load.a.ratio s.load.b.ratio
  let aBase := t3EmptyLimit t - ((t3EmptyLimit t - t3LadenLimit t) * rMax + 2048) / 4096
  let aLim := if derateStepApplies s then aBase - t3DerateStep t else aBase
  let aTest := (aLim * t3TestFraction t + 8) / 16
  { rMax := rMax, derateStep := derateStepApplies s, aLim := aLim, aTest := aTest, aRelease := aTest - t3Hysteresis t }

/-- The roll record with its thresholds computed (R67). -/
def updateThresholds (s : State) : State := s.onRoll fun r => { r with thresholds := computeThresholds s }

/-- Whether |a_y| of a valid input is at or above a level. -/
def lateralAtLeast (s : State) (level : Nat) : Bool := atLeast (lateralSize s) level

/-- Whether |a_y| of a valid input is below a level. -/
def lateralBelow (s : State) (level : Nat) : Bool := below (lateralSize s) level

/-- The vehicle speed at or above v_min. -/
def speedVMin (s : State) : Bool := atLeast (vehicleSpeed s) (t3VMin s.tables.t3)

/-- The vehicle speed at or above v_stop. -/
def speedVStop (s : State) : Bool := atLeast (vehicleSpeed s) (t3VStop s.tables.t3)

/-! ### Entries -/

/-- Leaving TEST releases the commitment to the air supervisor (R76). -/
def leaveTest (s : State) : State :=
  if s.roll.state = .test then
    (releaseCommitment s).onRoll fun r => { r with commitment := none, testSide := none }
  else s

/-- A roll record at rest in a state with no contribution, no stretch demand and the timer given. -/
def restIn (state : RollState) (timer : Option Timer) (r : Roll) : Roll :=
  { r with state := state, timer := timer, contributions := Quad.const 0, stretch := 0 }

/-- The monitor goes to IDLE, leaving TEST as R76 requires. -/
def goIdle (s : State) : State := (leaveTest s).onRoll (restIn .idle none)

/-- The monitor goes to WATCH: the 500 ms holdoff starts (R77). -/
def goWatch (s : State) : State := (leaveTest s).onRoll (restIn .watch (some ⟨s.timeBase, 500⟩))

/-- The intervention contributions: the characteristic at D_int for each assigned channel (R78). -/
def interventionContributions (s : State) : Quad Nat :=
  quadMap (fun c _ =>
    if assigned s c then characteristic s (t1Group s.tables.t1 c) (t3Intervention s.tables.t3) else 0)
    s.roll.contributions

/-- The monitor goes to INTERVENE (R78). -/
def goIntervene (s : State) : State :=
  let s := (leaveTest s).onRoll fun r =>
    { r with
      state := .intervene
      timer := none
      contributions := interventionContributions s
      stretch := t3Intervention s.tables.t3
      interventions := satInc r.interventions }
  requestTally tallyInterventions
    (raiseAlert .rollIntervention (blockSubject blockRM) ((lateralSize s).getD 0) s)

/-- The monitor goes to RECOVER: the contributions and the stretch demand keep their values (R79). -/
def goRecover (s : State) : State := s.onRoll fun r => { r with state := .recover, timer := none }

/-- The monitor goes to TEST with a granted commitment (R72). -/
def goTest (inner : Side) (amount : Nat) (s : State) : State :=
  s.onRoll fun r =>
    { r with
      state := .test
      timer := some ⟨s.timeBase, t3PulseLength s.tables.t3⟩
      testSide := some inner
      commitment := some amount
      contributions := quadMap (fun c _ =>
        if assigned s c && (t1Side s.tables.t1 c == inner) then t3TestPressure s.tables.t3 else 0) r.contributions
      stretch := 0
      tests := satInc r.tests }

/-! ### Trying a test (R71) -/

/-- Whether the driver demand is at or below p_on of both groups (R71, R74). -/
def demandBelowOnset (s : State) : Bool :=
  decide (demandLevel s ≤ t2Onset s.tables.t2 .a) && decide (demandLevel s ≤ t2Onset s.tables.t2 .b)

/-- Whether every assigned channel of a side is in ACTIVE. -/
def sideActive (s : State) (sd : Side) : Bool := (channelsOfSide s sd).all fun c => (chan s c).state == .active

/-- Conditions 1 to 3 of a test on an inner side (R71). -/
def testConditions (s : State) (inner : Side) : Bool :=
  demandBelowOnset s && (innerSpeed s inner).isSome && (outerSpeed s inner).isSome &&
    !(channelsOfSide s inner).isEmpty && sideActive s inner

/-- A test that is withheld leaves the monitor in IDLE, or takes it there at the expiry of WATCH (R70, R77). -/
def withholdTest (s : State) : State := (goIdle s).onRoll fun r => { r with withheld := satInc r.withheld }

/-- A test is tried: granted, it enters TEST; otherwise it is withheld (R70 to R72, R77). -/
def tryTest (s : State) : State :=
  match currentSide s with
  | some inner =>
    if testConditions s inner then
      match requestCommitment inner (channelsOfSide s inner) s with
      | (s', some amount) => goTest inner amount s'
      | (s', none) => withholdTest s'
    else withholdTest s
  | none => withholdTest s

/-! ### The rules of the states on a sample set with the lateral acceleration valid -/

/-- IDLE (R70, R84). -/
def idleStep (s : State) : State :=
  let th := s.roll.thresholds
  if t3Enabled s.tables.t3 then
    if lateralAtLeast s th.aLim && speedVMin s then goIntervene s
    else if lateralAtLeast s th.aTest && speedVMin s then tryTest s
    else s
  else s

/-- Whether wheel lift is detected on a test side (R73). -/
def liftDetected (s : State) (inner : Side) : Bool :=
  match innerSpeed s inner, outerSpeed s inner with
  | some vi, some vo =>
    decide (t3VMin s.tables.t3 ≤ vo) && decide (vi * 4096 < vo * (4096 - t3LiftSlip s.tables.t3))
  | some _, none => false
  | none, _ => false

/-- Whether a pulse is aborted (R74 case 2). -/
def pulseAborted (s : State) (inner : Side) : Bool :=
  !demandBelowOnset s || (currentSide s == some (otherSide inner)) || !sideActive s inner || (s.air.state != .ready)

/-- TEST (R73, R74). -/
def testStep (s : State) : State :=
  let th := s.roll.thresholds
  match s.roll.testSide with
  | some inner =>
    if liftDetected s inner then goIntervene (s.onRoll fun r => { r with lifts := satInc r.lifts })
    else if lateralAtLeast s th.aLim && speedVStop s then goIntervene s
    else if pulseAborted s inner then goWatch (s.onRoll fun r => { r with aborts := satInc r.aborts })
    else if lateralBelow s th.aRelease then goIdle (s.onRoll fun r => { r with cuts := satInc r.cuts })
    else s
  | none => s

/-- WATCH (R77). -/
def watchStep (s : State) : State :=
  if lateralAtLeast s s.roll.thresholds.aLim && speedVStop s then goIntervene s else s

/-- The release condition of INTERVENE after its first check (R79 cases 2 to 4). -/
def releaseHold (s : State) : State :=
  if lateralBelow s s.roll.thresholds.aRelease then
    if s.roll.timer.isNone then s.onRoll fun r => { r with timer := some ⟨s.timeBase, 300⟩ } else s
  else s.onRoll fun r => { r with timer := none }

/-- INTERVENE (R79). -/
def interveneStep (s : State) : State :=
  let s := s.onRoll fun r => { r with contributions := interventionContributions s }
  if below (vehicleSpeed s) (t3VStop s.tables.t3) then goRecover s else releaseHold s

/-- One ramp step: every contribution and the stretch demand fall by the ramp, and at a stretch demand of 0 the monitor
goes to IDLE (R80). -/
def rampStep (s : State) : State :=
  let ramp := t3Ramp s.tables.t3
  if s.roll.stretch ≤ ramp then goIdle s
  else s.onRoll fun r =>
    { r with contributions := quadMap (fun _ v => v - ramp) r.contributions, stretch := r.stretch - ramp }

/-- RECOVER (R80). -/
def recoverStep (s : State) : State :=
  if lateralAtLeast s s.roll.thresholds.aLim && speedVStop s then goIntervene s else rampStep s

/-- The rule of the current state on a set with the lateral acceleration valid (R68 step 3). -/
def rollStateStep (s : State) : State :=
  match s.roll.state with
  | .idle => idleStep s
  | .test => testStep s
  | .watch => watchStep s
  | .intervene => interveneStep s
  | .recover => recoverStep s

/-- A test pulse that ends for an invalid lateral acceleration or a sample loss: the abort count rises (R82, R83). -/
def abortToIdle (s : State) : State := goIdle (s.onRoll fun r => { r with aborts := satInc r.aborts })

/-- The rule of the current state on a set with the lateral acceleration not valid (R82). -/
def rollInvalidStep (s : State) : State :=
  match s.roll.state with
  | .idle => s
  | .test => abortToIdle s
  | .watch => goIdle s
  | .intervene => goRecover s
  | .recover => rampStep s

/-- The roll monitor takes an accepted sample set (R68, R82). -/
def rollTakesSet (s : State) : State :=
  let s := updateThresholds s
  if (lateral s).isSome then rollStateStep (s.onRoll fun r => { r with suspended := false })
  else rollInvalidStep (s.onRoll fun r => { r with suspended := true })

/-! ### The expiry of the roll timer (R69) -/

/-- The expiry in WATCH (R77). -/
def watchExpiry (s : State) : State :=
  let th := s.roll.thresholds
  if (lateral s).isNone then goIdle s
  else if lateralAtLeast s th.aLim && speedVStop s then goIntervene s
  else if lateralAtLeast s th.aTest && speedVMin s then tryTest s
  else goIdle s

/-- The expiry in TEST: the pulse has run its full length (R75), or ends as R82 sets out when the input is not valid. -/
def testExpiry (s : State) : State :=
  if (lateral s).isNone then abortToIdle s
  else goWatch (s.onRoll fun r => { r with timeouts := satInc r.timeouts })

/-- ROLL_TIMER_EXPIRY (R69). -/
def rollTimerExpiry (s : State) : State :=
  if timerExpired s.timeBase s.roll.timer then
    let s := updateThresholds s
    match s.roll.state with
    | .test => testExpiry s
    | .watch => watchExpiry s
    | .intervene => goRecover s
    | .idle => s
    | .recover => s
  else s

/-- The roll monitor takes the declaration of SAMPLE_LOST (R83). It computes no thresholds (R67), so a declaration that is the
first event after a reset leaves them as the reset did: DEDUCED, unsafe (log 68). -/
def rollTakesLoss (s : State) : State :=
  (if s.roll.state = .test then abortToIdle s else goIdle s).onRoll fun r => { r with suspended := true }

end Sys2Proof.Machine
end

