-- ==== Sys2Proof/Machine/TyreReceiver.lean ====
section
/-! DEFINITION. The tyre receiver (06): hunting for the sync word, assembling and judging a telegram, the telegram queue and
the carrier-present line. -/

namespace Sys2Proof.Machine

open Sys2Proof

/-- The receiver in HUNT with an empty window and an empty buffer (R102, R103); the sync word of T4 applies again (R109). -/
def huntAgain (r : Receiver) : Receiver := { r with state := .hunt, word := none, window := [], buffer := [] }

/-- A good telegram: its entry is queued, or dropped at a queue of eight (R106, R107). -/
def goodTelegram (bytes : List Byte) (now : Stamp) (r : Receiver) : Receiver :=
  if r.queue.length < 8 then
    { r with goods := satInc r.goods, queue := r.queue ++ [telegramEntry bytes now r.latch], latch := false }
  else { r with goods := satInc r.goods, overruns := satInc r.overruns, latch := true }

/-- The judgement of a complete telegram: check byte, ranges, good (R103). -/
def judgeTelegram (bytes : List Byte) (now : Stamp) (r : Receiver) : Receiver :=
  if !telegramCrcOk bytes then { r with crcErrors := satInc r.crcErrors }
  else if !telegramInRange bytes then { r with rangeErrors := satInc r.rangeErrors }
  else goodTelegram bytes now r

/-- The shift window with a bit added as its newest; of 16 bits the oldest is dropped (R101). -/
def shiftIn (window : List Bool) (bit : Bool) : List Bool :=
  if window.length < 16 then window ++ [bit] else window.drop (window.length - 15) ++ [bit]

/-- Whether a window of 16 bits equals the sync word, its oldest bit the word's most significant (R101). -/
def syncMatches (sync : Nat) (window : List Bool) : Bool := decide (window.length = 16) && (bitsNat window == sync)

/-- A bit taken in HUNT (R101); an assembly keeps the sync word that started it (R109). -/
def huntBit (sync : Nat) (bit : Bool) (r : Receiver) : Receiver :=
  if syncMatches sync (shiftIn r.window bit) then
    { r with state := .assemble, word := some sync, window := [], buffer := [], syncs := satInc r.syncs }
  else { r with window := shiftIn r.window bit }

/-- A bit taken in ASSEMBLE: the 80th completes the telegram (R103). -/
def assembleBit (now : Stamp) (bit : Bool) (r : Receiver) : Receiver :=
  let bits := r.buffer ++ [bit]
  if bits.length < 80 then { r with buffer := bits }
  else huntAgain (judgeTelegram (bytesOfBits 10 bits) now r)

/-- A bit clock: the bit is taken only while the carrier is present (R101). -/
def takeBit (bit : Bool) (s : State) : State :=
  s.onRx fun r =>
    if r.carrier then
      match r.state with
      | .hunt => huntBit (t4Sync s.tables.t4) bit r
      | .assemble => assembleBit s.timeBase bit r
    else r

/-- CARRIER_CHANGE: the line takes a level; a level it already has is no change (R102). -/
def carrierChange (level : Bool) (s : State) : State :=
  s.onRx fun r =>
    if r.carrier = level then r
    else
      match r.state with
      | .hunt => { r with carrier := level, window := [] }
      | .assemble =>
        if level then { r with carrier := level }
        else huntAgain { r with carrier := level, aborts := satInc r.aborts }

end Sys2Proof.Machine
end

