-- ==== Sys2Proof/Machine/TyreTable.lean ====
section
/-! DEFINITION. The tyre table (07): readings and tyre states, group-side derates, the unknown sensor list, learning and
binds, the check timer with drag, and what the activation of T1, T4 or T5 does here. -/

namespace Sys2Proof.Machine

open Sys2Proof

/-! ### Group-side derates (R122) -/

/-- Whether a tyre state derates its group side. -/
def deratingState (st : TyreState) : Bool := (st == .veryLow) || (st == .fastLeak)

/-- Whether any position of a group side is VERY_LOW or FAST_LEAK. -/
def sideDerated (s : State) (g : Group) (sd : Side) : Bool :=
  allPositions.any fun p =>
    (positionGroup s p == g) && (positionSide p == sd) && deratingState (tyre s p).state

/-- The four group-side derates evaluated. -/
def evaluateDerates (s : State) : State :=
  s.onTyres fun t =>
    { t with derates := ⟨sideDerated s .a .left, sideDerated s .a .right, sideDerated s .b .left, sideDerated s .b .right⟩ }

/-! ### A reading (R116 to R119) -/

/-- The compensated gauge pressure of an absolute pressure and a temperature (R116 step 3). -/
def compensatedGauge (pressure : Nat) (temperature : Int) : Nat :=
  let k := (temperature + 273).toNat
  (pressure * 293 + k / 2) / k - 101

/-- The target of a group at a load ratio, and its three levels (R117). -/
def targetOf (t : Table) (g : Group) (ratio : Nat) : Target :=
  let te := t4EmptyTarget t g
  let target := te + ((t4LadenTarget t g - te) * ratio + 2048) / 4096
  { target := target, low := target * t4Low t / 4096, veryLow := target * t4VeryLow t / 4096,
    high := target * t4High t / 4096 }

/-- A history with a reading added, when it is empty or its newest reading is 10,000 ms old; of five the oldest is removed
(R116 step 4). -/
def addReading (r : Reading) (h : List Reading) : List Reading :=
  match h.getLast? with
  | some newest =>
    if reached r.time newest.time 10000 then (h ++ [r]).drop (h.length + 1 - 4) else h
  | none => [r]

/-- The leak rate of a history (R118). -/
def leakRate (h : List Reading) : Nat :=
  match h with
  | oldest :: second :: rest =>
    let newest := (second :: rest).getLastD second
    let span := elapsed newest.time oldest.time
    if 20000 ≤ span then (oldest.gauge - newest.gauge) * 60000 / span else 0
  | [_] => 0
  | [] => 0

/-- The record after steps 1 to 5 of a reading (R116). -/
def recordReading (e : Telegram) (target : Target) (r : TyreRec) : TyreRec :=
  let gauge := compensatedGauge e.pressure e.temperature
  let history := addReading ⟨e.time, gauge⟩ (if r.state = .lost then [] else r.history)
  { r with
    pressure := some e.pressure, temperature := some e.temperature, gauge := some gauge, target := some target,
    leak := leakRate history, lastHeard := e.time, lastCounter := some e.counter, batteryLow := e.batteryLow,
    history := history }

/-- The state a reading gives a position with diagnostics (R119). -/
def readingState (t : Table) (e : Telegram) (target : Target) (r : TyreRec) : TyreState :=
  let gauge := compensatedGauge e.pressure e.temperature
  if t4Leak t ≤ r.leak ∨ e.fastLeak then .fastLeak
  else if gauge < target.veryLow then .veryLow
  else if (t4Hot t : Int) ≤ e.temperature then .hot
  else if gauge < target.low then .low
  else if target.high < gauge then .high
  else .ok

/-- The alert of an entry into a state with the value it carries, raised at a time (R119, R159). -/
def tyreAlert (time : Stamp) (p : Position) (st : TyreState) (s : State) : State :=
  let r := tyre s p
  match st with
  | .fastLeak => raiseAlertAt time .tyreFastLeak (tyreSubject p) r.leak s
  | .veryLow => raiseAlertAt time .tyreVeryLow (tyreSubject p) (r.gauge.getD 0) s
  | .hot => raiseAlertAt time .tyreHot (tyreSubject p) (r.temperature.getD 0).toNat s
  | .low => raiseAlertAt time .tyreLow (tyreSubject p) (r.gauge.getD 0) s
  | .high => s
  | .ok => s
  | .absent => s
  | .disabled => s
  | .noData => s
  | .lost => s

/-- The state of a position set after a reading of a time: a state other than the one in force is an entry, after which the
derates are evaluated (R119). -/
def enterTyreState (time : Stamp) (p : Position) (new : TyreState) (s : State) : State :=
  if (tyre s p).state = new then s
  else evaluateDerates (tyreAlert time p new (s.onTyre p fun r => { r with state := new }))

/-- An entry taken as a reading of a position (R116), at its own time stamp (R114); a DISABLED position keeps its state
(R120). -/
def takeReading (p : Position) (e : Telegram) (s : State) : State :=
  let g := positionGroup s p
  let target := targetOf s.tables.t4 g (estimate s g).ratio
  let s1 := s.onTyre p (recordReading e target)
  if (tyre s p).state = .disabled then s1
  else enterTyreState e.time p (readingState s.tables.t4 e target (tyre s1 p)) s1

/-- The readings-taken count raised. -/
def countReading (s : State) : State := s.onTyres fun t => { t with readings := satInc t.readings }

/-! ### Repeats (R115) -/

/-- Whether a hit is a repeat of the record's latest reading (R115). -/
def isRepeat (e : Telegram) (r : TyreRec) : Bool :=
  (r.lastCounter == some e.counter) && (r.state != .lost) && decide (elapsed e.time r.lastHeard ≤ 2000)

/-- The repeats-discarded count raised. -/
def countRepeat (s : State) : State := s.onTyres fun t => { t with repeats := satInc t.repeats }

/-! ### The unknown sensor list (R125, R126) -/

/-- The slots of the list. -/
def unknownSlots : List (Fin 4) := [0, 1, 2, 3]

/-- The slot of the list that holds an ID. -/
def unknownSlotOf (u : Quad (Option UnknownEntry)) (id : SensorId) : Option (Fin 4) :=
  unknownSlots.find? fun k => (quadGet u k).any fun e => e.id == id

/-- The lowest empty slot. -/
def emptySlot (u : Quad (Option UnknownEntry)) : Option (Fin 4) :=
  unknownSlots.find? fun k => (quadGet u k).isNone

/-- Whether the entry of one slot is replaced before that of a later slot: a lower count, or an equal count and an age at
least as large (R126). -/
def replacedBefore (now : Stamp) (x y : Option UnknownEntry) : Bool :=
  match x, y with
  | some a, some b =>
    decide (a.count < b.count) ||
      (decide (a.count = b.count) && decide (elapsed now b.lastHeard ≤ elapsed now a.lastHeard))
  | some _, none => true
  | none, _ => true

/-- The slot whose entry a new ID replaces in a full list (R126). -/
def replacedSlot (now : Stamp) (u : Quad (Option UnknownEntry)) : Fin 4 :=
  let better := fun i j : Fin 4 => if replacedBefore now (quadGet u i) (quadGet u j) then i else j
  better (better (better 0 1) 2) 3

/-- A new entry of the list. -/
def newUnknown (e : Telegram) : UnknownEntry :=
  { id := e.id, count := 1, lastHeard := e.time, lastCounter := e.counter, reported := false }

/-- The list with a slot set. -/
def setUnknown (k : Fin 4) (x : Option UnknownEntry) (s : State) : State :=
  s.onTyres fun t => { t with unknown := quadSet t.unknown k x }

/-- A miss of an ID that stands in slot `k` as entry `u` (R125); UNKNOWN_SENSOR bears the entry's time stamp (R114, R159). -/
def knownMiss (k : Fin 4) (u : UnknownEntry) (e : Telegram) (s : State) : State :=
  if u.lastCounter = e.counter ∧ elapsed e.time u.lastHeard ≤ 2000 then countRepeat s
  else
    let u := { u with count := satInc8 u.count, lastHeard := e.time, lastCounter := e.counter }
    if 3 ≤ u.count ∧ u.reported = false then
      raiseAlertAt e.time .unknownSensor (blockSubject blockTT) k.val (setUnknown k (some { u with reported := true }) s)
    else setUnknown k (some u) s

/-- A miss at the unknown sensor list (R125, R126). -/
def takeMiss (e : Telegram) (s : State) : State :=
  match unknownSlotOf s.tyres.unknown e.id with
  | some k =>
    match quadGet s.tyres.unknown k with
    | some u => knownMiss k u e s
    | none => s
  | none =>
    setUnknown ((emptySlot s.tyres.unknown).getD (replacedSlot s.timeBase s.tyres.unknown)) (some (newUnknown e)) s

/-- The list without the IDs that satisfy a condition. -/
def dropUnknown (mapped : SensorId → Bool) (s : State) : State :=
  s.onTyres fun t =>
    { t with unknown := quadMap (fun _ u => u.filter fun e => !mapped e.id) t.unknown }

/-! ### The position map -/

/-- The slot of the map that holds an ID (R111). -/
def positionOf (m : Grid (Option SensorId)) (id : SensorId) : Option Position :=
  allPositions.find? fun p => gridGet m p == some id

/-- The state a record starts afresh in: DISABLED where T4 disables the position, else NO_DATA where the slot holds an ID,
else ABSENT (R111, R112). -/
def freshState (s : State) (p : Position) (id : Option SensorId) : TyreState :=
  if t4PositionEnabled s.tables.t4 p then (if id.isSome then .noData else .absent) else .disabled

/-- The unsaved-map flag set, by a bind or by a T5 activation (R129). -/
def mapChanged (s : State) : State := s.onTyres fun t => { t with unsaved := true, changedSinceStore := true }

/-! ### Learning (R127, R128) -/

/-- The open session ends with a result (R127). -/
def endSession (result : Completion) (s : State) : State :=
  match s.tyres.session with
  | some l => answer codeLearnPosition l.tag (.completed result) (s.onTyres fun t => { t with session := none })
  | none => s

/-- Step 1 of a bind: another position that holds the ID is emptied (R128). -/
def unbindOther (id : SensorId) (p : Position) (s : State) : State :=
  match positionOf s.tyres.map id with
  | some q =>
    if q = p then s
    else s.onTyres fun t =>
      { t with
        map := gridSet t.map q none
        records := gridSet t.records q (tyreFresh (freshState s q none) s.timeBase) }
  | none => s

/-- Steps 2 to 4 of a bind: the ID leaves the unknown list and takes the slot, whose record starts afresh (R128). -/
def bindSlot (e : Telegram) (p : Position) (s : State) : State :=
  (dropUnknown (fun id => id == e.id) s).onTyres fun t =>
    { t with map := gridSet t.map p (some e.id), records := gridSet t.records p (tyreFresh .noData e.time) }

/-- A learn-flagged entry bound to the session's position (R128). -/
def bindSensor (e : Telegram) (p : Position) (s : State) : State :=
  let s := evaluateDerates (takeReading p e (bindSlot e p (unbindOther e.id p s)))
  countReading (requestBlock3 (mapChanged (endSession .bound s)))

/-- LEARN_POSITION(p, seconds) (R127). -/
def learnPosition (tag : Byte) (n seconds : Nat) (s : State) : State :=
  if h : n < 16 then
    if seconds < 10 ∨ 600 < seconds then answer codeLearnPosition tag (.refused .range) s
    else if s.tyres.session.isSome then answer codeLearnPosition tag (.refused .busy) s
    else if (tyre s ⟨n, h⟩).state = .disabled then answer codeLearnPosition tag (.refused .state) s
    else answer codeLearnPosition tag .accepted (s.onTyres fun t =>
      { t with session := some { position := ⟨n, h⟩, start := s.timeBase, bound := 1000 * seconds, tag := tag } })
  else answer codeLearnPosition tag (.refused .range) s

/-- CANCEL_LEARN: answered DONE with a session open, whose completion follows (R127). -/
def cancelLearn (tag : Byte) (s : State) : State :=
  if s.tyres.session.isSome then endSession .cancelled (answer codeCancelLearn tag .done s)
  else answer codeCancelLearn tag (.refused .state) s

/-- Whether the open session's timer has expired. -/
def sessionExpired (s : State) : Bool :=
  match s.tyres.session with
  | some l => reached s.timeBase l.start l.bound
  | none => false

/-- LEARN_TIMER_EXPIRY (R127). -/
def learnTimerExpiry (s : State) : State := if sessionExpired s then endSession .timeout s else s

/-! ### Taking a telegram entry (R114) -/

/-- Steps 3 to 5: a hit is a repeat or a reading, a miss goes to the unknown sensor list (R114). -/
def ordinaryEntry (e : Telegram) (s : State) : State :=
  match positionOf s.tyres.map e.id with
  | some p => if isRepeat e (tyre s p) then countRepeat s else countReading (takeReading p e s)
  | none => takeMiss e (s.onTyres fun t => { t with misses := satInc t.misses })

/-- Steps 2 to 5 (R114). -/
def judgeEntry (e : Telegram) (s : State) : State :=
  match s.tyres.session with
  | some l =>
    if e.learn ∧ gridGet s.tyres.map l.position ≠ some e.id then bindSensor e l.position s else ordinaryEntry e s
  | none => ordinaryEntry e s

/-- TELEGRAM_ENTRY_TAKEN: the tyre table takes the oldest entry of the telegram queue (R108, R114). -/
def telegramEntryTaken (s : State) : State :=
  match s.rx.queue with
  | e :: rest =>
    let s := s.onRx fun r => { r with queue := rest }
    judgeEntry e (if e.overrunBefore then s.onTyres fun t => { t with marks := satInc t.marks } else s)
  | [] => s

/-! ### Sample sets and the check timer (R121, R123, R124) -/

/-- The tyre table takes an accepted sample set: the zero-demand run (R123). -/
def tyresTakeSet (s : State) : State :=
  s.onTyres fun t => { t with zeroRun := runUpdate (decide (demandLevel s = 0)) s.timeBase t.zeroRun }

/-- Whether a state is one the check timer checks for LOST (R121). -/
def checkedState (st : TyreState) : Bool :=
  match st with
  | .absent => false
  | .disabled => false
  | .lost => false
  | .noData => true
  | .ok => true
  | .high => true
  | .low => true
  | .hot => true
  | .veryLow => true
  | .fastLeak => true

/-- The check of one position for LOST (R121). -/
def checkLost (s : State) (p : Position) : State :=
  let r := tyre s p
  if checkedState r.state && reached s.timeBase r.lastHeard (1000 * t4Lost s.tables.t4) then
    evaluateDerates <| raiseAlert .tyreLost (tyreSubject p) (r.gauge.getD 0) <|
      s.onTyre p fun r => { r with state := .lost }
  else s

/-- Every last drag time 60,000 ms old or more set to none (R124). -/
def ageDrags (s : State) : State :=
  s.onTyres fun t =>
    { t with records := gridMap (fun _ r =>
        { r with lastDrag := if runLasted s.timeBase r.lastDrag 60000 then none else r.lastDrag }) t.records }

/-- The conditions of a drag event but for the serving channel (R124). -/
def dragConditions (s : State) (p : Position) : Bool :=
  ((tyre s p).state == .hot) && runLasted s.timeBase s.tyres.zeroRun 30000 && atLeast (vehicleSpeed s) 500 &&
    (tyre s p).lastDrag.isNone

/-- The drag check of one position (R124, R54). -/
def checkDrag (s : State) (p : Position) : State :=
  match servingChannel s (positionGroup s p) (positionSide p) with
  | some c =>
    if dragConditions s p then
      (raiseAlert .brakeDrag (channelSubject c) p.val (errorEvent c s)).onTyre p fun r =>
        { r with lastDrag := some s.timeBase }
    else s
  | none => s

/-- The zero-demand run ended by a driver demand above 0 (R123). -/
def endZeroRun (s : State) : State :=
  if 0 < demandLevel s then s.onTyres fun t => { t with zeroRun := none } else s

/-- CHECK_TIMER_EXPIRY: the timer restarts, the positions are checked for LOST and then for drag (R112, R121, R123,
R124). The zero-demand run is ended by a demand above 0 before the check for drag: DESIGN CHOICE, unsafe (log 59). The check
for LOST comes before that for drag: DESIGN CHOICE, unsafe (log 71). The positions are checked for LOST in ascending order,
which R121 leaves open: DESIGN CHOICE, unsafe (log 74). -/
def checkTimerExpiry (s : State) : State :=
  if reached s.timeBase s.tyres.checkStart 1000 then
    let s := endZeroRun (s.onTyres fun t => { t with checkStart := s.timeBase })
    allPositions.foldl checkDrag (ageDrags (allPositions.foldl checkLost s))
  else s

/-! ### Activations (R120, R130) -/

/-- A record when the diagnostics enable of its position may have changed (R120). -/
def takeEnable (was is : Bool) (id : Option SensorId) (now : Stamp) (r : TyreRec) : TyreRec :=
  if was = is then r
  else if is then { r with state := if id.isSome then .noData else .absent, lastHeard := now, history := [] }
  else { r with state := .disabled }

/-- A session whose position the new T4 disables is cancelled (R127). -/
def cancelDisabledSession (s : State) : State :=
  match s.tyres.session with
  | some l => if (tyre s l.position).state = .disabled then endSession .cancelled s else s
  | none => s

/-- The tyre table takes an activated T4, the T4 in force until then given (R120). -/
def tyresTakeT4 (old : Table) (s : State) : State :=
  let s := s.onTyres fun t =>
    { t with records := gridMap (fun p r =>
        takeEnable (t4PositionEnabled old p) (t4PositionEnabled s.tables.t4 p) (gridGet t.map p) s.timeBase r) t.records }
  evaluateDerates (cancelDisabledSession s)

/-- The tyre table takes an activated T1 (R130). -/
def tyresTakeT1 (s : State) : State := evaluateDerates s

/-- A record when its slot may have changed (R111, R130). -/
def takeSlot (s : State) (p : Position) (old new : Option SensorId) (r : TyreRec) : TyreRec :=
  if old = new then r else tyreFresh (freshState s p new) s.timeBase

/-- The tyre table takes an activated T5 (R130). -/
def tyresTakeT5 (t5 : Table) (s : State) : State :=
  let new := mapOfTable t5
  let s := s.onTyres fun t =>
    { t with
      map := new
      records := gridMap (fun p r => takeSlot s p (gridGet t.map p) (gridGet new p) r) t.records }
  evaluateDerates (mapChanged (dropUnknown (fun id => (positionOf new id).isSome) s))

end Sys2Proof.Machine
end

