-- ==== Sys2Proof/Machine/RelayQueues.lean ====
section
/-! DEFINITION. The relay (09): the relayed queue and the front port, the rearward queue and the rear port with its states,
the routing table, and isolation. -/

namespace Sys2Proof.Machine

open Sys2Proof

/-! ### The relayed queue (R152) -/

/-- Whether a frame is an alert: every other frame of the relayed queue is routine. -/
def isAlert (f : CanFrame) : Bool := frameClass f == classAlert

/-- The relay drop count raised by a number of frames (R158). -/
def dropFrames (k : Nat) (r : Relay) : Relay := { r with drops := satAdd r.drops k }

/-- Whether a queued frame is a routine frame that is not in transmission. -/
def displaceable (e : RelayedFrame) : Bool := !isAlert e.frame && !e.inTx

/-- A frame arriving for the relayed queue (R152). -/
def placeRelayed (f : CanFrame) (r : Relay) : Relay :=
  if r.relayed.length < 16 then { r with relayed := r.relayed ++ [⟨f, false⟩] }
  else if !isAlert f then dropFrames 1 { r with relayedRoutineFull := satInc r.relayedRoutineFull }
  else if r.relayed.any displaceable then
    dropFrames 1 { r with relayed := r.relayed.eraseP displaceable ++ [⟨f, false⟩], displaced := satInc r.displaced }
  else dropFrames 1 { r with relayedAlertFull := satInc r.relayedAlertFull }

/-! ### The rearward queue (R154) -/

/-- Whether a queued item is the DEMAND frame. -/
def isDemandItem (i : RearItem) : Bool :=
  match i with
  | .demand _ _ _ _ => true
  | .frame _ => false

/-- Whether a queued item is a DEMAND or a POSITION frame of the link engine. -/
def isLinkItem (i : RearItem) : Bool :=
  match i with
  | .demand _ _ _ _ => true
  | .frame f => frameClass f == classPosition

/-- A refused offer (R154). -/
def refuseOffer (r : Relay) : Relay := dropFrames 1 { r with rearRefused := satInc r.rearRefused }

/-- A DEMAND frame in the place of the one queued. -/
def replaceDemand (i : RearItem) (q : List RearItem) : List RearItem := q.map fun x => if isDemandItem x then i else x

/-- An accepted frame placed in the rearward queue (R154). -/
def placeRear (i : RearItem) (r : Relay) : Relay :=
  if isDemandItem i && r.rearward.any isDemandItem then
    { r with rearward := replaceDemand i r.rearward, demandReplaced := satInc r.demandReplaced }
  else if r.rearward.length < 8 then { r with rearward := r.rearward ++ [i] }
  else if isDemandItem i then
    dropFrames 1 { r with rearward := r.rearward.drop 1 ++ [i], rearFull := satInc r.rearFull }
  else dropFrames 1 { r with rearFull := satInc r.rearFull }

/-- An offer to the rearward queue, judged by the rear port state (R154). -/
def offerRear (i : RearItem) (r : Relay) : Relay :=
  match r.rear with
  | .held => refuseOffer r
  | .isolated => refuseOffer r
  | .forwarding => placeRear i r
  | .noPartner => if isLinkItem i then placeRear i r else refuseOffer r

/-! ### The rear port state (R156, R157) -/

/-- The frames of the rearward queue that fail a condition removed and counted as flushed. -/
def flushRear (keep : RearItem → Bool) (r : Relay) : Relay :=
  let lost := r.rearward.length - (r.rearward.filter keep).length
  dropFrames lost { r with rearward := r.rearward.filter keep, flushed := satAdd r.flushed lost }

/-- A hand-over during which the rear port state leaves FORWARDING and NO_PARTNER (R155). -/
def markLeft (x : RearTx) : RearTx := { x with left := true }

/-- Entry to HELD. -/
def enterHeld (r : Relay) : Relay := flushRear (fun _ => false) { r with rear := .held, rearTx := r.rearTx.map markLeft }

/-- Entry to NO_PARTNER. -/
def enterNoPartner (r : Relay) : Relay := flushRear isLinkItem { r with rear := .noPartner }

/-- Entry to ISOLATED, which is made while no hand-over is in progress. -/
def enterIsolated (r : Relay) : Relay := flushRear (fun _ => false) { r with rear := .isolated, isolation := none }

/-- The relay when the link engine becomes PLACED (R156). -/
def relayPlaced (r : Relay) : Relay := if r.rear = .held ∧ r.rearOff = false then { r with rear := .forwarding } else r

/-- The relay when the link engine becomes UNPLACED (R156). -/
def relayUnplaced (r : Relay) : Relay := if r.rear = .forwarding ∨ r.rear = .noPartner then enterHeld r else r

/-- Whether the rear port state is FORWARDING or NO_PARTNER. -/
def rearSends (r : Relay) : Bool := (r.rear == .forwarding) || (r.rear == .noPartner)

/-! ### Rear hand-over (R155, R143) -/

/-- The frame of a queued item as it is handed over: a DEMAND frame's value is the larger of the driver demand and the
stretch demand at this moment, and RAISED says that the stretch demand is the larger (R143). -/
def rearFrameOf (s : State) (i : RearItem) : CanFrame :=
  match i with
  | .frame f => f
  | .demand source seq stale substitute =>
    ownFrame 1 classDemand 15 source 0
      (demandPayload (max (demandLevel s) s.roll.stretch) seq stale (decide (demandLevel s < s.roll.stretch)) substitute)

/-- Whether the rear port takes its next frame: it sends, is free, has a frame waiting and no isolation is pending
(R155, R157). -/
def rearReady (r : Relay) : Bool :=
  rearSends r && r.rearTx.isNone && r.isolation.isNone && !r.rearward.isEmpty

/-- REAR_HANDOVER (R155). -/
def rearHandover (s : State) : State :=
  if rearReady s.relay then
    match s.relay.rearward with
    | i :: rest => s.onRelay fun r => { r with rearward := rest, rearTx := some ⟨i, rearFrameOf s i, false⟩ }
    | [] => s
  else s

/-- A frame discarded after a hand-over (R155). -/
def discardRear (r : Relay) : Relay := dropFrames 1 { r with rearDiscard := satInc r.rearDiscard }

/-- A frame that returns to the head of the queue (R155). A DEMAND frame that finds the queue full takes the place of its
oldest frame (log 27). -/
def returnRear (i : RearItem) (r : Relay) : Relay :=
  if isDemandItem i && r.rearward.any isDemandItem then { r with demandReplaced := satInc r.demandReplaced }
  else if r.rearward.length < 8 then { r with rearward := i :: r.rearward }
  else if isDemandItem i then
    dropFrames 1 { r with rearward := i :: r.rearward.drop 1, rearFull := satInc r.rearFull }
  else dropFrames 1 { r with rearFull := satInc r.rearFull }

/-- An acknowledged rear hand-over (R155); outside FORWARDING and NO_PARTNER the run does not change (log 27). -/
def rearAcked (r : Relay) : Relay := if rearSends r then { r with run := 0, rear := .forwarding } else r

/-- A rear hand-over that was not acknowledged (R155, R157): the row of the state at the outcome, with the frame discarded where
it is not to be handed over again. Of a port that has left FORWARDING and come back the run counts the failure: DEDUCED,
unsafe (log 60). -/
def rearNotAcked (x : RearTx) (r : Relay) : Relay :=
  match r.rear with
  | .forwarding =>
    if r.run < 2 then
      if r.isolation.isSome || x.left then discardRear { r with run := r.run + 1 }
      else returnRear x.item { r with run := r.run + 1 }
    else enterNoPartner (discardRear { r with run := 3 })
  | .noPartner => discardRear r
  | .held => discardRear r
  | .isolated => discardRear r

/-- A pending isolation takes effect when the hand-over in progress ends (R157). -/
def settleIsolation (s : State) : State :=
  match s.relay.isolation with
  | some tag => answer codeIsolateRear tag (.completed .done) (s.onRelay enterIsolated)
  | none => s

/-- REAR_HANDOVER_OUTCOME (R155, R157). -/
def rearHandoverOutcome (acked : Bool) (s : State) : State :=
  match s.relay.rearTx with
  | some tx =>
    settleIsolation <| s.onRelay fun r =>
      let r := { r with rearTx := none }
      if acked then rearAcked r else rearNotAcked tx r
  | none => s

/-! ### Isolation (R157) -/

/-- ISOLATE_REAR. -/
def isolateRear (tag : Byte) (s : State) : State :=
  if s.relay.rear = .isolated then answer codeIsolateRear tag .done s
  else if s.relay.isolation.isSome then answer codeIsolateRear tag (.refused .busy) s
  else if s.relay.rearTx.isNone then answer codeIsolateRear tag .done (s.onRelay enterIsolated)
  else answer codeIsolateRear tag .accepted (s.onRelay fun r => { r with isolation := some tag })

/-- The rear port state after ISOLATED: by the placement and the REAR_OFF strap. -/
def resumedState (s : State) : RearState :=
  if s.link.position.isSome && !s.relay.rearOff then .forwarding else .held

/-- RESUME_REAR. -/
def resumeRear (tag : Byte) (s : State) : State :=
  if s.relay.rear = .isolated then
    answer codeResumeRear tag .done (s.onRelay fun r => { r with rear := resumedState s, run := 0 })
  else
    match s.relay.isolation with
    | some held =>
      answer codeResumeRear tag .done
        (answer codeIsolateRear held (.completed .cancelled) (s.onRelay fun r => { r with isolation := none }))
    | none => answer codeResumeRear tag (.refused .state) s

/-! ### The front port (R153) -/

/-- What the front arbiter chooses: a source and the frame as it stands. -/
def frontChoice (s : State) : Option FrontTx :=
  match s.alerts.queue.head?, s.relay.relayed.find? (fun e => isAlert e.frame), s.mgmt.queue.head?.bind List.head?,
      s.relay.relayed.head?, s.alerts.slot with
  | some e, _, _, _, _ => some ⟨.ownAlert, alertFrame s e⟩
  | none, some e, _, _, _ => some ⟨.relayed, e.frame⟩
  | none, none, some f, _, _ => some ⟨.response, f⟩
  | none, none, none, some e, _ => some ⟨.relayed, e.frame⟩
  | none, none, none, none, some p =>
    if !p.sent1 then some ⟨.status1, p.first⟩ else if !p.sent2 then some ⟨.status2, p.second⟩ else none
  | none, none, none, none, none => none

/-- The first entry of a list that satisfies a condition, changed. -/
def changeFirst {α : Type} (which : α → Bool) (f : α → α) : List α → List α
  | [] => []
  | x :: rest => if which x then f x :: rest else x :: changeFirst which f rest

/-- The relayed queue with the frame chosen marked as in transmission: the oldest alert, or the oldest frame when it
holds no alert. -/
def markRelayed (q : List RelayedFrame) : List RelayedFrame :=
  let mark := fun e : RelayedFrame => { e with inTx := true }
  if q.any fun e => isAlert e.frame then changeFirst (fun e => isAlert e.frame) mark q
  else changeFirst (fun _ => true) mark q

/-- The entry, frame or pair that a front hand-over takes marked as in transmission. -/
def markFront (source : FrontSource) (s : State) : State :=
  match source with
  | .ownAlert => s.onAlerts fun a => { a with queue := changeFirst (fun _ => true) (fun e => { e with inTx := true }) a.queue }
  | .relayed => s.onRelay fun r => { r with relayed := markRelayed r.relayed }
  | .response => s
  | .status1 => s.onAlerts fun a => { a with slot := a.slot.map fun p => { p with inTx := true } }
  | .status2 => s.onAlerts fun a => { a with slot := a.slot.map fun p => { p with inTx := true } }

/-- FRONT_HANDOVER: a free front port is handed the next frame (R153). -/
def frontHandover (s : State) : State :=
  match s.relay.frontTx, frontChoice s with
  | none, some tx => (markFront tx.source s).onRelay fun r => { r with frontTx := some tx }
  | none, none => s
  | some _, _ => s

/-- The own response queue without the frame that was acknowledged; an entry leaves with its last frame (R168). -/
def dropSentFrame : List (List CanFrame) → List (List CanFrame)
  | [] => []
  | entry :: rest =>
    match entry.drop 1 with
    | [] => rest
    | frames => frames :: rest

/-- The relayed queue after the outcome of the hand-over of its frame in transmission. -/
def relayedOutcome (acked : Bool) (q : List RelayedFrame) : List RelayedFrame :=
  if acked then q.filter fun e => !e.inTx else q.map fun e => { e with inTx := false }

/-- The outcome at the queue or slot that the frame came from (R153, R162, R164, R168). -/
def frontOutcome (source : FrontSource) (acked : Bool) (s : State) : State :=
  match source with
  | .ownAlert => alertOutcome acked s
  | .relayed => s.onRelay fun r => { r with relayed := relayedOutcome acked r.relayed }
  | .response => if acked then s.onMgmt fun m => { m with queue := dropSentFrame m.queue } else s
  | .status1 => statusOutcome true acked s
  | .status2 => statusOutcome false acked s

/-- FRONT_HANDOVER_OUTCOME: the port is free, and a hand-over not acknowledged is counted (R153). -/
def frontHandoverOutcome (acked : Bool) (s : State) : State :=
  match s.relay.frontTx with
  | some tx =>
    (frontOutcome tx.source acked s).onRelay fun r =>
      { r with frontTx := none, frontUnacked := if acked then r.frontUnacked else satInc r.frontUnacked }
  | none => s

/-! ### The routing table (R150, R151) -/

/-- Whether slot `i` of the routing table matches a frame that arrived at a port (R150). -/
def routeMatches (t : Table) (port : Port) (f : CanFrame) (i : Nat) : Bool :=
  t6Used t i &&
    (match port with
      | .front => t6Direction t i != 1
      | .rear => t6Direction t i != 0) &&
    ((t6Class t i == 0) || (t6Class t i == frameClass f)) &&
    ((t6Dest t i == 255) || (t6Dest t i == frameDest f))

/-- The first slot that matches. -/
def routeSlot (t : Table) (port : Port) (f : CanFrame) : Option Nat := (List.range 24).find? (routeMatches t port f)

/-- A frame forwarded: rearward when it arrived at the front port, into the relayed queue when it arrived at the rear
(R150). -/
def forwardFrame (port : Port) (f : CanFrame) (r : Relay) : Relay :=
  match port with
  | .front => offerRear (.frame f) r
  | .rear => placeRelayed f r

/-- The match count of a slot raised. -/
def countMatch (i : Nat) (r : Relay) : Relay :=
  { r with matchCounts := r.matchCounts.set i (satInc (r.matchCounts.getD i 0)) }

/-- A generic frame judged by the routing table (R150). -/
def routeFrame (t : Table) (port : Port) (f : CanFrame) (r : Relay) : Relay :=
  match routeSlot t port f with
  | some i =>
    match t6Action t i with
    | 1 => { countMatch i r with routedDrop := satInc r.routedDrop }
    | 2 => forwardFrame port (withPriority f (max (framePriority f) (t6Demoted t i))) (countMatch i r)
    | _ => forwardFrame port f (countMatch i r)
  | none => forwardFrame port f { r with unmatched := satInc r.unmatched }

/-- The relay takes an activated T6: every match count becomes 0 (R151). -/
def relayTakesT6 (s : State) : State := s.onRelay fun r => { r with matchCounts := List.replicate 24 0 }

end Sys2Proof.Machine
end

