-- ==== Sys2Proof/Machine/LinkEngine.lean ====
section
/-! DEFINITION. The link engine (08): placement by POSITION frames, the demand state and its timer, and the fill and
substitute frames sent rearward. -/

namespace Sys2Proof.Machine

open Sys2Proof

/-! ### Offers (R133, R137, R143) -/

/-- A DEMAND frame offered rearward; its sequence and its STALE and SUBSTITUTE flags are fixed now (R143). -/
def offerDemand (seq : Nat) (stale substitute : Bool) (s : State) : State :=
  s.onRelay (offerRear (.demand (chainPosition s) seq stale substitute))

/-- The POSITION frame of the part's own (R133, R137). -/
def ownPositionFrame (s : State) : CanFrame :=
  ownFrame 2 classPosition 15 (chainPosition s) 0 [byteOf (chainPosition s)]

/-- A PLACED part offers its own POSITION frame; an UNPLACED part offers nothing (R137). -/
def offerPosition (s : State) : State :=
  if s.link.position.isSome then s.onRelay (offerRear (.frame (ownPositionFrame s))) else s

/-! ### Placement (R134 to R136) -/

/-- A position mismatch (R136). -/
def positionMismatch (n : Nat) (s : State) : State :=
  let first := !s.link.mismatchRun
  let s := s.onLink fun l => { l with mismatches := satInc l.mismatches, mismatchRun := true }
  if first then raiseAlert .positionMismatch (blockSubject blockLK) n s else s

/-- The mismatch run cleared. -/
def clearMismatch (s : State) : State := s.onLink fun l => { l with mismatchRun := false }

/-- The part takes a chain position. -/
def placeAt (n : Nat) (s : State) : State := s.onLink fun l => { l with position := some (n + 1) }

/-- R134: the placement of a part in LEARN mode. A vehicle speed of exactly 200 is not below 200 and is judged with the
speeds above it (log 26). -/
def learnPlacement (n : Nat) (s : State) : State :=
  match s.link.position with
  | none => if n ≤ 2 then (placeAt n s).onRelay relayPlaced else s
  | some own =>
    if n ≤ 2 ∧ n + 1 = own then clearMismatch s
    else if below (vehicleSpeed s) 200 then
      if n ≤ 2 then clearMismatch (placeAt n s)
      else (clearMismatch (s.onLink fun l => { l with position := none })).onRelay relayUnplaced
    else positionMismatch n s

/-- R135: the check of a part in FIXED mode. -/
def fixedPlacement (n : Nat) (s : State) : State :=
  if n + 1 = s.link.strapPos then clearMismatch s else positionMismatch n s

/-- A POSITION frame the link engine takes: its placement, then the part's own announcement (R133 to R137). -/
def takePosition (data : List Byte) (s : State) : State :=
  if data.length < 1 then s.onLink fun l => { l with malformed := satInc l.malformed }
  else
    let n := dataByte data 0 % 16
    let s := s.onLink fun l => { l with positionFrames := satInc l.positionFrames }
    offerPosition (if s.link.strapPos = 0 then learnPlacement n s else fixedPlacement n s)

/-! ### The demand state (R138, R139) -/

/-- Whether a DEMAND frame is fresh: STALE clear and a sequence other than the last accepted (R138). -/
def isFresh (data : List Byte) (l : Link) : Bool :=
  !dataBit data 3 0 && (l.lastSeq != some (dataByte data 2 % 16))

/-- The link record after a fresh frame (R138). -/
def freshLink (data : List Byte) (now : Stamp) (l : Link) : Link :=
  { l with
    demand := min (dataWord data 0) 1000, lastSeq := some (dataByte data 2 % 16), subReceived := dataBit data 3 2,
    lastFresh := some now, lastFrame := some now, fillCount := 0, rearwardTimer := none, demandTimer := some ⟨now, 25⟩,
    state := .fresh, fresh := satInc l.fresh }

/-- A fresh frame (R138): the arbiter evaluates its fail-safe state when the state was LOST, and derives its demand. -/
def takeFresh (data : List Byte) (s : State) : State :=
  let wasLost := s.link.state = .lost
  let s := s.onLink (freshLink data s.timeBase)
  let s := deriveDemand (if wasLost then evaluateFailSafe s else s)
  offerDemand (dataByte data 2 % 16) false s.link.subReceived s

/-- A DEMAND frame that is not fresh (R139). -/
def takeStale (data : List Byte) (s : State) : State :=
  s.onLink fun l =>
    let l := { l with lastFrame := some s.timeBase }
    if dataBit data 3 0 then { l with staleFlagged := satInc l.staleFlagged } else { l with repeats := satInc l.repeats }

/-- A DEMAND frame the link engine takes (R133, R138, R139). -/
def takeDemand (data : List Byte) (s : State) : State :=
  if data.length < 4 then s.onLink fun l => { l with malformed := satInc l.malformed }
  else if isFresh data s.link then takeFresh data s
  else takeStale data s

/-! ### Rearward in STALE and LOST (R142) -/

/-- A fill frame (R142). -/
def offerFill (s : State) : State :=
  offerDemand (s.link.lastSeq.getD 0) true s.link.subReceived <|
    s.onLink fun l => { l with fillCount := l.fillCount + 1, fills := satInc l.fills }

/-- A substitute frame, or a substitute skipped while the control line is not valid (R142). -/
def offerSubstitute (s : State) : State :=
  if inputValid s inputControl then
    offerDemand s.link.subSeq false true <|
      s.onLink fun l => { l with subSeq := (l.subSeq + 1) % 16, subs := satInc l.subs }
  else s.onLink fun l => { l with subsSkipped := satInc l.subsSkipped }

/-- What the link engine sends at the start of the rearward timer and at each expiry (R142). -/
def sendRearward (s : State) : State :=
  match s.link.state with
  | .stale => offerFill s
  | .lost => offerSubstitute s
  | .fresh => s
  | .nothing => s

/-! ### The demand timer (R140, R141) -/

/-- The entry to LOST (R141): the record, the alert, the capture record, the arbiter, and then the first substitute
(log 18). -/
def enterLost (s : State) : State :=
  let alive := frontAlive s
  let s := s.onLink fun l =>
    { l with
      state := .lost, demandTimer := none, lostEntries := satInc l.lostEntries, rearwardTimer := some s.timeBase,
      subSeq := match l.lastSeq with
        | some n => (n + 1) % 16
        | none => 0 }
  let s := raiseAlert .demandLost (blockSubject blockLK) alive.toNat s
  let s := fillCaptureBlock .demandLost (blockSubject blockLK) s
  sendRearward (deriveDemand (evaluateFailSafe s))

/-- The entry to STALE (R140). -/
def enterStale (s : State) : State :=
  sendRearward <| deriveDemand <| s.onLink fun l =>
    { l with
      state := .stale
      demandTimer := l.demandTimer.map fun t => { t with bound := 250 }
      rearwardTimer := some s.timeBase }

/-- DEMAND_TIMER_EXPIRY (R140). -/
def demandTimerExpiry (s : State) : State :=
  if timerExpired s.timeBase s.link.demandTimer then
    match s.link.state with
    | .fresh => enterStale s
    | .stale => enterLost s
    | .nothing => enterLost s
    | .lost => s
  else s

/-- REARWARD_TIMER_EXPIRY: every 10 ms the timer restarts and the engine acts on its demand state (R142). -/
def rearwardTimerExpiry (s : State) : State :=
  if runLasted s.timeBase s.link.rearwardTimer 10 then
    sendRearward (s.onLink fun l => { l with rearwardTimer := some s.timeBase })
  else s

end Sys2Proof.Machine
end

