-- ==== Sys2Proof/Machine/SampleSets.lean ====
section
/-! DEFINITION. The sample port (02): the arrival of a sample set and its handing to the five blocks, the sample loss, and
the diagnostics flags of an activated T1. -/

namespace Sys2Proof.Machine

open Sys2Proof

/-! ### Input records (R26, R27) -/

/-- An input record on an accepted set, by its fault mark (R27). -/
def updateInput (mark : Bool) (value : Int) (now : Stamp) (r : InputRec) : InputRec :=
  let good : InputRec := { status := .valid, value := value, lastGood := some value, holdStart := none }
  match r.status with
  | .valid => if mark then { r with status := .held, holdStart := some now, value := r.lastGood.getD r.value } else good
  | .held =>
    if mark then
      if runLasted now r.holdStart 100 then { r with status := .invalid, holdStart := none } else r
    else good
  | .invalid => if mark then r else good
  | .disabled => r

/-- Every input clamped and its record updated (R26, R27). -/
def updateInputs (bytes : List Byte) (now : Stamp) (g : Grid InputRec) : Grid InputRec :=
  gridMap (fun i r => updateInput (sampleMark bytes i) (clampInput i (sampleValue bytes i)) now r) g

/-! ### Arrival of a sample set (R25, R31) -/

/-- The sequence numbers skipped between accepted sets (R25). -/
def gapOf (last new : Byte) : Nat := (new - last - 1#8).toNat

/-- The port record after an accepted set (R25). -/
def acceptSet (bytes : List Byte) (now : Stamp) (p : SamplePort) : SamplePort :=
  { p with
    loss := .running
    gaps := if p.loss = .running then satAdd p.gaps (gapOf (p.lastSeq.getD 0) (sampleSeq bytes)) else p.gaps
    accepted := satInc p.accepted
    lastSeq := some (sampleSeq bytes)
    lastTime := some now
    lossStart := some now
    inputs := updateInputs bytes now p.inputs }

/-- The five blocks that take an accepted set, in the order of their numbers (R25). -/
def setTakers : List (State → State) :=
  [estimatorTakesSet, arbiterTakesSet, airTakesSet, rollTakesSet, tyresTakeSet]

/-- The set is handed to the five blocks, in no fixed order among them (R25; log 3). -/
def handSet (s : State) : State :=
  ((arrange (Config.blockOrder s.free) setTakers).foldl (fun s take => take s) s).spend

/-- An accepted set: the port record, the arbiter told of the end of a loss, and the five blocks (R25, R31). -/
def takeSet (bytes : List Byte) (s : State) : State :=
  let wasLost := s.sample.loss = .lost
  let s := s.onSample (acceptSet bytes s.timeBase)
  handSet (if wasLost then evaluateFailSafe s else s)

/-- Whether a set is a repeat (R25). -/
def isDuplicate (bytes : List Byte) (p : SamplePort) : Bool :=
  (p.loss == .running) && (p.lastSeq == some (sampleSeq bytes))

/-- SAMPLE_SET_ARRIVAL (R25); while the RESET line is asserted the set is discarded without being counted (R36). -/
def sampleSetArrival (bytes : List Byte) (s : State) : State :=
  if s.resetLine then s
  else if !sampleSetOk bytes then s.onSample fun p => { p with frameErrors := satInc p.frameErrors }
  else if isDuplicate bytes s.sample then s.onSample fun p => { p with duplicates := satInc p.duplicates }
  else takeSet bytes s

/-! ### Sample loss (R30) -/

/-- An input record at the declaration of SAMPLE_LOST (R30). -/
def loseInput (r : InputRec) : InputRec :=
  match r.status with
  | .valid => { r with status := .invalid, holdStart := none }
  | .held => { r with status := .invalid, holdStart := none }
  | .invalid => r
  | .disabled => r

/-- The port record at the declaration of SAMPLE_LOST (R30). -/
def loseSamples (p : SamplePort) : SamplePort :=
  { p with loss := .lost, losses := satInc p.losses, inputs := gridMap (fun _ r => loseInput r) p.inputs }

/-- Whether the loss timer has expired (R30). -/
def lossExpired (s : State) : Bool := (s.sample.loss != .lost) && runLasted s.timeBase s.sample.lossStart 20

/-- SAMPLE_LOST declared: the port, the alert, the capture record, the arbiter, the roll monitor and the air supervisor
(R30, R83, R94; log 17). -/
def declareLoss (s : State) : State :=
  let s := s.onSample loseSamples
  let last := (s.sample.lastSeq.getD 0).toNat
  let s := raiseAlert .sampleLost (blockSubject blockSP) last s
  let s := fillCaptureBlock .sampleLost (blockSubject blockSP) s
  airTakesLoss (rollTakesLoss (evaluateFailSafe (deriveDemand s)))

/-- LOSS_TIMER_EXPIRY (R30). -/
def lossTimerExpiry (s : State) : State := if lossExpired s then declareLoss s else s

/-! ### Activation of T1 (R28) -/

/-- An input record when its diagnostics flag may have changed (R28). -/
def takeFlag (enabled : Bool) (r : InputRec) : InputRec :=
  match r.status with
  | .disabled => if enabled then { r with status := .invalid, lastGood := none, holdStart := none } else r
  | .valid => if enabled then r else { r with status := .disabled, holdStart := none }
  | .held => if enabled then r else { r with status := .disabled, holdStart := none }
  | .invalid => if enabled then r else { r with status := .disabled, holdStart := none }

/-- The sample port takes an activated T1 (R28). -/
def portTakesT1 (s : State) : State :=
  s.onSample fun p => { p with inputs := gridMap (fun i r => takeFlag (t1InputEnabled s.tables.t1 i) r) p.inputs }

end Sys2Proof.Machine
end

