-- ==== Sys2Proof/Machine/Records.lean ====
section
/-! DEFINITION. The records READ_RECORD shows (R169): the widths of their fields (12.1), one definition per record in the
order its owning rule names the fields, and the pages. Readings of the layout that chapter 12 leaves open: log 32. -/

namespace Sys2Proof.Machine

open Sys2Proof

/-! ### Field widths (12.1) -/

/-- A flag in one byte. -/
def fFlag (b : Bool) : List Byte := [byteOf b.toNat]

/-- An enumerated value in one byte. -/
def fCode (code : Nat) : List Byte := [byteOf code]

/-- An enumerated value that chapter 12 gives no code: the enumeration and the place of the value in it (log 30). -/
def fOpen (enumeration ordinal : Nat) : List Byte := [Config.enumCode enumeration ordinal]

/-- A quantity in two bytes; one above 65,535 shows bytes the manual does not state (log 31). -/
def fNat (n : Nat) : List Byte := if n ≤ 65535 then wordBytes n else wordBytes (Config.wideQuantity n).toNat

/-- A signed quantity in two bytes, two's complement. -/
def fInt (i : Int) : List Byte := wordBytes (BitVec.ofInt 16 i).toNat

/-- A field of `width` bytes that may be none: a byte, and the field at its full width, 0 when it is none. -/
def fOpt {α : Type} (width : Nat) (f : α → List Byte) (x : Option α) : List Byte :=
  match x with
  | some v => byteOf 1 :: f v
  | none => List.replicate (1 + width) 0

/-- A list of at most `slots` entries of `width` bytes: the number of entries, the entries, and unused slots 0. -/
def fList {α : Type} (slots width : Nat) (f : α → List Byte) (l : List α) : List Byte :=
  byteOf l.length :: (l.flatMap f ++ List.replicate ((slots - l.length) * width) 0)

/-- The length of a run that may be none (R99). -/
def fRun (now : Stamp) (run : Option Stamp) : List Byte := fOpt 2 (fun start => fNat (elapsed now start)) run

/-! ### Enumerations without codes in chapter 12 (log 30) -/

/-- The sample-loss state. -/
def fLoss : LossState → List Byte
  | .waiting => fOpen 0 0
  | .running => fOpen 0 1
  | .lost => fOpen 0 2

/-- An input's status. -/
def fStatus : InputStatus → List Byte
  | .valid => fOpen 1 0
  | .held => fOpen 1 1
  | .invalid => fOpen 1 2
  | .disabled => fOpen 1 3

/-- The demand state. -/
def fDemandState : DemandState → List Byte
  | .nothing => fOpen 4 0
  | .fresh => fOpen 4 1
  | .stale => fOpen 4 2
  | .lost => fOpen 4 3

/-- A backup reason. -/
def fReason : BackupReason → List Byte
  | .failsafe => fOpen 5 0
  | .sympathy => fOpen 5 1
  | .unassigned => fOpen 5 2

/-- The supply presence. -/
def fPresence : Presence → List Byte
  | .unknown => fOpen 6 0
  | .present => fOpen 6 1
  | .lost => fOpen 6 2

/-- The receiver state. -/
def fRx : RxState → List Byte
  | .hunt => fOpen 7 0
  | .assemble => fOpen 7 1

/-- The tyre table's store request state, NONE or WAITING. -/
def fWaiting (waiting : Bool) : List Byte := fOpen 8 waiting.toNat

/-- The rear port state. -/
def fRear : RearState → List Byte
  | .held => fOpen 9 0
  | .forwarding => fOpen 9 1
  | .noPartner => fOpen 9 2
  | .isolated => fOpen 9 3

/-- The kind of a fault capture. -/
def fCaptureKind : CaptureKind → List Byte
  | .channelFault => fOpen 10 0
  | .sampleLost => fOpen 10 1
  | .demandLost => fOpen 10 2
  | .supplyLost => fOpen 10 3
  | .storeIncomplete => fOpen 10 4

/-- The store state. -/
def fStoreState : StoreState → List Byte
  | .idle => fOpen 11 0
  | .writing => fOpen 11 1
  | .tally => fOpen 11 2
  | .erasing => fOpen 11 3
  | .protecting => fOpen 11 4

/-! ### STATUS_SUMMARY -/

/-- The port record as R24 shows it. -/
def samplePart (s : State) : List Byte :=
  let p := s.sample
  fLoss p.loss ++ fOpt 2 (fun n : Byte => fNat n.toNat) p.lastSeq ++ fOpt 4 longBytes p.lastTime ++
    ((gridList p.inputs).flatMap fun r => fStatus r.status ++ fInt r.value) ++
    fNat p.accepted ++ fNat p.frameErrors ++ fNat p.duplicates ++ fNat p.gaps ++ fNat p.losses

/-- The counts of the valve command port (R32, R34). -/
def valvePart (s : State) : List Byte :=
  fNat s.valve.superseded ++ fNat s.valve.statusErrors ++ fNat s.valve.lateStatus ++ fNat s.valve.missingStatus

/-- The link record (R132) with whether the front link is alive (R147). The chain position takes two bytes (DEDUCED, unsafe:
log 69), and the demand timer has one presence byte (DEDUCED, unsafe: log 56). -/
def linkPart (s : State) : List Byte :=
  let l := s.link
  fOpen 2 (if l.strapPos = 0 then 1 else 0) ++ fOpen 3 (if l.position.isSome then 0 else 1) ++ fNat (chainPosition s) ++
    fFlag l.mismatchRun ++ fDemandState l.state ++ fNat l.demand ++ fOpt 2 fNat l.lastSeq ++ fFlag l.subReceived ++
    fOpt 4 longBytes l.lastFresh ++ fOpt 4 longBytes l.lastFrame ++
    fOpt 6 (fun t : Timer => longBytes t.start ++ fNat t.bound) l.demandTimer ++ fOpt 4 longBytes l.rearwardTimer ++
    fNat l.subSeq ++ fNat l.fillCount ++ fNat l.fresh ++ fNat l.staleFlagged ++ fNat l.repeats ++ fNat l.malformed ++
    fNat l.fills ++ fNat l.subs ++ fNat l.subsSkipped ++ fNat l.lostEntries ++ fNat l.positionFrames ++
    fNat l.mismatches ++ fFlag (frontAlive s)

/-- An entry of the own alert queue (R160). The subject's number takes two bytes: DEDUCED, unsafe (log 69). -/
def fAlert (e : Alert) : List Byte :=
  fCode (causeCode e.cause) ++ fCode (subjectKindCode e.subject.kind) ++ fNat e.subject.number ++ fNat e.value ++
    longBytes e.time ++ fFlag e.updated

/-- The composer's part of STATUS_SUMMARY (R163). -/
def alertPart (s : State) : List Byte :=
  fNat s.alerts.lost ++ fNat s.alerts.superseded ++ fList 4 11 fAlert s.alerts.queue

/-- A frame not yet sent of a response entry: its identifier in four bytes and the list of its data bytes (log 63). -/
def fFrame (f : CanFrame) : List Byte := longBytes (f.ident.setWidth 32) ++ fList 8 1 (fun b => [b]) f.data

/-- A response entry: the list of its frames not yet acknowledged, at most eight (R169; log 63). -/
def fResponse (e : List CanFrame) : List Byte := fList 8 13 fFrame e

/-- The management engine's record, the fields in the order of R168; the load buffer shows its 144 bytes (log 63). The number
of the open table and of a segment take two bytes each: DEDUCED, unsafe (log 69). -/
def engineRecord (s : State) : List Byte :=
  let m := s.mgmt
  fList 4 105 fResponse m.queue ++ fOpt 2 fNat m.openTable ++ m.buffer ++
    fList 24 2 fNat ((List.range 24).filter fun i => m.segments.contains i) ++
    fOpt 2 (fun t : StoreTag => fNat t.tag.toNat) m.storeTag ++
    fNat m.taken ++ fNat m.malformed ++ fNat m.unknown ++ fNat m.responsesLost

/-- STATUS_SUMMARY. -/
def recordSummary (s : State) : List Byte :=
  samplePart s ++ valvePart s ++ fCode (failSafeCode s.arbiter.failSafe) ++ linkPart s ++ alertPart s ++ engineRecord s

/-! ### CHANNEL, GROUP, ROLL, AIR -/

/-- The configuration of a channel, from T1 (R39). The FS modes are coded as the bits of T1 (DEDUCED, unsafe: log 67), the
wheel speed input takes one byte (DEDUCED, unsafe: log 69), and of an unassigned channel, whose fields R37 leaves unread, the
bytes of T1 are shown with P_max 0 (DESIGN CHOICE, unsafe: log 66). -/
def fConfiguration (t : Table) (c : Channel) : List Byte :=
  fCode (groupCode (t1Group t c)) ++ fCode (sideCode (t1Side t c)) ++ fNat (t1PMax t c) ++ fNat (t1Volume t c) ++
    fOpt 1 (fun w : Fin 4 => fCode (w.val + 1)) (t1Wheel t c) ++ fFlag (t1FsaBackup t c) ++ fFlag (t1FsbHold t c)

/-- CHANNEL(n): the fields R62 lists; the HOLD timer and the settle start of R39 are not among them (DEDUCED, unsafe: log
55). The commanded mode is coded 1 PRESSURE, 0 BACKUP, and the last driver status 0 to 3, as the serial records of 12.2 code
them (DEDUCED, unsafe: log 75). -/
def recordChannel (s : State) (c : Channel) : List Byte :=
  let r := chan s c
  fCode (chanStateCode r.state) ++ fOpt 1 fReason r.reason ++ fConfiguration s.tables.t1 c ++
    fNat r.driverTarget ++ fNat r.rollContribution ++ fNat r.emergency ++ fNat r.haltPressure ++
    fNat r.derate ++ fNat r.ceiling ++ fFlag r.cmdPressure ++ fNat r.cmdTarget ++ fNat r.delivered ++
    fOpt 2 (fun d : DevTimer => fNat d.reference) r.deviation ++ fNat r.errors ++
    fOpt 1 (fun f => fCode (faultCauseCode f)) r.cause ++ fOpt 2 (fun h : PendingHalt => fNat h.pressure) r.haltPending ++
    fFlag r.strapPending ++ fOpt 1 (fun d => fCode (driverStatusCode d)) (quadGet s.valve.lastStatus c)

/-- GROUP(g): the fields R13 lists; the bellows-absent and INVALID-since times of R1 are not among them (DEDUCED, unsafe: log
65). The estimate state is coded 1 VALID, 0 INVALID, as STATUS-1 has it (DEDUCED, unsafe: log 64). -/
def recordGroup (s : State) (g : Group) : List Byte :=
  let e := estimate s g
  fFlag (e.state == .valid) ++ fOpt 2 fNat e.filter ++ fNat e.bellows ++ fNat e.load ++ fNat e.ratio ++ fFlag e.freeze ++
    fFlag e.overload ++ fFlag e.fallbackReported

/-- ROLL (R85). The roll timer's start, bound and elapsed time stand behind one presence byte (DEDUCED, unsafe: log 56), and
the side is coded as in T1 (DEDUCED, unsafe: log 57). -/
def recordRoll (s : State) : List Byte :=
  let r := s.roll
  let t := r.thresholds
  fCode (rollStateCode r.state) ++
    fOpt 8 (fun x : Timer => longBytes x.start ++ fNat x.bound ++ fNat (elapsed s.timeBase x.start)) r.timer ++
    fOpt 1 (fun sd => fCode (sideCode sd)) r.testSide ++ fOpt 2 fNat r.commitment ++
    ((quadList r.contributions).flatMap fNat) ++ fNat r.stretch ++
    fNat t.rMax ++ fFlag t.derateStep ++ fNat t.aLim ++ fNat t.aTest ++ fNat t.aRelease ++ fFlag r.suspended ++
    fNat r.tests ++ fNat r.withheld ++ fNat r.lifts ++ fNat r.aborts ++ fNat r.cuts ++ fNat r.timeouts ++
    fNat r.interventions

/-- An input's value in use with its validity (R99). -/
def fInput (s : State) (i : Fin 16) : List Byte := fNat (inputValue s i) ++ fFlag (inputValid s i)

/-- The entry of the commitment list (R95, R99). Its channels are a list of two, a channel number in two bytes: DEDUCED, unsafe
(log 69). -/
def fCommitment (c : Commitment) : List Byte :=
  fNat c.amount ++ fCode (sideCode c.side) ++ fList 2 2 (fun ch : Channel => fNat (ch.val + 1)) c.channels ++
    longBytes c.time

/-- AIR: the fields R99 lists, a run and the mismatch by their lengths alone, without the start stamps of R86 (DEDUCED, unsafe:
log 77). -/
def recordAir (s : State) : List Byte :=
  let a := s.air
  fPresence a.presence ++ fCode (supplyStateCode a.state) ++
    fInput s inputSupply ++ fInput s inputReservoir ++ fInput s inputControl ++
    fRun s.timeBase a.lostRun ++ fRun s.timeBase a.presentRun ++ fRun s.timeBase a.lowRun ++
    fRun s.timeBase a.mismatchStart ++ fFlag a.mismatchReported ++
    fList 1 12 fCommitment a.commitment.toList ++ fNat (projectedReservoir s) ++ fNat (t3Floor s.tables.t3) ++
    fNat a.supplyLost ++ fNat a.reservoirLow ++ fNat a.mismatches ++ fNat a.grants ++ fNat a.refusedState ++
    fNat a.refusedFloor

/-! ### TYRE, UNKNOWN_LIST, RECEIVER_COUNTS -/

/-- The target with its three levels (R117), a presence byte before each: DEDUCED, unsafe (log 56). -/
def fTarget (t : Option Target) : List Byte :=
  fOpt 2 fNat (t.map Target.target) ++ fOpt 2 fNat (t.map Target.low) ++ fOpt 2 fNat (t.map Target.veryLow) ++
    fOpt 2 fNat (t.map Target.high)

/-- TYRE(p) (R131). -/
def recordTyre (s : State) (p : Position) : List Byte :=
  let r := tyre s p
  let g := positionGroup s p
  fCode (tyreStateCode r.state) ++ fOpt 4 longBytes (gridGet s.tyres.map p) ++ fOpt 2 fNat r.pressure ++
    fOpt 2 fNat r.gauge ++ fOpt 2 fInt r.temperature ++ fTarget r.target ++ fNat r.leak ++ longBytes r.lastHeard ++
    fOpt 2 (fun n : Byte => fNat n.toNat) r.lastCounter ++ fFlag r.batteryLow ++
    fList 4 6 (fun h : Reading => longBytes h.time ++ fNat h.gauge) r.history ++ fOpt 4 longBytes r.lastDrag ++
    fCode (groupCode g) ++ fCode (sideCode (positionSide p)) ++ fFlag (sidesGet s.tyres.derates g (positionSide p))

/-- A slot of the unknown sensor list: its entry, or zeros in the place of an empty slot (R125): DEDUCED, unsafe (log 73). -/
def fUnknown (u : Option UnknownEntry) : List Byte :=
  match u with
  | some e => longBytes e.id ++ fNat e.count ++ longBytes e.lastHeard ++ fNat e.lastCounter.toNat ++ fFlag e.reported
  | none => List.replicate 13 0

/-- The open learning session: its position and the time remaining (R131; log 31), behind one presence byte (DEDUCED, unsafe:
log 56), the position in two bytes (DEDUCED, unsafe: log 69). -/
def fSession (now : Stamp) (l : Session) : List Byte :=
  fNat l.position.val ++ wordBytes (Config.sessionRemaining (l.bound - elapsed now l.start)).toNat

/-- UNKNOWN_LIST (R131). -/
def recordUnknown (s : State) : List Byte :=
  let t := s.tyres
  let slots := quadList t.unknown
  fCode (slots.countP Option.isSome) ++ slots.flatMap fUnknown ++ fOpt 4 (fSession s.timeBase) t.session ++
    fWaiting t.waiting ++ fFlag t.unsaved ++ fNat t.readings ++ fNat t.repeats ++ fNat t.misses ++ fNat t.marks

/-- The sync word in force: that of the assembly in progress, and otherwise that of T4 (R109). -/
def syncInForce (s : State) : Nat := s.rx.word.getD (t4Sync s.tables.t4)

/-- RECEIVER_COUNTS (R110). -/
def recordReceiver (s : State) : List Byte :=
  let r := s.rx
  fRx r.state ++ fFlag r.carrier ++ fNat (syncInForce s) ++ fNat r.queue.length ++ fFlag r.latch ++
    fNat r.syncs ++ fNat r.goods ++ fNat r.aborts ++ fNat r.crcErrors ++ fNat r.rangeErrors ++ fNat r.overruns

/-! ### RELAY_COUNTS, ROUTE_ENTRY, CAPTURE -/

/-- RELAY_COUNTS (R158). -/
def recordRelay (s : State) : List Byte :=
  let r := s.relay
  fNat r.frontArrivals ++ fNat r.rearArrivals ++ fNat r.frontShort ++ fNat r.rearShort ++ fNat r.misdirected ++
    fNat r.wrongDirection ++ fNat r.routedDrop ++ fNat r.unmatched ++ fNat r.relayedRoutineFull ++
    fNat r.relayedAlertFull ++ fNat r.displaced ++ fNat r.frontUnacked ++ fNat r.rearRefused ++ fNat r.rearFull ++
    fNat r.demandReplaced ++ fNat r.rearDiscard ++ fNat r.flushed ++ fNat r.isolatedDrop ++ fNat r.drops ++
    fRear r.rear ++ fNat r.run ++ fFlag r.isolation.isSome ++ fNat r.relayed.length ++ fNat r.rearward.length ++
    fNat (r.relayed.countP fun e => isAlert e.frame)

/-- ROUTE_ENTRY(i): empty, or the slot's fields and its match count (R158). The class and the destination take one byte as
enumerated values and the demoted priority two as a quantity: DEDUCED, unsafe (log 61). -/
def recordRoute (s : State) (i : Nat) : List Byte :=
  let t := s.tables.t6
  fOpt 8 (fun _ : Unit => fCode (t6Direction t i) ++ fCode (t6Class t i) ++ fCode (t6Dest t i) ++ fCode (t6Action t i) ++
    fNat (t6Demoted t i) ++ fNat (s.relay.matchCounts.getD i 0)) (if t6Used t i then some () else none)

/-- The fields of a filled capture record (R166). The subject's number takes two bytes: DEDUCED, unsafe (log 69). -/
def fCapture (c : Capture) : List Byte :=
  fCaptureKind c.kind ++ fCode (subjectKindCode c.subject.kind) ++ fNat c.subject.number ++ longBytes c.time ++
    fNat c.demand ++ fNat c.commanded ++ fNat c.delivered ++ fNat c.supply ++ fFlag c.supplyValid ++
    fNat c.reservoir ++ fFlag c.reservoirValid ++ fCode (rollStateCode c.roll)

/-- CAPTURE (R167). One presence byte shows the record's state, 0 EMPTY and 1 FILLED, and the fields of an EMPTY record are 0:
DEDUCED, unsafe (log 72). -/
def recordCapture (s : State) : List Byte := fOpt 21 fCapture s.alerts.capture ++ fNat s.alerts.sinceCapture

/-! ### TALLIES, PROTECTION, STORE_STATE, TABLE -/

/-- The store's contents as a page shows them: while an erase runs, some bits may be erased already (log 23). -/
def shownNv (s : State) : Memory :=
  if s.store.state = .erasing ∧ s.store.ended = false then partlyErased s.free s.store.nv else s.store.nv

/-- TALLIES. -/
def recordTallies (s : State) : List Byte :=
  (([0, 1, 2, 3] : List (Fin 4)).flatMap fun k => fNat (tallyValue (shownNv s) k)) ++
    (quadList s.store.pendingTally).flatMap fNat

/-- A protection word as a record shows it: its flags, and every unused bit 0 (R181). -/
def shownWord (word : BitVec 16) : BitVec 16 := word &&& 0x803F#16

/-- PROTECTION. -/
def recordProtection (s : State) : List Byte :=
  fNat (shownWord s.store.protStored).toNat ++ fNat (shownWord s.store.protForce).toNat ++ fFlag (protectFlag s.store.protStored 15) ++
    fFlag (lockInForce s)

/-- Whether a block's marker shows as present. Of a block being written the marker is absent once the erase step is over;
while that step may still run, for up to 100 ms, a marker that was there may still read (R174; log 22). -/
def shownMarker (s : State) (b : Fin 5) : Bool :=
  match s.store.writing with
  | some w =>
    if w.block = b then
      markerPresent s.store.nv b.val && decide (elapsed s.timeBase s.store.since < 100) && Config.markerDuringErase s.free
    else markerPresent s.store.nv b.val
  | none => markerPresent s.store.nv b.val

/-- STORE_STATE. -/
def recordStore (s : State) : List Byte :=
  let t := s.store
  fStoreState t.state ++ fNat (elapsed s.timeBase t.since) ++
    (([0, 1, 2, 3, 4] : List (Fin 5)).flatMap fun b => fFlag (shownMarker s b)) ++ fWaiting s.tyres.waiting ++
    fNat t.writes ++ fNat t.abandoned ++ fNat t.bits ++ fNat t.discarded ++ fNat t.lostAtReset ++ fNat t.defaults

/-- A table in force in the layout of the stored table, as loaded. -/
def tableInForce (s : State) (n : Nat) : Table :=
  match n with
  | 1 => s.tables.t1
  | 2 => s.tables.t2
  | 3 => s.tables.t3
  | 4 => s.tables.t4
  | 5 => mapBytes s.tyres.map
  | 6 => s.tables.t6
  | _ => []

/-- TABLE(t): the table in force in the layout of the stored table, every unused bit and byte 0 (R169, R181; log 44). -/
def recordTable (s : State) (n : Nat) : List Byte := (tableInForce s n).mapIdx fun k b => b &&& usedBits n k

/-! ### Selectors and pages (R169) -/

/-- The record a selector names with its number; none for a selector outside its list or a number outside its range. -/
def recordOfSelector (s : State) (selector number : Nat) : Option (List Byte) :=
  match selector with
  | 0 => some (recordSummary s)
  | 1 => (channelOf number).map (recordChannel s)
  | 2 =>
    match number with
    | 0 => some (recordGroup s .a)
    | 1 => some (recordGroup s .b)
    | _ => none
  | 3 => some (recordRoll s)
  | 4 => some (recordAir s)
  | 5 => if h : number < 16 then some (recordTyre s ⟨number, h⟩) else none
  | 6 => some (recordUnknown s)
  | 7 => some (recordReceiver s)
  | 8 => some (recordRelay s)
  | 9 => if number < 24 then some (recordRoute s number) else none
  | 10 => some (recordCapture s)
  | 11 => some (recordTallies s)
  | 12 => some (recordProtection s)
  | 13 => some (recordStore s)
  | 14 => if 1 ≤ number ∧ number ≤ 6 then some (recordTable s number) else none
  | _ => none

/-- Page `k` of a record, up to 48 bytes; none beyond the last page. -/
def pageOf (bytes : List Byte) (k : Nat) : Option (List Byte) :=
  if k = 0 ∨ 48 * k < bytes.length then some ((bytes.drop (48 * k)).take 48) else none

/-- READ_RECORD(selector, number, index): one page, or REFUSED(RANGE) (R169). The free values of a page are spent. -/
def readRecord (tag : Byte) (selector number index : Nat) (s : State) : State :=
  match (recordOfSelector s selector number).bind fun bytes => pageOf bytes index with
  | some page => (placePage tag page s).spend
  | none => (answer codeReadRecord tag (.refused .range) s).spend

end Sys2Proof.Machine
end

