-- ==== Sys2Proof/Machine/Resets.lean ====
section
/-! DEFINITION. The resets: power-on reset and the loss of power (R175, R178), the functional reset with its start-up load
(R36, R178, R180), and the RESET line. -/

namespace Sys2Proof.Machine

open Sys2Proof

/-! ### After-reset values of both resets -/

/-- The tables a start-up load of blocks 0 to 3 gives, T6 given (R178). -/
def loadTables (nv : Memory) (t6 : Table) : Tables :=
  { t1 := loadedTable nv 0 1 t1Default
    t2 := loadedTable nv 1 2 t2Default
    t3 := loadedTable nv 2 3 t3Default
    t4 := loadedTable nv 3 4 t4Default
    t6 := t6 }

/-- The sample port after a reset under a T1 (R24). -/
def samplePortLoaded (t1 : Table) (lossStart : Option Stamp) : SamplePort :=
  { samplePortReset lossStart with inputs := gridMap (fun i _ => inputReset (t1InputEnabled t1 i)) (Grid.const ()) }

/-- The four channel records after a power-on reset under a T1 (R39). -/
def channelsLoaded (t1 : Table) (strap : Bool) : Quad ChannelRec :=
  quadMap (fun c _ => channelReset (t1PMax t1 c) strap) (Quad.const ())

/-- The estimates after a reset under a T2 (R1). -/
def estimatesLoaded (t2 : Table) (now : Stamp) : Pair Estimate :=
  ⟨estimateReset (t2Fallback t2 .a) now, estimateReset (t2Fallback t2 .b) now⟩

/-- The tyre table after a reset under a T4 and a position map (R111, R112). -/
def tyresLoaded (t4 : Table) (m : Grid (Option SensorId)) (now : Stamp) : Tyres :=
  { tyresReset now with
    map := m
    records := gridMap (fun p id =>
      tyreFresh (if t4PositionEnabled t4 p then (if id.isSome then .noData else .absent) else .disabled) now) m }

/-- STORE_INCOMPLETE of each block of a start-up load, in turn (R178). -/
def raiseLoad (blocks : List Nat) (s : State) : State := blocks.foldl (fun s b => raiseIncomplete b s) s

/-! ### Power (R175, R178) -/

/-- What the loss of power leaves in the nonvolatile store: an operation in progress ends where it stands (R175 to
R177; logs 22 to 24). -/
def nvAfterLoss (s : State) : Memory :=
  let t := s.store
  if t.ended then t.nv
  else
    match t.state, t.writing, t.tally with
    | .writing, some w, _ => abandonedBlock s.free w.block.val t.nv
    | .erasing, _, _ => partlyErased s.free t.nv
    | .tally, _, some k => if Config.programmedAtPowerLoss s.free then programTally t.nv k else t.nv
    | .writing, none, _ => t.nv
    | .tally, _, none => t.nv
    | .idle, _, _ => t.nv
    | .protecting, _, _ => t.nv

/-- The stored protection word after the loss of power: the former word or the new one (R177; log 24). -/
def protectionAfterLoss (s : State) : BitVec 16 :=
  match s.store.newWord with
  | some word =>
    if s.store.state = .protecting ∧ s.store.ended = false ∧ Config.programmedAtPowerLoss s.free then word
    else s.store.protStored
  | none => s.store.protStored

/-- The part with every volatile state afresh at time 0, the straps read and the tables loaded from a nonvolatile store,
before the raises of the load. The pins, the queue of commands and the model's counter carry on (R178, R132, R156). -/
def poweredState (nv : Memory) (prot : BitVec 16) (s : State) : State :=
  let tables := loadTables nv (loadedTable nv 4 6 t6Default)
  { powered := true
    resetLine := s.resetLine
    straps := s.straps
    timeBase := 0
    free := s.free + 1
    pending := s.pending
    tables := tables
    sample := samplePortLoaded tables.t1 (if s.resetLine then none else some 0)
    valve := valvePortReset
    load := estimatesLoaded tables.t2 0
    arbiter :=
      { channels := channelsLoaded tables.t1 s.straps.startHalted
        demand := 0, source := .nothing, failSafe := .normal, strapHalt := s.straps.startHalted, backupNext := false }
    air := airReset
    roll := rollReset
    rx := receiverReset s.rx.carrier
    tyres := tyresLoaded tables.t4 (mapOfTable (loadedTable nv 3 5 t5Default)) 0
    link := linkReset s.straps.pos.val 0
    relay := relayReset (s.straps.pos.val != 0) s.straps.rearOff
    alerts := alertsReset 0
    mgmt := mgmtReset
    store := storeReset nv prot 0 }

/-- POWER_ON_RESET (R178). -/
def powerOn (s : State) : State := raiseLoad [0, 1, 2, 3, 4] (poweredState (nvAfterLoss s) (protectionAfterLoss s) s)

/-- POWER_LOSS: the nonvolatile store stays and nothing else does (R175; log 6). -/
def losePower (s : State) : State :=
  if s.powered then { poweredState (nvAfterLoss s) (protectionAfterLoss s) s with powered := false } else s

/-! ### Functional reset (R36) -/

/-- Whether the store is in a state with its operation still in progress. -/
def storeRuns (t : Store) (st : StoreState) : Bool := (t.state == st) && !t.ended

/-- COMPLETED(CANCELLED) for every operation the reset ends (R180): pending halts, the learning session, and a block write
or tally erase that a request started. R180 gives no order for the answers: those of the halts from C1 to C4, then the
session's, then the store's is a DESIGN CHOICE, unsafe (log 78). -/
def cancelOperations (s : State) : State :=
  let s := endSession .cancelled (allChannels.foldl (fun s c => cancelPendingHalt c s) s)
  if storeRuns s.store .writing || storeRuns s.store .erasing then completeStore .cancelled s else s

/-- What a functional reset leaves in the nonvolatile store (R175, R176; logs 22 and 23). -/
def nvAtReset (n : Nat) (t : Store) : Memory :=
  if storeRuns t .erasing then partlyErased n t.nv
  else if storeRuns t .writing then
    match t.writing with
    | some w => abandonedBlock n w.block.val t.nv
    | none => t.nv
  else t.nv

/-- Whether an operation runs to its end through a functional reset: a tally bit or a protection word program (R172). -/
def storeRunsOn (t : Store) : Bool := storeRuns t .tally || storeRuns t .protecting

/-- The table store at a functional reset: a write or erase is abandoned, pending increments are lost, and the
protection word is copied, after a program of it that is in progress (R172, R175 to R177; log 25). Nothing is pending after
it; requests made later wait as usual (log 62). -/
def storeAtReset (n : Nat) (now : Stamp) (t : Store) : Store :=
  let runsOn := storeRunsOn t
  { t with
    nv := nvAtReset n t
    abandoned := if storeRuns t .writing then satInc t.abandoned else t.abandoned
    lostAtReset := satAdd t.lostAtReset (quadList t.pendingTally).sum
    pendingTally := Quad.const 0
    protForce := if storeRuns t .protecting then t.protForce else t.protStored
    copyDue := storeRuns t .protecting
    state := if runsOn then t.state else .idle
    ended := false
    since := if runsOn then t.since else now
    writing := none
    tally := if runsOn then t.tally else none
    newWord := if runsOn then t.newWord else none }

/-- The management engine at a functional reset: the open table is discarded, and the store tag is kept only for an
operation that runs on (R168, R180). -/
def engineAtReset (runsOn : Bool) (m : Mgmt) : Mgmt :=
  { m with
    openTable := none, buffer := List.replicate 144 0, segments := [],
    storeTag := if runsOn then m.storeTag else none }

/-- A channel record at a functional reset: its error counter is kept, and one that was FAULTED stays so with its cause
while the counter is at or above the threshold (R39). -/
def channelAtReset (t1 : Table) (strap : Bool) (c : Channel) (r : ChannelRec) : ChannelRec :=
  let fresh := { channelReset (t1PMax t1 c) strap with errors := r.errors }
  if r.state = .faulted ∧ t1Threshold t1 ≤ r.errors then { fresh with state := .faulted, cause := r.cause } else fresh

/-- The arbiter at a functional reset, before the fail-safe state and the demand are derived (R39, R44). -/
def arbiterAtReset (t1 : Table) (strap : Bool) (a : Arbiter) : Arbiter :=
  { a with channels := quadMap (channelAtReset t1 strap) a.channels, strapHalt := strap, backupNext := false }

/-- The roll record at a functional reset: the counts are kept (R63). -/
def rollAtReset (r : Roll) : Roll :=
  { rollReset with
    tests := r.tests, withheld := r.withheld, lifts := r.lifts, aborts := r.aborts, cuts := r.cuts,
    timeouts := r.timeouts, interventions := r.interventions }

/-- The tyre table at a functional reset: its four counts are kept (R112). -/
def tyresAtReset (t4 : Table) (m : Grid (Option SensorId)) (now : Stamp) (t : Tyres) : Tyres :=
  { tyresLoaded t4 m now with readings := t.readings, repeats := t.repeats, misses := t.misses, marks := t.marks }

/-- The link record at a functional reset: in NONE the demand timer restarts, and all else is kept (R146). -/
def linkAtReset (now : Stamp) (l : Link) : Link :=
  match l.state with
  | .nothing => { l with demandTimer := some ⟨now, 1000⟩ }
  | .fresh => l
  | .stale => l
  | .lost => l

/-- Every block at its after-reset values, the store and its operations dealt with (R36). -/
def resetBlocks (s : State) : State :=
  let now := s.timeBase
  let store := storeAtReset s.free now s.store
  let tables := loadTables store.nv s.tables.t6
  { s with
    free := s.free + 1
    tables := tables
    sample := samplePortLoaded tables.t1 (if s.resetLine then none else some now)
    valve := valvePortReset
    load := estimatesLoaded tables.t2 now
    arbiter := arbiterAtReset tables.t1 s.straps.startHalted s.arbiter
    air := airReset
    roll := rollAtReset s.roll
    rx := receiverReset s.rx.carrier
    tyres := tyresAtReset tables.t4 (mapOfTable (loadedTable store.nv 3 5 t5Default)) now s.tyres
    link := linkAtReset now s.link
    mgmt := engineAtReset (storeRunsOn s.store) s.mgmt
    store := store }

/-- The arbiter's fail-safe state and driver demand after a functional reset; the channel rules of R47 are not applied
(R46). -/
def arbiterAfterReset (s : State) : State := deriveDemand (s.onArbiter fun a => { a with failSafe := failSafeOf s })

/-- A functional reset (R36): the own alert queue is emptied first, the operations ended are answered, every block takes
its after-reset values, and then the raises of the load and of R39 are made (R160, R178, R180; log 19). -/
def functionalReset (s : State) : State :=
  let s := cancelOperations (s.onAlerts fun a => { a with queue := [] })
  allChannels.foldl faultByThreshold (raiseLoad [0, 1, 2, 3] (arbiterAfterReset (resetBlocks s)))

/-- RESET_LINE_ASSERTED at a powered part; a second assertion has no meaning (R36). -/
def assertResetLine (s : State) : State :=
  if s.resetLine then s else functionalReset { s with resetLine := true }

/-- RESET_LINE_RELEASED at a powered part: the sample port starts its loss timer (R36). -/
def releaseResetLine (s : State) : State :=
  if s.resetLine then
    { s with resetLine := false }.onSample fun p => { p with lossStart := some s.timeBase }
  else s

end Sys2Proof.Machine
end

