-- ==== Sys2Proof/Machine/Management.lean ====
section
/-! DEFINITION. The management engine (11): judging a request (R168), the table load (R170, R171), the table store's requests
(R174 to R177), RESTART (R179), and the arrival of a frame at a port (R149). -/

namespace Sys2Proof.Machine

open Sys2Proof

/-! ### Loading and activating a table (R170, R171) -/

/-- Whether a table number is one of T1 to T6. -/
def tableInRange (t : Nat) : Bool := decide (1 ≤ t ∧ t ≤ 6)

/-- OPEN_TABLE(t) (R170). -/
def openTable (tag : Byte) (t : Nat) (s : State) : State :=
  if tableInRange t then
    answer codeOpenTable tag .done <|
      s.onMgmt fun m => { m with openTable := some t, buffer := List.replicate 144 0, segments := [] }
  else answer codeOpenTable tag (.refused .range) s

/-- The load buffer with a segment's six bytes written at offset 6i; bytes beyond the table's size are not kept (R170). -/
def writeSegment (size i : Nat) (bytes : List Byte) (buffer : Table) : Table :=
  (List.range 144).map fun k =>
    if 6 * i ≤ k ∧ k < 6 * i + 6 ∧ k < size then bytes.getD (k - 6 * i) 0 else buffer.getD k 0

/-- LOAD_SEGMENT(i, six bytes) (R170). -/
def loadSegment (tag : Byte) (i : Nat) (bytes : List Byte) (s : State) : State :=
  match s.mgmt.openTable with
  | none => answer codeLoadSegment tag (.refused .sequence) s
  | some t =>
    if i < tableSegments t then
      answer codeLoadSegment tag .done <| s.onMgmt fun m =>
        { m with
          buffer := writeSegment (tableSize t) i bytes m.buffer
          segments := if m.segments.contains i then m.segments else i :: m.segments }
    else answer codeLoadSegment tag (.refused .range) s

/-- The activation condition of a table (R171). -/
def activationAllowed (s : State) (t : Nat) : Bool :=
  match t with
  | 1 => stationary s && demandLow s && rollIdle s
  | 2 => stationary s && !s.load.a.freeze && !s.load.b.freeze && rollIdle s
  | 3 => rollIdle s
  | 5 => s.tyres.session.isNone
  | _ => true

/-- Whether every segment of a table has been loaded. -/
def allSegments (s : State) (t : Nat) : Bool := (List.range (tableSegments t)).all fun i => s.mgmt.segments.contains i

/-- T1 at each block that holds a copy (R28, R38, R98, R130), in an order that no rule gives: the sample port's flags first,
which is a DESIGN CHOICE, unsafe (log 79), then the tyre table and the pressure arbiter in no fixed order (log 20). -/
def activateT1 (t : Table) (s : State) : State :=
  let s := portTakesT1 (s.onTables fun x => { x with t1 := t })
  (if Config.tyresTakeT1First s.free then arbiterTakesT1 (tyresTakeT1 s) else tyresTakeT1 (arbiterTakesT1 s)).spend

/-- The buffer becomes the working table, with the effects of its chapter (R16, R28, R38, R65, R98, R109, R120, R130,
R151). -/
def installTable (t : Nat) (bytes : Table) (s : State) : State :=
  match t with
  | 1 => activateT1 bytes s
  | 2 => estimatorTakesT2 (s.onTables fun x => { x with t2 := bytes })
  | 3 => s.onTables fun x => { x with t3 := bytes }
  | 4 => tyresTakeT4 s.tables.t4 (s.onTables fun x => { x with t4 := bytes })
  | 5 => tyresTakeT5 bytes s
  | 6 => relayTakesT6 (s.onTables fun x => { x with t6 := bytes })
  | _ => s

/-- The answer that refuses an activation, by the first of the six checks that applies; none when every check passes
(R171). -/
def activationRefusal (t : Nat) (s : State) : Option Answer :=
  if !tableInRange t then some (.refused .range)
  else if s.mgmt.openTable ≠ some t then some (.refused .sequence)
  else if !allSegments s t then some (.refused .sequence)
  else if t = 2 ∧ lockInForce s then some (.refused .locked)
  else if !activationAllowed s t then some (.refused .busy)
  else (tableCheck t (s.mgmt.buffer.take (tableSize t))).map .invalid

/-- ACTIVATE_TABLE(t) (R171). -/
def activateTable (tag : Byte) (t : Nat) (s : State) : State :=
  match activationRefusal t s with
  | some a => answer codeActivateTable tag a s
  | none =>
    answer codeActivateTable tag .done <|
      (installTable t (s.mgmt.buffer.take (tableSize t)) s).onMgmt fun m => { m with openTable := none }

/-! ### Requests to the table store (R174, R176, R177) -/

/-- STORE_BLOCK(b) (R174). -/
def storeBlock (tag : Byte) (n : Nat) (s : State) : State :=
  if h : n < 5 then
    if storeBusy s then answer codeStoreBlock tag (.refused .busy) s
    else if writeLocked s ⟨n, h⟩ then answer codeStoreBlock tag (.refused .locked) s
    else answer codeStoreBlock tag .accepted (holdStoreTag codeStoreBlock tag (startWrite ⟨n, h⟩ s))
  else answer codeStoreBlock tag (.refused .range) s

/-- ERASE_TALLIES (R176). -/
def eraseTallies (tag : Byte) (s : State) : State :=
  if lockInForce s || blockProtected s 5 then answer codeEraseTallies tag (.refused .locked) s
  else if storeBusy s then answer codeEraseTallies tag (.refused .busy) s
  else answer codeEraseTallies tag .accepted (holdStoreTag codeEraseTallies tag (startErase s))

/-- SET_PROTECTION(mask) (R177). -/
def setProtection (tag : Byte) (mask : Nat) (s : State) : State :=
  if 64 ≤ mask then answer codeSetProtection tag (.refused .range) s
  else if lockInForce s then answer codeSetProtection tag (.refused .locked) s
  else if storeBusy s then answer codeSetProtection tag (.refused .busy) s
  else answer codeSetProtection tag .accepted <|
    holdStoreTag codeSetProtection tag (startProtect (protectionWord s.store.protStored mask) s)

/-- REFRESH_PROTECTION (R177). -/
def refreshProtection (tag : Byte) (s : State) : State :=
  if storeBusy s then answer codeRefreshProtection tag (.refused .busy) s
  else answer codeRefreshProtection tag .done (s.onStore fun t => { t with protForce := t.protStored })

/-- LOCK_CALIBRATION (R177). -/
def lockCalibration (tag : Byte) (s : State) : State :=
  if !stationary s then answer codeLockCalibration tag (.refused .state) s
  else if protectFlag s.store.protStored 15 then answer codeLockCalibration tag .done s
  else if storeBusy s then answer codeLockCalibration tag (.refused .busy) s
  else answer codeLockCalibration tag .accepted <|
    holdStoreTag codeLockCalibration tag (startProtect (lockedWord s.store.protStored) s)

/-! ### CLEAR_CAPTURE and RESTART (R167, R179) -/

/-- CLEAR_CAPTURE (R167). -/
def clearCapture (tag : Byte) (s : State) : State := answer codeClearCapture tag .done (emptyCapture s)

/-- RESTART: the DONE is placed before the functional reset (R179). -/
def restart (tag : Byte) (s : State) : State :=
  if storeBusy s then answer codeRestart tag (.refused .busy) s
  else functionalReset (answer codeRestart tag .done s)

/-! ### Judging a request (R168) -/

/-- The payload length a request needs: the tag and the bytes of its arguments (12.1). -/
def requestLength (code : Nat) : Nat :=
  match code with
  | 1 => 4
  | 2 => 2
  | 3 => 8
  | 4 => 2
  | 5 => 2
  | 7 => 3
  | 10 => 4
  | 11 => 2
  | 12 => 2
  | 14 => 4
  | _ => 1

/-- A request passed to its owner (R168). -/
def passRequest (code : Nat) (tag : Byte) (data : List Byte) (s : State) : State :=
  match code with
  | 1 => readRecord tag (dataByte data 1) (dataByte data 2) (dataByte data 3) s
  | 2 => openTable tag (dataByte data 1) s
  | 3 => loadSegment tag (dataByte data 1) (data.drop 2) s
  | 4 => activateTable tag (dataByte data 1) s
  | 5 => storeBlock tag (dataByte data 1) s
  | 6 => eraseTallies tag s
  | 7 => setProtection tag (dataWord data 1) s
  | 8 => refreshProtection tag s
  | 9 => lockCalibration tag s
  | 10 => haltChannel tag (dataByte data 1) (dataWord data 2) s
  | 11 => runChannel tag (dataByte data 1) s
  | 12 => clearChannel tag (dataByte data 1) s
  | 13 => clearCapture tag s
  | 14 => learnPosition tag (dataByte data 1) (dataWord data 2) s
  | 15 => cancelLearn tag s
  | 16 => isolateRear tag s
  | 17 => resumeRear tag s
  | 18 => restart tag s
  | _ => s

/-- The malformed count of the engine raised. -/
def countMalformed (s : State) : State := s.onMgmt fun m => { m with malformed := satInc m.malformed }

/-- A request with its tag judged: unknown code, too short, broadcast, or passed to its owner (R168). -/
def judgeRequest (f : CanFrame) (tag : Byte) (s : State) : State :=
  let code := frameCode f
  if code < 1 ∨ 18 < code then
    answer code tag (.refused .unknown) (s.onMgmt fun m => { m with unknown := satInc m.unknown })
  else if f.data.length < requestLength code then answer code tag (.refused .range) (countMalformed s)
  else if frameDest f = 15 ∧ code ≠ codeReadRecord then answer code tag (.refused .state) s
  else passRequest code tag f.data s

/-- The management engine takes a request frame (R168). -/
def engineTakes (f : CanFrame) (s : State) : State :=
  let s := s.onMgmt fun m => { m with taken := satInc m.taken }
  match f.data with
  | tag :: _ => judgeRequest f tag s
  | [] => countMalformed s

/-! ### Arrival of a frame (R149) -/

/-- The arrivals count of a port raised. -/
def countArrival (port : Port) (s : State) : State :=
  s.onRelay fun r =>
    match port with
    | .front => { r with frontArrivals := satInc r.frontArrivals }
    | .rear => { r with rearArrivals := satInc r.rearArrivals }

/-- A front frame dropped by the built-in handling. -/
def dropMisdirected (s : State) : State := s.onRelay fun r => { r with misdirected := satInc r.misdirected }

/-- A rear frame dropped by the built-in handling. -/
def dropWrongDirection (s : State) : State := s.onRelay fun r => { r with wrongDirection := satInc r.wrongDirection }

/-- A MGMT_REQUEST frame at the front port, by its destination (R149). A broadcast is taken by the engine before it is offered
rearward: DEDUCED, unsafe (log 35). -/
def handleRequest (f : CanFrame) (s : State) : State :=
  if frameDest f = 15 then (engineTakes f s).onRelay (offerRear (.frame f))
  else if frameDest f = chainPosition s then engineTakes f s
  else if chainPosition s < frameDest f then s.onRelay (offerRear (.frame f))
  else dropMisdirected s

/-- A frame with a 29-bit identifier at the front port, by its class (R149). -/
def handleFront (f : CanFrame) (s : State) : State :=
  match frameClass f with
  | 0 => dropMisdirected s
  | 1 => takeDemand f.data s
  | 2 => takePosition f.data s
  | 3 => dropMisdirected s
  | 4 => dropMisdirected s
  | 5 => handleRequest f s
  | 6 => dropMisdirected s
  | _ => s.onRelay (routeFrame s.tables.t6 .front f)

/-- A frame with a 29-bit identifier at the rear port, by its class (R149). -/
def handleRear (f : CanFrame) (s : State) : State :=
  match frameClass f with
  | 0 => dropWrongDirection s
  | 1 => dropWrongDirection s
  | 2 => dropWrongDirection s
  | 3 => s.onRelay (placeRelayed f)
  | 4 => s.onRelay (placeRelayed f)
  | 5 => dropWrongDirection s
  | 6 => s.onRelay (placeRelayed f)
  | _ => s.onRelay (routeFrame s.tables.t6 .rear f)

/-- An arrived frame at the front port: an 11-bit identifier is dropped, a 29-bit one handled by its class (R149). -/
def arriveFront (f : CanFrame) (s : State) : State :=
  if f.extended then handleFront f s else s.onRelay fun r => { r with frontShort := satInc r.frontShort }

/-- An arrived frame at the rear port; in ISOLATED every one is dropped (R149, R157; log 28). -/
def arriveRear (f : CanFrame) (s : State) : State :=
  if s.relay.rear = .isolated then
    s.onRelay fun r => dropFrames 1 { r with isolatedDrop := satInc r.isolatedDrop }
  else if f.extended then handleRear f s
  else s.onRelay fun r => { r with rearShort := satInc r.rearShort }

/-- A frame arriving at a port (R149). -/
def frameArrival (port : Port) (f : CanFrame) (s : State) : State :=
  match port with
  | .front => arriveFront f (countArrival .front s)
  | .rear => arriveRear f (countArrival .rear s)

/-- A management request arriving at the front port as a frame of its code (R149, R168). -/
def requestArrival (code : Nat) (r : ReqFrame) (s : State) : State :=
  handleRequest (requestFrame code r) (countArrival .front s)

end Sys2Proof.Machine
end

