-- ==== Sys2Proof/Machine/Commands.lean ====
section
/-! DEFINITION. The meaning of every command: one definition per row of spec/opcode_table.json, over the operations of the
blocks. A part without supply takes nothing but its pins and POWER_ON_RESET (log 6). -/

namespace Sys2Proof.Machine

open Sys2Proof

/-- POWER_ON_RESET (R178). -/
def execPowerOnReset (s : State) : Host.Outcome State Fault Refusal := .next (powerOn s)

/-- POWER_LOSS (R175). -/
def execPowerLoss (s : State) : Host.Outcome State Fault Refusal := .next (losePower s)

/-- RESET_LINE_ASSERTED (R36). -/
def execResetLineAsserted (s : State) : Host.Outcome State Fault Refusal :=
  if s.powered then .next (assertResetLine s) else .next { s with resetLine := true }

/-- RESET_LINE_RELEASED (R36). -/
def execResetLineReleased (s : State) : Host.Outcome State Fault Refusal :=
  if s.powered then .next (releaseResetLine s) else .next { s with resetLine := false }

/-- SAMPLE_SET_ARRIVAL (R25). -/
def execSampleSetArrival (bytes : List Byte) (s : State) : Host.Outcome State Fault Refusal :=
  live (sampleSetArrival bytes) s

/-- LOSS_TIMER_EXPIRY (R30). -/
def execLossTimerExpiry (s : State) : Host.Outcome State Fault Refusal := live lossTimerExpiry s

/-- VALVE_RECORD_SENT (R32). -/
def execValveRecordSent (s : State) : Host.Outcome State Fault Refusal := live valveRecordSent s

/-- PENDING_RECORD_TRANSMIT (R32). -/
def execPendingRecordTransmit (s : State) : Host.Outcome State Fault Refusal := live pendingRecordTransmit s

/-- REFRESH_DUE (R33). -/
def execRefreshDue (s : State) : Host.Outcome State Fault Refusal := live refreshDue s

/-- DRIVER_STATUS_RECORD (R34). -/
def execDriverStatusRecord (bytes : List Byte) (s : State) : Host.Outcome State Fault Refusal :=
  live (driverStatusRecord bytes) s

/-- HOLD_TIMER_EXPIRY (R48). -/
def execHoldTimerExpiry (channel : Channel) (s : State) : Host.Outcome State Fault Refusal :=
  live (holdTimerExpiry channel) s

/-- ROLL_TIMER_EXPIRY (R69). -/
def execRollTimerExpiry (s : State) : Host.Outcome State Fault Refusal := live rollTimerExpiry s

/-- CARRIER_CHANGE (R102). -/
def execCarrierChange (high : Bool) (s : State) : Host.Outcome State Fault Refusal :=
  if s.powered then .next (carrierChange high s) else .next (s.onRx fun r => { r with carrier := high })

/-- SYNC_MATCH (R101). -/
def execSyncMatch (bit : Bool) (s : State) : Host.Outcome State Fault Refusal := live (takeBit bit) s

/-- TELEGRAM_COMPLETE (R103). -/
def execTelegramComplete (bit : Bool) (s : State) : Host.Outcome State Fault Refusal := live (takeBit bit) s

/-- TELEGRAM_ENTRY_TAKEN (R114). -/
def execTelegramEntryTaken (s : State) : Host.Outcome State Fault Refusal := live telegramEntryTaken s

/-- CHECK_TIMER_EXPIRY (R121). -/
def execCheckTimerExpiry (s : State) : Host.Outcome State Fault Refusal := live checkTimerExpiry s

/-- LEARN_TIMER_EXPIRY (R127). -/
def execLearnTimerExpiry (s : State) : Host.Outcome State Fault Refusal := live learnTimerExpiry s

/-- FRAME_ARRIVAL (R149). -/
def execFrameArrival (port : Port) (frame : CanFrame) (s : State) : Host.Outcome State Fault Refusal :=
  live (frameArrival port frame) s

/-- DEMAND_FRAME (R138). -/
def execDemandFrame (frame : LinkFrame) (s : State) : Host.Outcome State Fault Refusal :=
  live (fun s => takeDemand frame.data (countArrival .front s)) s

/-- POSITION_FRAME (R134). -/
def execPositionFrame (frame : LinkFrame) (s : State) : Host.Outcome State Fault Refusal :=
  live (fun s => takePosition frame.data (countArrival .front s)) s

/-- DEMAND_TIMER_EXPIRY (R140). -/
def execDemandTimerExpiry (s : State) : Host.Outcome State Fault Refusal := live demandTimerExpiry s

/-- REARWARD_TIMER_EXPIRY (R142). -/
def execRearwardTimerExpiry (s : State) : Host.Outcome State Fault Refusal := live rearwardTimerExpiry s

/-- FRONT_HANDOVER (R153). -/
def execFrontHandover (s : State) : Host.Outcome State Fault Refusal := live frontHandover s

/-- FRONT_HANDOVER_OUTCOME (R153). -/
def execFrontHandoverOutcome (acked : Bool) (s : State) : Host.Outcome State Fault Refusal :=
  live (frontHandoverOutcome acked) s

/-- REAR_HANDOVER (R155). -/
def execRearHandover (s : State) : Host.Outcome State Fault Refusal := live rearHandover s

/-- REAR_HANDOVER_OUTCOME (R155). -/
def execRearHandoverOutcome (acked : Bool) (s : State) : Host.Outcome State Fault Refusal :=
  live (rearHandoverOutcome acked) s

/-- STATUS_TIMER_EXPIRY (R164). -/
def execStatusTimerExpiry (s : State) : Host.Outcome State Fault Refusal := live statusTimerExpiry s

/-- READ_RECORD (R169). -/
def execReadRecord (req : ReqFrame) (s : State) : Host.Outcome State Fault Refusal :=
  live (requestArrival codeReadRecord req) s

/-- OPEN_TABLE (R170). -/
def execOpenTable (req : ReqFrame) (s : State) : Host.Outcome State Fault Refusal :=
  live (requestArrival codeOpenTable req) s

/-- LOAD_SEGMENT (R170). -/
def execLoadSegment (req : ReqFrame) (s : State) : Host.Outcome State Fault Refusal :=
  live (requestArrival codeLoadSegment req) s

/-- ACTIVATE_TABLE (R171). -/
def execActivateTable (req : ReqFrame) (s : State) : Host.Outcome State Fault Refusal :=
  live (requestArrival codeActivateTable req) s

/-- STORE_BLOCK (R174). -/
def execStoreBlock (req : ReqFrame) (s : State) : Host.Outcome State Fault Refusal :=
  live (requestArrival codeStoreBlock req) s

/-- BLOCK_WRITE_COMPLETE (R174). -/
def execBlockWriteComplete (s : State) : Host.Outcome State Fault Refusal := live blockWriteComplete s

/-- ERASE_TALLIES (R176). -/
def execEraseTallies (req : ReqFrame) (s : State) : Host.Outcome State Fault Refusal :=
  live (requestArrival codeEraseTallies req) s

/-- TALLY_ERASE_COMPLETE (R176). -/
def execTallyEraseComplete (s : State) : Host.Outcome State Fault Refusal := live tallyEraseComplete s

/-- TALLY_BIT_PROGRAMMED (R176). -/
def execTallyBitProgrammed (s : State) : Host.Outcome State Fault Refusal := live tallyBitProgrammed s

/-- PENDING_TALLY_START (R172). -/
def execPendingTallyStart (s : State) : Host.Outcome State Fault Refusal := live pendingTallyStart s

/-- WAITING_BLOCK3_STORE_START (R129). -/
def execWaitingBlock3StoreStart (s : State) : Host.Outcome State Fault Refusal := live waitingBlock3StoreStart s

/-- SET_PROTECTION (R177). -/
def execSetProtection (req : ReqFrame) (s : State) : Host.Outcome State Fault Refusal :=
  live (requestArrival codeSetProtection req) s

/-- REFRESH_PROTECTION (R177). -/
def execRefreshProtection (req : ReqFrame) (s : State) : Host.Outcome State Fault Refusal :=
  live (requestArrival codeRefreshProtection req) s

/-- LOCK_CALIBRATION (R177). -/
def execLockCalibration (req : ReqFrame) (s : State) : Host.Outcome State Fault Refusal :=
  live (requestArrival codeLockCalibration req) s

/-- PROTECTION_WORD_PROGRAMMED (R177). -/
def execProtectionWordProgrammed (s : State) : Host.Outcome State Fault Refusal := live protectionWordProgrammed s

/-- HALT_CHANNEL (R57). -/
def execHaltChannel (req : ReqFrame) (s : State) : Host.Outcome State Fault Refusal :=
  live (requestArrival codeHaltChannel req) s

/-- RUN_CHANNEL (R60). -/
def execRunChannel (req : ReqFrame) (s : State) : Host.Outcome State Fault Refusal :=
  live (requestArrival codeRunChannel req) s

/-- CLEAR_CHANNEL (R61). -/
def execClearChannel (req : ReqFrame) (s : State) : Host.Outcome State Fault Refusal :=
  live (requestArrival codeClearChannel req) s

/-- CLEAR_CAPTURE (R167). -/
def execClearCapture (req : ReqFrame) (s : State) : Host.Outcome State Fault Refusal :=
  live (requestArrival codeClearCapture req) s

/-- LEARN_POSITION (R127). -/
def execLearnPosition (req : ReqFrame) (s : State) : Host.Outcome State Fault Refusal :=
  live (requestArrival codeLearnPosition req) s

/-- CANCEL_LEARN (R127). -/
def execCancelLearn (req : ReqFrame) (s : State) : Host.Outcome State Fault Refusal :=
  live (requestArrival codeCancelLearn req) s

/-- ISOLATE_REAR (R157). -/
def execIsolateRear (req : ReqFrame) (s : State) : Host.Outcome State Fault Refusal :=
  live (requestArrival codeIsolateRear req) s

/-- RESUME_REAR (R157). -/
def execResumeRear (req : ReqFrame) (s : State) : Host.Outcome State Fault Refusal :=
  live (requestArrival codeResumeRear req) s

/-- RESTART (R179). -/
def execRestart (req : ReqFrame) (s : State) : Host.Outcome State Fault Refusal :=
  live (requestArrival codeRestart req) s

/-- BIT_TAKEN (R101). -/
def execBitTaken (bit : Bool) (s : State) : Host.Outcome State Fault Refusal := live (takeBit bit) s

end Sys2Proof.Machine
end

