-- ==== Sys2Proof/Machine/Dispatch.lean ====
section
/-! DEFINITION. One arm per command, each one call of its meaning. -/

namespace Sys2Proof.Machine

open Sys2Proof

/-- The effect of a command on everything but the queue. -/
def exec (i : Instr) (s : State) : Host.Outcome State Fault Refusal :=
  match i with
  | .powerOnReset => Sys2Proof.Machine.execPowerOnReset s
  | .powerLoss => Sys2Proof.Machine.execPowerLoss s
  | .resetLineAsserted => Sys2Proof.Machine.execResetLineAsserted s
  | .resetLineReleased => Sys2Proof.Machine.execResetLineReleased s
  | .sampleSetArrival bytes => Sys2Proof.Machine.execSampleSetArrival bytes s
  | .lossTimerExpiry => Sys2Proof.Machine.execLossTimerExpiry s
  | .valveRecordSent => Sys2Proof.Machine.execValveRecordSent s
  | .pendingRecordTransmit => Sys2Proof.Machine.execPendingRecordTransmit s
  | .refreshDue => Sys2Proof.Machine.execRefreshDue s
  | .driverStatusRecord bytes => Sys2Proof.Machine.execDriverStatusRecord bytes s
  | .holdTimerExpiry channel => Sys2Proof.Machine.execHoldTimerExpiry channel s
  | .rollTimerExpiry => Sys2Proof.Machine.execRollTimerExpiry s
  | .carrierChange high => Sys2Proof.Machine.execCarrierChange high s
  | .syncMatch bit => Sys2Proof.Machine.execSyncMatch bit s
  | .telegramComplete bit => Sys2Proof.Machine.execTelegramComplete bit s
  | .telegramEntryTaken => Sys2Proof.Machine.execTelegramEntryTaken s
  | .checkTimerExpiry => Sys2Proof.Machine.execCheckTimerExpiry s
  | .learnTimerExpiry => Sys2Proof.Machine.execLearnTimerExpiry s
  | .frameArrival port frame => Sys2Proof.Machine.execFrameArrival port frame s
  | .demandFrame frame => Sys2Proof.Machine.execDemandFrame frame s
  | .positionFrame frame => Sys2Proof.Machine.execPositionFrame frame s
  | .demandTimerExpiry => Sys2Proof.Machine.execDemandTimerExpiry s
  | .rearwardTimerExpiry => Sys2Proof.Machine.execRearwardTimerExpiry s
  | .frontHandover => Sys2Proof.Machine.execFrontHandover s
  | .frontHandoverOutcome acked => Sys2Proof.Machine.execFrontHandoverOutcome acked s
  | .rearHandover => Sys2Proof.Machine.execRearHandover s
  | .rearHandoverOutcome acked => Sys2Proof.Machine.execRearHandoverOutcome acked s
  | .statusTimerExpiry => Sys2Proof.Machine.execStatusTimerExpiry s
  | .readRecord req => Sys2Proof.Machine.execReadRecord req s
  | .openTable req => Sys2Proof.Machine.execOpenTable req s
  | .loadSegment req => Sys2Proof.Machine.execLoadSegment req s
  | .activateTable req => Sys2Proof.Machine.execActivateTable req s
  | .storeBlock req => Sys2Proof.Machine.execStoreBlock req s
  | .blockWriteComplete => Sys2Proof.Machine.execBlockWriteComplete s
  | .eraseTallies req => Sys2Proof.Machine.execEraseTallies req s
  | .tallyEraseComplete => Sys2Proof.Machine.execTallyEraseComplete s
  | .tallyBitProgrammed => Sys2Proof.Machine.execTallyBitProgrammed s
  | .pendingTallyStart => Sys2Proof.Machine.execPendingTallyStart s
  | .waitingBlock3StoreStart => Sys2Proof.Machine.execWaitingBlock3StoreStart s
  | .setProtection req => Sys2Proof.Machine.execSetProtection req s
  | .refreshProtection req => Sys2Proof.Machine.execRefreshProtection req s
  | .lockCalibration req => Sys2Proof.Machine.execLockCalibration req s
  | .protectionWordProgrammed => Sys2Proof.Machine.execProtectionWordProgrammed s
  | .haltChannel req => Sys2Proof.Machine.execHaltChannel req s
  | .runChannel req => Sys2Proof.Machine.execRunChannel req s
  | .clearChannel req => Sys2Proof.Machine.execClearChannel req s
  | .clearCapture req => Sys2Proof.Machine.execClearCapture req s
  | .learnPosition req => Sys2Proof.Machine.execLearnPosition req s
  | .cancelLearn req => Sys2Proof.Machine.execCancelLearn req s
  | .isolateRear req => Sys2Proof.Machine.execIsolateRear req s
  | .resumeRear req => Sys2Proof.Machine.execResumeRear req s
  | .restart req => Sys2Proof.Machine.execRestart req s
  | .bitTaken bit => Sys2Proof.Machine.execBitTaken bit s

end Sys2Proof.Machine
end

