-- ==== Sys2Proof/Machine/Ticks.lean ====
section
/-! DEFINITION. The time base (R35): what one millisecond of an idle part brings, the time base's advance and the part's own
events that are then due (log 1). -/

namespace Sys2Proof.Machine

open Sys2Proof

/-- A command that is due when a condition holds. -/
def dueIf (holds : Bool) (c : Instr) : List Instr := if holds then [c] else []

/-- The expiry of a channel's HOLD timer, when it is due (R48). -/
def dueHold (s : State) (c : Channel) : List Instr :=
  dueIf (((chan s c).state == .hold) && runLasted s.timeBase (chan s c).holdTimer 500) (.holdTimerExpiry c)

/-- The expiries of the timers of the blocks that are due (R35). -/
def dueExpiries (s : State) : List Instr :=
  dueIf (lossExpired s) .lossTimerExpiry ++ dueIf (refreshIsDue s) .refreshDue ++ allChannels.flatMap (dueHold s) ++
    dueIf (timerExpired s.timeBase s.roll.timer) .rollTimerExpiry ++
    dueIf (reached s.timeBase s.tyres.checkStart 1000) .checkTimerExpiry ++
    dueIf (sessionExpired s) .learnTimerExpiry ++
    dueIf (timerExpired s.timeBase s.link.demandTimer) .demandTimerExpiry ++
    dueIf (runLasted s.timeBase s.link.rearwardTimer 10) .rearwardTimerExpiry ++
    dueIf (reached s.timeBase s.alerts.statusStart 100) .statusTimerExpiry

/-- The end of the table store's operation in progress, at the latest moment the manual allows it (R174, R176, R177). -/
def dueStore (s : State) : List Instr :=
  let t := s.store
  let after := fun st d => storeRuns t st && reached s.timeBase t.since d
  dueIf (after .writing 400) .blockWriteComplete ++ dueIf (after .erasing 200) .tallyEraseComplete ++
    dueIf (after .tally 5) .tallyBitProgrammed ++ dueIf (after .protecting 50) .protectionWordProgrammed ++
    dueIf (t.ended && (firstPending s).isSome) .pendingTallyStart ++
    dueIf (t.ended && (firstPending s).isNone && s.tyres.waiting) .waitingBlock3StoreStart

/-- What the ports can start: the waiting valve command record and the next frame of either CAN port (R32, R153, R155). -/
def duePorts (s : State) : List Instr :=
  dueIf (s.valve.tx.isNone && s.valve.slot.isSome) .pendingRecordTransmit ++
    dueIf (s.relay.frontTx.isNone && (frontChoice s).isSome) .frontHandover ++
    dueIf (rearReady s.relay) .rearHandover

/-- The events of the part's own that are due. -/
def dueEvents (s : State) : List Instr := dueExpiries s ++ dueStore s ++ duePorts s

/-- One millisecond: the time base advances, and the events then due wait in the queue, in no fixed order among them (R35;
log 2). A part without supply keeps no time (log 47). -/
def idleTick (s : State) : State :=
  if s.powered then
    let s := { s with timeBase := s.timeBase + 1 }
    { s with pending := arrange (Config.expiryOrder s.free) (dueEvents s), free := s.free + 1 }
  else s

end Sys2Proof.Machine
end

