-- ==== Sys2Proof/Safety.lean ====
section
/-! DEFINITION. The terms statements use: the parts of the state and what may change, requests and frames that reach their
owner, and the invariants a safe run keeps. -/

namespace Sys2Proof.Machine

open Sys2Proof

/-! ### What may change -/

/-- The parts of the state: one per field. -/
inductive Part where
  | power | line | straps | clock | free | queue | tables
  | sample | valve | load | arbiter | air | roll | rx | tyres | link | relay | alerts | mgmt | store
  deriving DecidableEq, Repr

/-- Whether a part is the same in two states. -/
def SamePart (s t : State) : Part → Prop
  | .power => t.powered = s.powered
  | .line => t.resetLine = s.resetLine
  | .straps => t.straps = s.straps
  | .clock => t.timeBase = s.timeBase
  | .free => t.free = s.free
  | .queue => t.pending = s.pending
  | .tables => t.tables = s.tables
  | .sample => t.sample = s.sample
  | .valve => t.valve = s.valve
  | .load => t.load = s.load
  | .arbiter => t.arbiter = s.arbiter
  | .air => t.air = s.air
  | .roll => t.roll = s.roll
  | .rx => t.rx = s.rx
  | .tyres => t.tyres = s.tyres
  | .link => t.link = s.link
  | .relay => t.relay = s.relay
  | .alerts => t.alerts = s.alerts
  | .mgmt => t.mgmt = s.mgmt
  | .store => t.store = s.store

/-- From `s` to `t` nothing changes outside the parts listed. -/
def ChangesOnly (ps : List Part) (s t : State) : Prop := ∀ p, p ∉ ps → SamePart s t p

/-! ### Requests and frames -/

/-- A powered and PLACED part takes a request of at least `n` data bytes addressed to it, whose tag is `tag` (R149, R168). -/
def TakesRequest (s : State) (q : ReqFrame) (n : Nat) (tag : Byte) : Prop :=
  s.powered = true ∧ q.dest.toNat = chainPosition s ∧ q.dest.toNat ≠ 15 ∧ n ≤ q.data.length ∧ q.data.head? = some tag

/-- The state once the relay has counted a request's arrival and the engine has counted the request (R149, R168). -/
def requestTaken (s : State) : State :=
  { s with
    relay := { s.relay with frontArrivals := min (s.relay.frontArrivals + 1) 65535 }
    mgmt := { s.mgmt with taken := min (s.mgmt.taken + 1) 65535 } }

/-- The state once the relay has counted a frame's arrival at the front port (R149). -/
def frontCounted (s : State) : State :=
  { s with relay := { s.relay with frontArrivals := min (s.relay.frontArrivals + 1) 65535 } }

/-- The state once the relay has counted a frame's arrival at the rear port (R149). -/
def rearCounted (s : State) : State :=
  { s with relay := { s.relay with rearArrivals := min (s.relay.rearArrivals + 1) 65535 } }

/-- The request code a command carries, when it is a management request or a frame of class MGMT_REQUEST. -/
def requestCodeOf : Instr → Option Nat
  | .readRecord _ => some 1
  | .openTable _ => some 2
  | .loadSegment _ => some 3
  | .activateTable _ => some 4
  | .storeBlock _ => some 5
  | .eraseTallies _ => some 6
  | .setProtection _ => some 7
  | .refreshProtection _ => some 8
  | .lockCalibration _ => some 9
  | .haltChannel _ => some 10
  | .runChannel _ => some 11
  | .clearChannel _ => some 12
  | .clearCapture _ => some 13
  | .learnPosition _ => some 14
  | .cancelLearn _ => some 15
  | .isolateRear _ => some 16
  | .resumeRear _ => some 17
  | .restart _ => some 18
  | .frameArrival _ f => if frameClass f = 5 then some (frameCode f) else none
  | .powerOnReset => none
  | .powerLoss => none
  | .resetLineAsserted => none
  | .resetLineReleased => none
  | .sampleSetArrival _ => none
  | .lossTimerExpiry => none
  | .valveRecordSent => none
  | .pendingRecordTransmit => none
  | .refreshDue => none
  | .driverStatusRecord _ => none
  | .holdTimerExpiry _ => none
  | .rollTimerExpiry => none
  | .carrierChange _ => none
  | .syncMatch _ => none
  | .telegramComplete _ => none
  | .telegramEntryTaken => none
  | .checkTimerExpiry => none
  | .learnTimerExpiry => none
  | .demandFrame _ => none
  | .positionFrame _ => none
  | .demandTimerExpiry => none
  | .rearwardTimerExpiry => none
  | .frontHandover => none
  | .frontHandoverOutcome _ => none
  | .rearHandover => none
  | .rearHandoverOutcome _ => none
  | .statusTimerExpiry => none
  | .blockWriteComplete => none
  | .tallyEraseComplete => none
  | .tallyBitProgrammed => none
  | .pendingTallyStart => none
  | .waitingBlock3StoreStart => none
  | .protectionWordProgrammed => none
  | .bitTaken _ => none

/-- A sample set that the port accepts: the part is powered, the RESET line is released, the frame check holds and the set is
no repeat (R25, R36). -/
def AcceptsSet (s : State) (bytes : List Byte) : Prop :=
  s.powered = true ∧ s.resetLine = false ∧ sampleSetOk bytes = true ∧
    ¬(s.sample.loss = .running ∧ s.sample.lastSeq = some (sampleSeq bytes))

/-- The parts that an accepted sample set may change: the port, and through the five blocks that take it the blocks
themselves, the valve command port, the alerts, the answers and the tally requests. The rest is unchanged. -/
def acceptedSetParts : List Part :=
  [.sample, .load, .arbiter, .valve, .air, .roll, .tyres, .alerts, .mgmt, .store, .free]

/-! ### Raises -/

/-- The alert composer after a raise by an event that bears a time (R159, R161). -/
def raisedAt (s : State) (time : Stamp) (cause : Cause) (subject : Subject) (value : Nat) (a : Alerts) : Alerts :=
  placeAlert s.timeBase ⟨cause, subject, value, time, false, false⟩ a

/-! ### Roll actions -/

/-- The thresholds of the values in force (R67). -/
def ThresholdsOf (s : State) (th : Thresholds) : Prop :=
  let t3 := s.tables.t3
  th.rMax = max s.load.a.ratio s.load.b.ratio ∧
    (th.derateStep = true ↔ t4Derate s.tables.t4 < 4096 ∧ ∃ c, t1Assigned s.tables.t1 c = true ∧
      sidesGet s.tyres.derates (t1Group s.tables.t1 c) (t1Side s.tables.t1 c) = true) ∧
    th.aLim = t3EmptyLimit t3 - ((t3EmptyLimit t3 - t3LadenLimit t3) * th.rMax + 2048) / 4096 -
      (if th.derateStep then t3DerateStep t3 else 0) ∧
    th.aTest = (th.aLim * t3TestFraction t3 + 8) / 16 ∧ th.aRelease = th.aTest - t3Hysteresis t3

/-- A roll record on leaving the state that `s` is in: leaving TEST ends the test side and the commitment (R76). -/
def leavingRoll (s : State) (r : Roll) : Roll :=
  if s.roll.state = .test then { r with testSide := none, commitment := none } else r

/-- The air record when the roll monitor leaves the state that `s` is in: leaving TEST releases the commitment (R76, R96). -/
def leavingAir (s : State) : Air := if s.roll.state = .test then { s.air with commitment := none } else s.air

/-- The roll monitor comes to rest with a roll record `r`: no contribution, no stretch demand, and nothing raised (R76, R77). -/
def RollRests (s t : State) (r : Roll) : Prop :=
  t.roll = { leavingRoll s r with contributions := Quad.const 0, stretch := 0 } ∧ t.air = leavingAir s ∧
    t.alerts = s.alerts ∧ t.store = s.store

/-- The contributions of an intervention: each assigned channel has the braking characteristic of its group at D_int (R78). -/
def fullContributions (s : State) : Quad Nat :=
  quadMap (fun c _ => if t1Assigned s.tables.t1 c then
    characteristicAt s.tables.t2 (t1Group s.tables.t1 c) (estimate s (t1Group s.tables.t1 c)).ratio
      (t3Intervention s.tables.t3) else 0) (Quad.const ())

/-- The roll monitor goes to INTERVENE from a roll record `r`, the lateral acceleration being `a` (R76, R78). -/
def RollIntervenes (s t : State) (r : Roll) (a : Int) : Prop :=
  t.roll = { leavingRoll s r with
    state := .intervene, timer := none, contributions := fullContributions s, stretch := t3Intervention s.tables.t3
    interventions := min (r.interventions + 1) 65535 } ∧
  t.air = leavingAir s ∧
  t.alerts = raisedAt s s.timeBase .rollIntervention ⟨.block, 5⟩ a.natAbs s.alerts ∧ t.store = (requestTally 0 s).store

/-- A test is tried in IDLE or WATCH with a roll record `r`, the lateral acceleration being `a` (R66, R70 to R72, R77):
granted by the air supervisor it enters TEST, and otherwise it is withheld in IDLE. -/
def RollTries (s t : State) (r : Roll) (a : Int) : Prop :=
  let inner : Side := if 0 < a then .left else .right
  let channels := allChannels.filter fun c => t1Assigned s.tables.t1 c && (t1Side s.tables.t1 c == inner)
  let ready : Prop := a ≠ 0 ∧ demandLevel s ≤ t2Onset s.tables.t2 .a ∧ demandLevel s ≤ t2Onset s.tables.t2 .b ∧
    (innerSpeed s inner).isSome = true ∧ (outerSpeed s inner).isSome = true ∧ channels ≠ [] ∧
    ∀ c ∈ channels, (chan s c).state = .active
  let asked := requestCommitment inner channels s
  let withheld : Prop := t.roll = { r with
    state := .idle, timer := none, contributions := Quad.const 0, stretch := 0, withheld := min (r.withheld + 1) 65535 }
  t.alerts = s.alerts ∧ t.store = s.store ∧ (¬ready → withheld ∧ t.air = s.air) ∧
    (ready → t.air = asked.1.air ∧ (asked.2 = none → withheld) ∧ ∀ amount ∈ asked.2, t.roll = { r with
      state := .test, timer := some ⟨s.timeBase, t3PulseLength s.tables.t3⟩, testSide := some inner
      commitment := some amount, stretch := 0, tests := min (r.tests + 1) 65535
      contributions := quadMap (fun c _ => if c ∈ channels then t3TestPressure s.tables.t3 else 0) (Quad.const ()) })

/-! ### Invariants -/

/-- Every table in force has its size and passes its validation, and the load buffer has its 144 bytes (R168, R170, R171,
R178). -/
def TablesInv (s : State) : Prop :=
  (s.tables.t1.length = 96 ∧ tableCheck 1 s.tables.t1 = none) ∧
    (s.tables.t2.length = 120 ∧ tableCheck 2 s.tables.t2 = none) ∧
    (s.tables.t3.length = 32 ∧ tableCheck 3 s.tables.t3 = none) ∧
    (s.tables.t4.length = 48 ∧ tableCheck 4 s.tables.t4 = none) ∧
    (s.tables.t6.length = 144 ∧ tableCheck 6 s.tables.t6 = none) ∧ s.mgmt.buffer.length = 144

/-- The table store's contents are in canonical form, its pending counts are bytes, each of its operations is in progress
exactly in its state, a snapshot leaves room for the marker, and an IDLE store has nothing waiting (R172). -/
def StoreInv (s : State) : Prop :=
  Memory.wf s.store.nv = true ∧ (∀ k, quadGet s.store.pendingTally k ≤ 255) ∧
    (∀ w, s.store.writing = some w → w.content.length ≤ 255) ∧
    (s.store.writing.isSome = true ↔ s.store.state = .writing ∧ s.store.ended = false) ∧
    (s.store.tally.isSome = true ↔ s.store.state = .tally ∧ s.store.ended = false) ∧
    (s.store.newWord.isSome = true ↔ s.store.state = .protecting ∧ s.store.ended = false) ∧
    (s.store.state = .idle → s.store.ended = false ∧ nothingWaiting s = true)

/-- The bounds of the queues: four alerts, no two of one cause and subject (R161); sixteen relayed frames (R152); eight
rearward frames, at most one of them a DEMAND frame (R154); eight telegrams, sixteen window bits and fewer than eighty
assembled bits (R101, R103, R107); four responses of one to eight frames (R168, R169); twenty-four match counts (R148). -/
def QueueInv (s : State) : Prop :=
  s.alerts.queue.length ≤ 4 ∧ s.alerts.queue.Pairwise (fun x y => ¬(x.cause = y.cause ∧ x.subject = y.subject)) ∧
    s.relay.relayed.length ≤ 16 ∧ s.relay.rearward.length ≤ 8 ∧ s.relay.rearward.countP isDemandItem ≤ 1 ∧
    s.rx.queue.length ≤ 8 ∧ s.rx.window.length ≤ 16 ∧ s.rx.buffer.length < 80 ∧ s.mgmt.queue.length ≤ 4 ∧
    (∀ e ∈ s.mgmt.queue, 1 ≤ e.length ∧ e.length ≤ 8) ∧ s.relay.matchCounts.length = 24

/-- A sensor ID stands in at most one slot of the position map, and an ID of the map is not in the unknown sensor list
(R111). -/
def MapInv (s : State) : Prop :=
  (∀ p q id, gridGet s.tyres.map p = some id → gridGet s.tyres.map q = some id → p = q) ∧
    ∀ p k u, quadGet s.tyres.unknown k = some u → gridGet s.tyres.map p ≠ some u.id

/-- Every commanded target is within its effective ceiling and every effective ceiling within P_max (R22, R40), backup is
commanded with target 0 (R32), the demands and the stretch demand are at most 1000 kPa (R41, R63, R132), and every input's
value in use and last good value lie in its range (R26). -/
def PressureInv (s : State) : Prop :=
  (∀ c, (chan s c).cmdTarget ≤ (chan s c).ceiling ∧ (chan s c).ceiling ≤ t1PMax s.tables.t1 c ∧
      ((chan s c).cmdPressure = false → (chan s c).cmdTarget = 0)) ∧
    s.link.demand ≤ 1000 ∧ s.arbiter.demand ≤ 1000 ∧ s.roll.stretch ≤ 1000 ∧
    ∀ i, (inputMin i ≤ (input s i).value ∧ (input s i).value ≤ inputMax i) ∧
      ∀ v, (input s i).lastGood = some v → inputMin i ≤ v ∧ v ≤ inputMax i

/-- The roll monitor's account: no contribution in IDLE and WATCH, no stretch demand outside INTERVENE and RECOVER, the timer
runs in TEST and WATCH and not in IDLE and RECOVER (R63, R77, R81), and a commitment is held, by the roll monitor and in
the air supervisor's list alike, exactly in TEST (R71, R72, R76, R95). -/
def RollInv (s : State) : Prop :=
  (s.roll.state = .idle ∨ s.roll.state = .watch → ∀ c, quadGet s.roll.contributions c = 0) ∧
    (s.roll.state = .idle ∨ s.roll.state = .test ∨ s.roll.state = .watch → s.roll.stretch = 0) ∧
    (s.roll.state = .idle ∨ s.roll.state = .recover → s.roll.timer = none) ∧
    (s.roll.state = .test ∨ s.roll.state = .watch → s.roll.timer.isSome = true) ∧
    (s.roll.testSide.isSome = true ↔ s.roll.state = .test) ∧ (s.roll.commitment.isSome = true ↔ s.roll.state = .test) ∧
    s.air.commitment.map (fun e => e.amount) = s.roll.commitment

/-- What an estimate record says of its group: a VALID one has its bf, L and r by R6, R8 and R9, an INVALID one has the
fallback ratio (R10); every ratio is at most 4096. -/
def LoadInv (s : State) : Prop :=
  ∀ g,
    ((estimate s g).state = .valid → ∃ f, (estimate s g).filter = some f ∧ f ≤ 16000 ∧
      (estimate s g).bellows = (f + 8) / 16 ∧ (estimate s g).load = loadOf s.tables.t2 g (estimate s g).bellows ∧
      (estimate s g).ratio = ratioOf s.tables.t2 g (estimate s g).load) ∧
    ((estimate s g).state = .invalid → (estimate s g).ratio = t2Fallback s.tables.t2 g) ∧ (estimate s g).ratio ≤ 4096

/-- The calibration lock is in force, stored and kept by a word being programmed, and neither a write of block 1 nor an erase
of the tallies is in progress (R177). -/
def LockHolds (s : State) : Prop :=
  lockInForce s = true ∧ protectFlag s.store.protStored 15 = true ∧
    (∀ w, s.store.newWord = some w → protectFlag w 15 = true) ∧ (∀ w, s.store.writing = some w → w.block ≠ 1) ∧
    s.store.state ≠ .erasing

end Sys2Proof.Machine
end

