-- ==== Sys2Proof/Certificates/Slice0/Obligations.lean ====
section
/-! DEFINITION. The statements for the provers, in the order of OBLIGATIONS.json. -/

open Sys2Proof Sys2Proof.Machine

/-! ### Steps, power and resets -/

/-- A step takes the command at the front of the queue: it is `exec` of that command on the state with the queue's rest.
The queue is the model's (log 1). -/
def Obligations.StepTakesTheFrontCommand : Prop :=
  ∀ (c : Instr) (rest : List Instr) (s : State), step (s.withPending (c :: rest)) = exec c (s.withPending rest)

/-- A step on an empty queue is one millisecond of the time base (R35): the queue then holds each of the part's own events
that are due at the new time once, in some order, and nothing else but the model's counter changes; a part without supply
stays as it is. Each event is due under the condition given: the loss timer (R30), a refresh record (R33), a HOLD timer
(R48), the roll timer (R69), the check timer (R121), the learning session (R127), the demand timer (R140), the rearward timer
(R142), the status timer (R164), the end of a store operation at the latest time that the manual allows it (R174, R176,
R177), waiting store work (R129, R172), a waiting valve command record (R32) and the next frame of either CAN port (R153,
R155). The tick on an empty queue and the open order are the model's choices (logs 1, 2 and 47). -/
def Obligations.EmptyQueueTicks : Prop :=
  ∀ s : State, s.pending = [] → (s.powered = false → step s = .next s) ∧
    (s.powered = true → ∃ t, step s = .next t ∧ t.timeBase = s.timeBase + 1 ∧ ChangesOnly [.clock, .queue, .free] s t ∧
      t.pending.Perm (dueEvents { s with timeBase := s.timeBase + 1 }) ∧ t.pending.Nodup ∧
      let past : Stamp → Nat → Prop := fun x ms => ms ≤ (t.timeBase - x).toNat
      let ran : Option Stamp → Nat → Prop := fun x ms => ∃ a ∈ x, past a ms
      let ended : Option Timer → Prop := fun x => ∃ m ∈ x, past m.start m.bound
      let runs : StoreState → Nat → Prop := fun st ms =>
        s.store.state = st ∧ s.store.ended = false ∧ past s.store.since ms
      let tallies : Prop := ∃ k, quadGet s.store.pendingTally k ≠ 0
      let r := s.relay
      (.lossTimerExpiry ∈ t.pending ↔ s.sample.loss ≠ .lost ∧ ran s.sample.lossStart 20) ∧
      (.refreshDue ∈ t.pending ↔ s.valve.normalSent = true ∧ s.resetLine = false ∧ ran s.valve.composedAt 10) ∧
      (∀ c, .holdTimerExpiry c ∈ t.pending ↔ (chan s c).state = .hold ∧ ran (chan s c).holdTimer 500) ∧
      (.rollTimerExpiry ∈ t.pending ↔ ended s.roll.timer) ∧
      (.checkTimerExpiry ∈ t.pending ↔ past s.tyres.checkStart 1000) ∧
      (.learnTimerExpiry ∈ t.pending ↔ ∃ l ∈ s.tyres.session, past l.start l.bound) ∧
      (.demandTimerExpiry ∈ t.pending ↔ ended s.link.demandTimer) ∧
      (.rearwardTimerExpiry ∈ t.pending ↔ ran s.link.rearwardTimer 10) ∧
      (.statusTimerExpiry ∈ t.pending ↔ past s.alerts.statusStart 100) ∧
      (.blockWriteComplete ∈ t.pending ↔ runs .writing 400) ∧ (.tallyEraseComplete ∈ t.pending ↔ runs .erasing 200) ∧
      (.tallyBitProgrammed ∈ t.pending ↔ runs .tally 5) ∧
      (.protectionWordProgrammed ∈ t.pending ↔ runs .protecting 50) ∧
      (.pendingTallyStart ∈ t.pending ↔ s.store.ended = true ∧ tallies) ∧
      (.waitingBlock3StoreStart ∈ t.pending ↔ s.store.ended = true ∧ ¬tallies ∧ s.tyres.waiting = true) ∧
      (.pendingRecordTransmit ∈ t.pending ↔ s.valve.tx = none ∧ s.valve.slot ≠ none) ∧
      (.frontHandover ∈ t.pending ↔ r.frontTx = none ∧ (s.alerts.queue ≠ [] ∨ r.relayed ≠ [] ∨
        (∃ e ∈ s.mgmt.queue.head?, e ≠ []) ∨ ∃ p ∈ s.alerts.slot, p.sent1 = false ∨ p.sent2 = false)) ∧
      (.rearHandover ∈ t.pending ↔ (r.rear = .forwarding ∨ r.rear = .noPartner) ∧ r.rearTx = none ∧
        r.isolation = none ∧ r.rearward ≠ []))

/-- What commands leave alone: the queue of waiting commands and the straps always; the supply and the time base, but for
POWER_ON_RESET and POWER_LOSS (R35); the level of the RESET line, but for its own two commands (R36); the level of the
carrier line, but for CARRIER_CHANGE (R102). -/
def Obligations.CommandsLeaveClockAndPins : Prop :=
  ∀ (c : Instr) (s t : State), exec c s = .next t →
    t.pending = s.pending ∧ t.straps = s.straps ∧
    (c ≠ .powerOnReset → c ≠ .powerLoss → t.timeBase = s.timeBase ∧ t.powered = s.powered) ∧
    (c ≠ .resetLineAsserted → c ≠ .resetLineReleased → t.resetLine = s.resetLine) ∧
    ((∀ level, c ≠ .carrierChange level) → t.rx.carrier = s.rx.carrier)

/-- POWER_ON_RESET puts every block into its after-reset values and loads blocks 0 to 4 (R178): each table is the stored one
where its block holds its marker and every table of the block is valid, and the default otherwise; each block found
otherwise counts one default load and raises STORE_INCOMPLETE with value 0 for a missing marker and 1 for an invalid table,
of which the own alert queue holds four, and the first of them fills the fault capture record (R160, R161, R166). Of the
volatile state of the table store and the alert composer nothing else carries on (R160, R172). The nonvolatile contents
stand as the loss of supply left them, so that a part whose store was IDLE keeps them (R172, R175). The held targets and the
roll thresholds are 0 until they are first set, the model's choice (log 9), and at a powered part the event acts as a loss
of supply and its return, the model's reading (log 45). -/
def Obligations.PowerOnResetStartsEveryBlock : Prop :=
  ∀ s : State, ∃ t, exec .powerOnReset s = .next t ∧
    t.powered = true ∧ t.timeBase = 0 ∧
    (s.store.state = .idle ∨ s.store.ended = true → t.store.nv = s.store.nv ∧ t.store.protStored = s.store.protStored) ∧
    t.tables = { t1 := loadedTable t.store.nv 0 1 t1Default, t2 := loadedTable t.store.nv 1 2 t2Default,
                 t3 := loadedTable t.store.nv 2 3 t3Default, t4 := loadedTable t.store.nv 3 4 t4Default,
                 t6 := loadedTable t.store.nv 4 6 t6Default } ∧
    t.sample = samplePortLoaded t.tables.t1 (if s.resetLine then none else some 0) ∧ t.valve = valvePortReset ∧
    t.load = estimatesLoaded t.tables.t2 0 ∧
    (∀ c, chan t c = channelReset (t1PMax t.tables.t1 c) s.straps.startHalted) ∧
    t.arbiter.demand = 0 ∧ t.arbiter.source = .nothing ∧ t.arbiter.failSafe = .normal ∧
    t.air = airReset ∧ t.roll = rollReset ∧ t.rx = receiverReset s.rx.carrier ∧
    t.tyres = tyresLoaded t.tables.t4 (mapOfTable (loadedTable t.store.nv 3 5 t5Default)) 0 ∧
    t.link = linkReset s.straps.pos.val 0 ∧ t.relay = relayReset (s.straps.pos.val != 0) s.straps.rearOff ∧
    t.mgmt = mgmtReset ∧ t.arbiter.strapHalt = s.straps.startHalted ∧ t.arbiter.backupNext = false ∧
    (let raises : List Alert := (List.range 5).filterMap fun b =>
       (blockFinding t.store.nv b).map fun v => ⟨.storeIncomplete, ⟨.storeBlock, b⟩, v, 0, false, false⟩
     t.store = {
       nv := t.store.nv, protStored := t.store.protStored, protForce := t.store.protStored, state := .idle, ended := false
       since := 0, pendingTally := ⟨0, 0, 0, 0⟩, writing := none, tally := none, newWord := none, copyDue := false
       writes := 0, abandoned := 0, bits := 0, discarded := 0, lostAtReset := 0, defaults := raises.length } ∧
     t.alerts = {
       queue := raises.take 4, lost := raises.length - 4, statusStart := 0, slot := none, superseded := 0
       capture := raises.head?.map fun e =>
         { kind := .storeIncomplete, subject := e.subject, time := 0, demand := 0, commanded := 0, delivered := 0
           supply := 0, supplyValid := false, reservoir := 0, reservoirValid := false, roll := .idle }
       sinceCapture := raises.length - 1 })

/-- The supply and the table store (R172, R175, R176, R177): POWER_LOSS leaves no operation in progress. In IDLE the
nonvolatile contents stay as they are; in WRITING the block is left without its marker; in TALLY the tally keeps its former
value or is one above it, never above 512; in PROTECTING the stored word is the former one or the new one; in ERASING no byte
outside the tallies' block changes. Everything else nonvolatile is as it was. Without supply every command but POWER_ON_RESET
and the three pins' own changes nothing. That a part without supply takes nothing is the model's choice (log 6), as are the
bytes of an abandoned block (log 22) and of a tally erase cut off (log 23); which of the two values a tally or the word has is
left free (log 24). -/
def Obligations.PowerLossKeepsTheStore : Prop :=
  (∀ s : State, s.powered = true → ∃ t, exec .powerLoss s = .next t ∧ t.powered = false ∧ t.store.state = .idle ∧
    (s.store.state = .idle → t.store.nv = s.store.nv ∧ t.store.protStored = s.store.protStored) ∧
    (∀ w, StoreInv s → s.store.state = .writing → s.store.writing = some w →
      markerPresent t.store.nv w.block.val = false ∧ t.store.protStored = s.store.protStored ∧
      ∀ a, (a < 256 * w.block.val ∨ 256 * w.block.val + 256 ≤ a) → memRead t.store.nv a = memRead s.store.nv a) ∧
    (∀ k, StoreInv s → s.store.state = .tally → s.store.tally = some k →
      (tallyValue t.store.nv k = tallyValue s.store.nv k ∨
        tallyValue t.store.nv k = min (tallyValue s.store.nv k + 1) 512) ∧
      t.store.protStored = s.store.protStored ∧
      ∀ a, a < tallyAddr k 0 ∨ tallyAddr k 0 + 64 ≤ a → memRead t.store.nv a = memRead s.store.nv a) ∧
    (∀ word, s.store.state = .protecting → s.store.newWord = some word →
      t.store.nv = s.store.nv ∧ (t.store.protStored = s.store.protStored ∨ t.store.protStored = word)) ∧
    (StoreInv s → s.store.state = .erasing → t.store.protStored = s.store.protStored ∧
      ∀ a, a < 1280 ∨ 1536 ≤ a → memRead t.store.nv a = memRead s.store.nv a)) ∧
  ∀ (c : Instr) (s : State), s.powered = false → c ≠ .powerOnReset → c ≠ .resetLineAsserted → c ≠ .resetLineReleased →
    (∀ level, c ≠ .carrierChange level) → exec c s = .next s

/-- The level of the RESET line (R36): a second assertion changes nothing; the release starts the loss timer; while it is
asserted the port discards a sample set without counting it and no refresh record is composed. -/
def Obligations.ResetLineHoldsThePorts : Prop :=
  ∀ s : State, s.powered = true →
    (s.resetLine = true → exec .resetLineAsserted s = .next s ∧
      exec .resetLineReleased s =
        .next { s with resetLine := false, sample := { s.sample with lossStart := some s.timeBase } } ∧
      (∀ bytes, exec (.sampleSetArrival bytes) s = .next s) ∧ exec .refreshDue s = .next s) ∧
    (s.resetLine = false → exec .resetLineReleased s = .next s)

/-- What a functional reset at `s` leaves of each block (the last column of the tables of R1, R24, R39, R63, R86, R100,
R112, R132, R148, R160, R168 and R172): `t` after it. The tables are those of blocks 0 to 3, and T6 stays (R178). A channel
starts afresh with its error counter, FAULTED at the threshold with its former cause or COUNTER (R39), and the driver demand
is derived from the link's demand state (R41). The own alert queue is emptied, and takes STORE_INCOMPLETE of each block of
the load with value 0 for a missing marker and 1 for an invalid table, and CHANNEL_FAULT of each channel that enters
FAULTED; the first of these events fills an empty capture record and the others are counted (R166). The pending tallies are
lost, a write or an erase ends where it stands, and a tally or protection word program runs on (R172, R175 to R177); a
request that the reset ends is answered COMPLETED(CANCELLED) (R180). The roll thresholds are 0 until they are first set (log
9), the channels are taken in order (log 10), the answers stand before the reset's own raises (log 19), those to halts before
the session's and that before the store's (log 78), and the protection word is copied at the end of a program of it (log 25):
the model's choices. -/
def Obligations.FunctionalResetTakesEveryBlock : Prop :=
  ∀ s t : State, s.powered = true →
    ((s.resetLine = false ∧ exec .resetLineAsserted s = .next t) ∨
      (∃ q tag, TakesRequest s q 1 tag ∧ s.store.state = .idle ∧ exec (.restart q) s = .next t)) →
    t.timeBase = s.timeBase ∧ t.tables.t6 = s.tables.t6 ∧
    t.tables.t1 = loadedTable t.store.nv 0 1 t1Default ∧ t.tables.t2 = loadedTable t.store.nv 1 2 t2Default ∧
    t.tables.t3 = loadedTable t.store.nv 2 3 t3Default ∧ t.tables.t4 = loadedTable t.store.nv 3 4 t4Default ∧
    t.load = estimatesLoaded t.tables.t2 s.timeBase ∧ t.valve = valvePortReset ∧ t.air = airReset ∧
    t.sample = samplePortLoaded t.tables.t1 (if t.resetLine then none else some s.timeBase) ∧
    t.rx = receiverReset s.rx.carrier ∧ t.roll = rollAtReset s.roll ∧
    t.link = { s.link with
      demandTimer := if s.link.state = .nothing then some ⟨s.timeBase, 1000⟩ else s.link.demandTimer } ∧
    { t.relay with frontArrivals := s.relay.frontArrivals } = s.relay ∧
    (∀ c,
      let r := chan s c
      let faulty : Prop := t1Threshold t.tables.t1 ≤ r.errors
      chan t c = {
        state := if faulty then .faulted else .start, reason := none, driverTarget := 0, rollContribution := 0
        emergency := 0, haltPressure := 0, derate := 4096, ceiling := t1PMax t.tables.t1 c, cmdPressure := false
        cmdTarget := 0, delivered := 0, deviation := none, holdTimer := none, heldTarget := 0, errors := r.errors
        cause := if ¬faulty then none else if r.state = .faulted then r.cause else some .counter, haltPending := none
        strapPending := s.straps.startHalted }) ∧
    (let electric : Prop := s.link.state = .fresh ∨ s.link.state = .stale
     t.arbiter = {
       channels := t.arbiter.channels, demand := if electric then s.link.demand else 0
       source := if electric then .electric else .nothing
       failSafe := if s.link.state = .lost then .fsA else .normal, strapHalt := s.straps.startHalted
       backupNext := false }) ∧
    (let y := s.tyres
     let stored := fun p : Position => t5Id (loadedTable t.store.nv 3 5 t5Default) p.val
     t.tyres = {
       map := t.tyres.map, records := t.tyres.records, derates := ⟨false, false, false, false⟩, zeroRun := none,
       unknown := Quad.const none, session := none, waiting := false, unsaved := false, changedSinceStore := false,
       checkStart := s.timeBase, readings := y.readings, repeats := y.repeats, misses := y.misses, marks := y.marks } ∧
     ∀ p, gridGet t.tyres.map p = (if stored p = 0 then none else some (stored p)) ∧
       tyre t p = tyreFresh (if t4PositionEnabled t.tables.t4 p = false then .disabled
         else if stored p = 0 then .absent else .noData) s.timeBase) ∧
    (let k := s.store
     let runs : StoreState → Prop := fun st => k.state = st ∧ k.ended = false
     let runsOn : Prop := runs .tally ∨ runs .protecting
     let faulted := allChannels.filter fun c =>
       decide ((chan s c).state ≠ .faulted ∧ t1Threshold t.tables.t1 ≤ (chan s c).errors)
     let quiet : Prop := faulted = []
     let now := s.timeBase
     let raised : Nat → Nat → Nat := fun most n => min (n + 1) most
     let incomplete : List Alert := (List.range 4).filterMap fun b =>
       (blockFinding t.store.nv b).map fun v => ⟨.storeIncomplete, ⟨.storeBlock, b⟩, v, now, false, false⟩
     let events : List (CaptureKind × Subject) := incomplete.map (fun e => (.storeIncomplete, e.subject)) ++
       faulted.map fun c => (.channelFault, ⟨.channel, c.val + 1⟩)
     let cancelled : List (List CanFrame) :=
       (allChannels.filterMap fun c => (chan s c).haltPending.map fun h => [responseFrame s 10 [h.tag, 2, 4]]) ++
         (s.tyres.session.toList.map fun l => [responseFrame s 14 [l.tag, 2, 4]]) ++
         if runs .writing ∨ runs .erasing then s.mgmt.storeTag.toList.map fun x => [responseFrame s x.code [x.tag, 2, 4]]
         else []
     let answers := fun (first : List (List CanFrame)) =>
       let all := s.mgmt.queue ++ first ++ cancelled
       t.mgmt.queue = all.take 4 ∧
         t.mgmt.responsesLost = (List.range (all.length - 4)).foldl (fun n _ => raised 65535 n) s.mgmt.responsesLost
     t.store = { k with
       nv := t.store.nv, protForce := if runs .protecting then k.protForce else k.protStored
       copyDue := decide (runs .protecting), state := t.store.state, ended := false, since := t.store.since
       pendingTally := t.store.pendingTally, writing := none, tally := t.store.tally
       newWord := if runsOn then k.newWord else none
       abandoned := if runs .writing then min (k.abandoned + 1) 65535 else k.abandoned, discarded := t.store.discarded
       lostAtReset := min (k.lostAtReset + (quadList k.pendingTally).sum) 65535
       defaults := incomplete.foldl (fun n _ => raised 65535 n) k.defaults } ∧
     (quiet → t.store.state = (if runsOn then k.state else .idle) ∧ t.store.pendingTally = Quad.const 0 ∧
       t.store.tally = (if runsOn then k.tally else none) ∧ t.store.since = (if runsOn then k.since else now) ∧
       t.store.discarded = k.discarded) ∧
     (¬runs .writing → ¬runs .erasing → t.store.nv = k.nv) ∧
     (StoreInv s → (runs .erasing → ∀ a, a < 1280 ∨ 1536 ≤ a → memRead t.store.nv a = memRead k.nv a) ∧
       ∀ w ∈ k.writing, markerPresent t.store.nv w.block.val = false ∧
         ∀ a, a < 256 * w.block.val ∨ 256 * w.block.val + 256 ≤ a → memRead t.store.nv a = memRead k.nv a) ∧
     t.alerts = { faulted.foldl (fun a c => raisedAt s now .channelFault ⟨.channel, c.val + 1⟩ 0 a)
         { s.alerts with queue := incomplete } with
       capture := match s.alerts.capture with
         | some x => some x
         | none => events.head?.map fun e =>
           { kind := e.1, subject := e.2, time := now, demand := demandLevel t, commanded := 0, delivered := 0
             supply := 0, supplyValid := false, reservoir := 0, reservoirValid := false, roll := .idle }
       sinceCapture := (if s.alerts.capture = none then events.drop 1 else events).foldl (fun n _ => raised 255 n)
         s.alerts.sinceCapture } ∧
     t.mgmt = {
       queue := t.mgmt.queue, openTable := none, buffer := List.replicate 144 0, segments := []
       storeTag := if runsOn then s.mgmt.storeTag else none, taken := t.mgmt.taken, malformed := s.mgmt.malformed
       unknown := s.mgmt.unknown, responsesLost := t.mgmt.responsesLost } ∧
     (s.resetLine = false → exec .resetLineAsserted s = .next t →
       t.mgmt.taken = s.mgmt.taken ∧ (s.mgmt.queue.length ≤ 4 → answers [])) ∧
     ∀ q tag, TakesRequest s q 1 tag → k.state = .idle → exec (.restart q) s = .next t →
       t.mgmt.taken = min (s.mgmt.taken + 1) 65535 ∧
         (s.mgmt.queue.length ≤ 4 → answers [[responseFrame s 18 [tag, 0, 0]]]))

/-- RESTART and the RESET line run the functional reset: RESTART is refused BUSY while the store is busy, and otherwise its
DONE is placed before the reset (R179); an assertion is the reset with the line asserted (R36). -/
def Obligations.RestartAndAssertionComplete : Prop :=
  (∀ (s : State) (q : ReqFrame) (tag : Byte), TakesRequest s q 1 tag →
    exec (.restart q) s =
      .next (if s.store.state = .idle then functionalReset (answer 18 tag .done (requestTaken s))
        else answer 18 tag (.refused .busy) (requestTaken s))) ∧
  ∀ s : State, s.powered = true → s.resetLine = false →
    exec .resetLineAsserted s = .next (functionalReset { s with resetLine := true })

/-! ### Sample port -/

/-- A set with a failed frame check, or one that repeats the last accepted sequence while RUNNING, is discarded: only its
count changes (R25). -/
def Obligations.DiscardedSetsAreOnlyCounted : Prop :=
  ∀ (s : State) (bytes : List Byte), s.powered = true → s.resetLine = false →
    (sampleSetOk bytes = false → exec (.sampleSetArrival bytes) s =
      .next { s with sample := { s.sample with frameErrors := min (s.sample.frameErrors + 1) 65535 } }) ∧
    (sampleSetOk bytes = true → s.sample.loss = .running → s.sample.lastSeq = some (sampleSeq bytes) →
      exec (.sampleSetArrival bytes) s =
        .next { s with sample := { s.sample with duplicates := min (s.sample.duplicates + 1) 65535 } })

/-- An accepted set updates the port record (R25) and leaves the sample-loss state RUNNING. At the end of a loss the fail-safe
state becomes FS_A while the demand state is LOST and NORMAL otherwise, and the channels move by the rows of R47 before any
block takes the set (R31, R46). The five blocks then take the set, each once and in some order (R25), and nothing but they
and what they write to changes. The open order is the model's (log 3). -/
def Obligations.AcceptedSetUpdatesThePort : Prop :=
  ∀ (s : State) (bytes : List Byte), AcceptsSet s bytes → ∃ t, exec (.sampleSetArrival bytes) s = .next t ∧
    t.sample = { s.sample with
      loss := .running
      gaps := if s.sample.loss = .running
        then min (s.sample.gaps + (sampleSeq bytes - s.sample.lastSeq.getD 0 - 1).toNat) 65535 else s.sample.gaps
      accepted := min (s.sample.accepted + 1) 65535
      lastSeq := some (sampleSeq bytes)
      lastTime := some s.timeBase
      lossStart := some s.timeBase
      inputs := t.sample.inputs } ∧
    t.valve.composedAt = some s.timeBase ∧ ChangesOnly acceptedSetParts s t ∧
    ∃ (u : State) (order : List (State → State)),
      order.Perm [estimatorTakesSet, arbiterTakesSet, airTakesSet, rollTakesSet, tyresTakeSet] ∧
      t = (order.foldl (fun x take => take x) u).spend ∧ ChangesOnly [.sample, .arbiter] s u ∧ u.sample = t.sample ∧
      t.arbiter.failSafe = u.arbiter.failSafe ∧ (s.sample.loss ≠ .lost → u.arbiter = s.arbiter) ∧
      (s.sample.loss = .lost →
        let now : FailSafe := if s.link.state = .lost then .fsA else .normal
        u.arbiter = { s.arbiter with failSafe := now, channels := u.arbiter.channels } ∧
        ∀ c,
          let r := chan s c
          let out : Prop := r.state = .hold ∨ (r.state = .backup ∧ r.reason = some .failsafe)
          let moved := fun (st : ChanState) (reason : Option BackupReason) =>
            { r with state := st, reason := reason, holdTimer := none, deviation := none }
          chan u c = if s.arbiter.failSafe = now then r
            else if now = .fsA ∧ t1FsaBackup s.tables.t1 c = true then
              if r.state = .active ∨ out then moved .backup (some .failsafe) else r
            else if out then moved .start none else r)

/-- The record of each input on an accepted set, `v` being its clamped value (R26, R27): the range of its quantity bounds the
value, the value in range is unchanged, and the status moves by the fault mark as the table of R27 sets out. -/
def Obligations.InputsFollowTheirFaultMarks : Prop :=
  ∀ (s : State) (bytes : List Byte), AcceptsSet s bytes → ∃ t, exec (.sampleSetArrival bytes) s = .next t ∧ ∀ i : Fin 16,
    let lo : Int := if i.val = 11 then -2000 else 0
    let hi : Int := if i.val = 5 ∨ i.val = 6 then 1200 else if i.val = 11 then 2000 else if 12 ≤ i.val then 20000 else 1000
    let v : Int := if sampleValue bytes i < lo then lo else if hi < sampleValue bytes i then hi else sampleValue bytes i
    let before := input s i
    let after := input t i
    (before.status = .disabled → after = before) ∧
    (sampleMark bytes i = false → before.status ≠ .disabled →
      after.status = .valid ∧ after.value = v ∧ after.lastGood = some v ∧ after.holdStart = none) ∧
    (sampleMark bytes i = true → before.status = .valid →
      after.status = .held ∧ after.holdStart = some s.timeBase ∧ after.lastGood = before.lastGood ∧
        ∀ g, before.lastGood = some g → after.value = g) ∧
    (sampleMark bytes i = true → before.status = .held → ∀ h, before.holdStart = some h →
      after = if 100 ≤ (s.timeBase - h).toNat then { before with status := .invalid, holdStart := none } else before) ∧
    (sampleMark bytes i = true → before.status = .invalid → after = before)

/-- The pressure arbiter takes a set (R42). On an accepted set every effective ceiling moves to the nominal ceiling of R20, at
once upward and by at most 20 kPa downward (R21), and the delivered pressures and the driver demand of R41 are taken. As a
block of its own, from any state `u`: the supervision of R53 and R56 with its error events (R50, R52), the control-line
checks of R49, HALTED and pending halts (R58, R59), the ways out of START (R43, R44), the deviation timers, and the NORMAL
record (R32, R40, R45). The channel clauses say where a channel goes that no fault on the set moves, under policy OTHERS or
on a set without faults. Choices of the model: halted channels are taken before pending halts (log 54), a demand low enough
takes a halt before the speed cancels it (log 14), a full slot is superseded (log 11), and on the set of the first record
after a T1 activation no assigned channel leaves START (log 53). -/
def Obligations.CeilingsMoveOnEachSet : Prop :=
  (∀ (s : State) (bytes : List Byte), AcceptsSet s bytes → ∃ t, exec (.sampleSetArrival bytes) s = .next t ∧
    (∀ ch : Channel,
      let derate := if t1Assigned s.tables.t1 ch = true ∧
          sidesGet s.tyres.derates (t1Group s.tables.t1 ch) (t1Side s.tables.t1 ch) = true
        then t4Derate s.tables.t4 else 4096
      let c := t1PMax s.tables.t1 ch * derate / 4096
      let e := (chan s ch).ceiling
      (chan t ch).derate = derate ∧ (chan t ch).ceiling = (if e ≤ c then c else max c (e - 20)) ∧
        (chan t ch).delivered = (input t (inputDelivered ch)).value.toNat) ∧
    (s.link.state = .fresh ∨ s.link.state = .stale → t.arbiter.demand = s.link.demand ∧ t.arbiter.source = .electric) ∧
    (s.link.state = .lost → ∀ p ∈ reading t inputControl, t.arbiter.demand = p ∧ t.arbiter.source = .controlLine) ∧
    (s.link.state = .nothing ∨ (s.link.state = .lost ∧ reading t inputControl = none) →
      t.arbiter.demand = 0 ∧ t.arbiter.source = .nothing)) ∧
  ∀ u : State,
    let t := arbiterTakesSet u
    let t1 := u.tables.t1
    let now := u.timeBase
    let level := demandLevel t
    let fast : Prop := ∃ v ∈ vehicleSpeed u, 200 < v
    let control : Prop := inputValid u inputControl = true
    let invalid : Channel → Prop := fun c => t1Assigned t1 c = true ∧ (input u (inputDelivered c)).status = .invalid ∧
      ((chan u c).state = .active ∨ (chan u c).state = .backup ∨ (chan u c).state = .hold ∨ (chan u c).state = .halted)
    let deviates : Channel → Prop := fun c =>
      t1Assigned t1 c = true ∧ (input u (inputDelivered c)).status ≠ .invalid ∧
      ((chan u c).state = .active ∨ (chan u c).state = .halted) ∧ ∃ d ∈ (chan u c).deviation,
        t1Settle t1 ≤ (now - d.start).toNat ∧
        t1Band t1 < absDiff (input u (inputDelivered c)).value.toNat (chan u c).cmdTarget
    let errors : Channel → Nat := fun c => min ((chan u c).errors + 1) 15
    let faults : Channel → Prop := fun c => invalid c ∨ (deviates c ∧ t1Threshold t1 ≤ errors c)
    let leaves : Channel → Prop := fun c => (chan u c).state = .halted ∧ (30 < level ∨ fast)
    let takes : Channel → Prop := fun c => (chan u c).haltPending ≠ none ∧ u.roll.state = .idle ∧ level ≤ 30
    let cancels : Channel → Prop := fun c =>
      (chan u c).haltPending ≠ none ∧ ¬takes c ∧ (fast ∨ vehicleSpeed u = none)
    (t1PolicyAll t1 = false ∨ (∀ c, ¬faults c) → ∀ c,
      let r := chan u c
      let r' := chan t c
      let state := r'.state
      let corrected : Prop := u.arbiter.failSafe = .fsA ∧ t1FsaBackup t1 c = false
      let starts : Prop := r.state = .start ∨ leaves c ∨
        (corrected ∧ control ∧ r.state = .backup ∧ r.reason = some .failsafe)
      let ready : Prop := inputValid u (inputDelivered c) = true ∧ u.air.presence = .present ∧
        u.arbiter.failSafe ≠ .fsB ∧ (t1PolicyAll t1 = true → ∀ e, (chan t e).state ≠ .faulted) ∧
        u.arbiter.backupNext = false ∧
        (u.link.state = .fresh ∨ u.link.state = .stale ∨ (u.link.state = .lost ∧ t1FsaBackup t1 c = false ∧ control))
      let calm : Prop := level ≤ 30 ∧ vehicleSpeed u ≠ none ∧ ¬fast
      let failing : Prop := r.state = .active ∧ corrected ∧ ¬control
      (r'.errors = if invalid c then max r.errors (t1Threshold t1) else if deviates c then errors c else r.errors) ∧
      (faults c → state = .faulted ∧ r'.haltPending = none ∧
        r'.cause = some (if invalid c then .deliveredInvalid else .counter)) ∧
      (r.state = .faulted → ¬takes c → state = .faulted ∧ r'.cause = r.cause) ∧
      (r.state ≠ .faulted → ¬faults c →
        (∀ h ∈ r.haltPending, takes c → state = .halted ∧ r'.haltPressure = h.pressure ∧ r'.haltPending = none ∧
          r'.strapPending = false) ∧
        (¬takes c → r'.haltPending = (if cancels c then none else r.haltPending) ∧
          (starts → t1Assigned t1 c = false →
            state = .backup ∧ r'.reason = some .unassigned ∧ r'.strapPending = false) ∧
          (starts → t1Assigned t1 c = true → ready → r.strapPending = false → state = .active ∧ r'.reason = none) ∧
          (starts → t1Assigned t1 c = true → ready → r.strapPending = true → calm →
            state = .halted ∧ r'.haltPressure = 0 ∧ r'.strapPending = false) ∧
          (starts → t1Assigned t1 c = true → ¬ready ∨ (r.strapPending = true ∧ ¬calm) →
            state = .start ∧ r'.strapPending = r.strapPending) ∧
          (failing → state = .backup ∧ r'.reason = some .failsafe) ∧
          (¬starts → ¬failing → state = r.state ∧ r'.reason = r.reason))) ∧
      (state = .active ∨ state = .halted →
        (r.deviation = none ∨ leaves c ∨ failing → r'.deviation = some ⟨r'.cmdTarget, now⟩) ∧
        ∀ d ∈ r.deviation, r.state = .active ∨ r.state = .halted → ¬leaves c → ¬failing →
          r'.deviation = some (if absDiff r'.cmdTarget d.reference < 5
            then ⟨d.reference, if deviates c then now else d.start⟩ else ⟨r'.cmdTarget, now⟩)) ∧
      (r.state = .active ∨ r.state = .halted → state ≠ .active → state ≠ .halted → r'.deviation = none)) ∧
    ((∀ c, ¬faults c) → t.store = u.store ∧
      ((∀ c, ¬leaves c) → t.alerts = u.alerts) ∧
      (∀ c, leaves c → (∀ e, e ≠ c → ¬leaves e) → t.alerts =
        raisedAt u now .haltAbandoned ⟨.channel, c.val + 1⟩ (chan u c).haltPressure u.alerts) ∧
      ((∀ c, ¬takes c ∧ ¬cancels c) → t.mgmt = u.mgmt) ∧
      ∀ c, ∀ h ∈ (chan u c).haltPending, (∀ e, e ≠ c → (chan u e).haltPending = none) → takes c ∨ cancels c →
        u.mgmt.queue.length < 4 → t.mgmt.queue =
          u.mgmt.queue ++ [[responseFrame u 10 [h.tag, 2, if u.roll.state = .idle ∧ level ≤ 30 then 1 else 4]]]) ∧
    (∃ rec : ValveRecord, rec.kind = .normal ∧ rec.seq = u.sample.lastSeq.getD 0 ∧ t.valve.composedAt = some now ∧
      t.arbiter.backupNext = false ∧
      (u.valve.slot = none ∧ u.valve.tx = none → t.valve.tx = some rec ∧ t.valve.slot = none) ∧
      (u.valve.slot ≠ none ∨ u.valve.tx ≠ none → t.valve.slot = some rec ∧ t.valve.tx = u.valve.tx) ∧
      t.valve.superseded =
        (if u.valve.slot = none then u.valve.superseded else min (u.valve.superseded + 1) 65535) ∧
      ∀ c,
        let r' := chan t c
        let g := t1Group t1 c
        let pressureAt := fun demand => characteristicAt u.tables.t2 g (estimate u g).ratio demand
        quadGet rec.commands c = ⟨r'.cmdPressure, r'.cmdTarget⟩ ∧
        (r'.state = .start ∨ r'.state = .backup ∨ r'.state = .faulted → quadGet rec.commands c = ⟨false, 0⟩) ∧
        (r'.state = .active → quadGet rec.commands c = ⟨true, min r'.ceiling (max
          (if t.arbiter.source = .nothing then 0 else pressureAt t.arbiter.demand) (max (quadGet u.roll.contributions c)
          (if u.air.presence = .lost then pressureAt (t1Emergency t1) else 0)))⟩) ∧
        (r'.state = .hold → quadGet rec.commands c = ⟨true, min r'.heldTarget r'.ceiling⟩) ∧
        (r'.state = .halted → quadGet rec.commands c = ⟨true, min r'.haltPressure r'.ceiling⟩)) ∧
    ChangesOnly [.arbiter, .alerts, .mgmt, .store, .valve] u t

/-- The load estimator (R2 to R14). While a group is frozen its filter, filtered pressure, load, ratio, state and overload
flag stay (R7): a command after which a group's freeze flag is set has changed nothing of the estimate but the freeze flag
itself, the bellows-absent time (R4) and the fallback-reported flag (R12). A reset clears the flag. A set taken from any
state `u` freezes each group by R2 and forms its bellows pressure by R4; of an unfrozen group it seeds an INVALID estimate
(R5), moves the filter of a VALID one (R6), recomputes load and ratio by the curve (R8, R9), judges overload with its tally
(R14), or makes the estimate INVALID after 10 s without bellows (R11); and it raises LOAD_FALLBACK once in each INVALID
spell of 10 s (R12), judged after the seeding of the same set: the model's reading (log 34). When both groups raise on one
set the order of the raises is the model's choice (log 51) and not said here. -/
def Obligations.FrozenEstimateStays : Prop :=
  (∀ (c : Instr) (s t : State) (g : Group), exec c s = .next t → (estimate t g).freeze = true →
    (estimate t g).filter = (estimate s g).filter ∧ (estimate t g).bellows = (estimate s g).bellows ∧
      (estimate t g).load = (estimate s g).load ∧ (estimate t g).ratio = (estimate s g).ratio ∧
      (estimate t g).state = (estimate s g).state ∧ (estimate t g).overload = (estimate s g).overload ∧
      (estimate t g).invalidSince = (estimate s g).invalidSince) ∧
  ∀ u : State,
    let t := estimatorTakesSet u
    let t2 := u.tables.t2
    let now := u.timeBase
    let b : Group → Option Nat := fun g =>
      match reading u (inputBellows g .left), reading u (inputBellows g .right) with
      | some l, some r => some ((l + r + 1) / 2)
      | some l, none => some l
      | none, r => r
    let frozen : Group → Prop := fun g => t2FreezeDemand t2 g < demandLevel u ∨ u.roll.state ≠ .idle ∨
      ∃ a ∈ lateral u, t2FreezeAccel t2 g < a.natAbs
    let invalid : Group → Prop := fun g => (estimate u g).state = .invalid
    let measured : Group → Prop := fun g => ¬frozen g ∧ b g ≠ none
    let lapses : Group → Prop := fun g => ¬frozen g ∧ b g = none ∧ ¬invalid g ∧
      10000 ≤ (now - (estimate u g).absentSince.getD now).toNat
    let due : Group → Prop := fun g => invalid g ∧ ¬measured g ∧ (estimate u g).fallbackReported = false ∧
      10000 ≤ (now - (estimate u g).invalidSince).toNat
    let tooHeavy : Group → Prop := fun g => t2Laden t2 g * 4506 / 4096 < (estimate t g).load
    let rises : Group → Prop := fun g => measured g ∧ tooHeavy g ∧ (estimate u g).overload = false
    let raised := fun g => raisedAt u now .loadFallback ⟨.group, if g = .a then 0 else 1⟩ (t2Fallback t2 g) u.alerts
    (∀ g,
      let e := estimate u g
      let e' := estimate t g
      let kept := { e with freeze := e'.freeze, absentSince := e'.absentSince, fallbackReported := e'.fallbackReported }
      (e'.freeze = true ↔ frozen g) ∧ e'.absentSince = (if b g = none then some (e.absentSince.getD now) else none) ∧
      (e'.fallbackReported = true ↔
        due g ∨ (e.fallbackReported = true ∧ ¬(invalid g ∧ measured g) ∧ ¬lapses g)) ∧
      (∀ p ∈ b g, ¬frozen g →
        let f := e.filter.getD 0
        let f' := if invalid g then 16 * p else f + p - (f + 8) / 16
        e' = { kept with
          state := .valid, filter := some f', bellows := (f' + 8) / 16, load := e'.load, ratio := e'.ratio
          overload := decide (tooHeavy g) } ∧
        (e'.ratio = if e'.load ≤ t2Empty t2 g then 0 else if t2Laden t2 g ≤ e'.load then 4096
          else ((e'.load - t2Empty t2 g) * 4096 + (t2Laden t2 g - t2Empty t2 g) / 2) /
            (t2Laden t2 g - t2Empty t2 g)) ∧
        (tableCheck 2 t2 = none → (e'.bellows ≤ t2B t2 g 0 → e'.load = t2L t2 g 0) ∧
          (t2B t2 g (t2Points t2 g - 1) ≤ e'.bellows → e'.load = t2L t2 g (t2Points t2 g - 1)) ∧
          ∀ i, i + 1 < t2Points t2 g → t2B t2 g i ≤ e'.bellows → e'.bellows < t2B t2 g (i + 1) →
            let w := t2B t2 g (i + 1) - t2B t2 g i
            e'.load = t2L t2 g i +
              ((e'.bellows - t2B t2 g i) * (t2L t2 g (i + 1) - t2L t2 g i) + w / 2) / w)) ∧
      (lapses g → e' = { kept with state := .invalid, ratio := t2Fallback t2 g, invalidSince := now }) ∧
      (¬measured g → ¬lapses g → e' = kept)) ∧
    (¬due .a → ¬due .b → t.alerts = u.alerts) ∧ (due .a → ¬due .b → t.alerts = raised .a) ∧
    (¬due .a → due .b → t.alerts = raised .b) ∧
    (¬rises .a → ¬rises .b → t.store = u.store) ∧
    (rises .a ∧ ¬rises .b ∨ ¬rises .a ∧ rises .b → t.store = (requestTally 3 u).store) ∧
    (rises .a → rises .b → t.store = (requestTally 3 (requestTally 3 u)).store) ∧
    ChangesOnly [.load, .alerts, .store] u t

/-- The braking characteristic at a factor k of at most 4096 (R18): its value, and the properties the pressure arbiter and
the roll monitor rely on. `p` is the onset pressure, `k` the factor. -/
def Obligations.CharacteristicIsBoundedAndMonotone : Prop :=
  ∀ (t : Table) (g : Group), t2Onset t g ≤ 200 → t2EmptyRatio t g ≤ 4096 → ∀ r, r ≤ 4096 →
    let p := t2Onset t g
    let k := characteristicFactor t g r
    let P := characteristicAt t g r
    (t2EmptyRatio t g ≤ k ∧ k ≤ 4096) ∧
    ∀ demand,
      let d := min demand 1000
      (d ≤ p → P demand = d) ∧ (p < d → P demand = p + ((d - p) * k + 2048) / 4096) ∧ P demand ≤ 1000 ∧
      P demand ≤ d ∧ (d ≤ p ∨ k = 4096 → P demand = d) ∧ (p < d → p ≤ P demand) ∧
      (∀ demand', demand ≤ demand' → P demand ≤ P demand') ∧
      (∀ r', r ≤ r' → r' ≤ 4096 → k ≤ characteristicFactor t g r' ∧ P demand ≤ characteristicAt t g r' demand) ∧
      (∀ r', r' ≤ 4096 → k ≤ characteristicFactor t g r' → P demand ≤ characteristicAt t g r' demand)

/-- The declaration of SAMPLE_LOST at the expiry of the loss timer (R30), in WAITING or RUNNING: the port record and each
input; SAMPLE_LOST raised with the sample port as subject and the last sequence, or 0, as value, and the capture record
filled if it was EMPTY; the driver demand of R41; the fail-safe state FS_B with the channels moved by its rows of R47, each
pending halt cancelled and HALT_ABANDONED raised of each HALTED channel, in order (R46, log 10); the roll monitor in IDLE,
suspended, its commitment released and a pulse counted as aborted (R83); the supply's runs and mismatch start ended and its
presence kept (R94). The model's choices: the port and the blocks act in the order of log 17, a HALTED channel that goes to
HOLD holds its test pressure bounded by its ceiling (log 15), the roll thresholds stay as they are (log 68), and before the
20 ms the command changes nothing (log 5). -/
def Obligations.SampleLossIsDeclaredWhole : Prop :=
  ∀ (s : State) (st : Stamp), s.powered = true → s.sample.loss ≠ .lost → s.sample.lossStart = some st →
    ((s.timeBase - st).toNat < 20 → exec .lossTimerExpiry s = .next s) ∧
    (20 ≤ (s.timeBase - st).toNat → ∃ t, exec .lossTimerExpiry s = .next t ∧
      t.sample = { s.sample with loss := .lost, losses := min (s.sample.losses + 1) 65535, inputs := t.sample.inputs } ∧
      (∀ i, input t i = if (input s i).status = .valid ∨ (input s i).status = .held
        then { input s i with status := .invalid, holdStart := none } else input s i) ∧
      (let entered : Prop := s.arbiter.failSafe ≠ .fsB
       let electric : Prop := s.link.state = .fresh ∨ s.link.state = .stale
       let halted := allChannels.filter fun c => (chan s c).state == .halted
       let cancelled := allChannels.filterMap fun c => (chan s c).haltPending.map fun h => [responseFrame s 10 [h.tag, 2, 4]]
       let last : Nat := match s.sample.lastSeq with
         | some n => n.toNat
         | none => 0
       let lost := raisedAt s s.timeBase .sampleLost ⟨.block, 1⟩ last s.alerts
       t.arbiter = { s.arbiter with
         channels := t.arbiter.channels, failSafe := .fsB, demand := if electric then s.link.demand else 0
         source := if electric then .electric else .nothing } ∧
       (∀ c,
         let r := chan s c
         chan t c = if ¬entered then r
           else if r.state = .active ∨ r.state = .halted then
             if t1FsbHold s.tables.t1 c = true then { r with
               state := .hold, reason := none, holdTimer := some s.timeBase, deviation := none, haltPending := none
               heldTarget := if r.state = .active then r.cmdTarget else min r.haltPressure r.ceiling }
             else { r with
               state := .backup, reason := some .failsafe, holdTimer := none, deviation := none, haltPending := none }
           else { r with haltPending := none }) ∧
       t.alerts = { (if entered then halted.foldl (fun a c =>
           raisedAt s s.timeBase .haltAbandoned ⟨.channel, c.val + 1⟩ (chan s c).haltPressure a) lost else lost) with
         capture := t.alerts.capture, sinceCapture := t.alerts.sinceCapture } ∧
       (s.mgmt.queue.length ≤ 4 →
         t.mgmt.queue = if entered then (s.mgmt.queue ++ cancelled).take 4 else s.mgmt.queue)) ∧
      t.alerts.capture.isSome = true ∧
      (s.alerts.capture = none → t.alerts.sinceCapture = s.alerts.sinceCapture ∧
        t.alerts.capture.map (fun k => (k.kind, k.subject, k.time, k.commanded, k.delivered)) =
          some (.sampleLost, ⟨.block, 1⟩, s.timeBase, 0, 0)) ∧
      (∀ k, s.alerts.capture = some k → t.alerts.capture = some k ∧
        t.alerts.sinceCapture = min (s.alerts.sinceCapture + 1) 255) ∧
      (let tested : Prop := s.roll.state = .test
       t.roll = { leavingRoll s s.roll with
         state := .idle, timer := none, contributions := Quad.const 0, stretch := 0, suspended := true
         aborts := if tested then min (s.roll.aborts + 1) 65535 else s.roll.aborts } ∧
       t.air = { leavingAir s with
         lostRun := none, presentRun := none, lowRun := none, mismatchStart := none
         state := if s.air.state = .supplyLost then .supplyLost else .unknown }) ∧
      ChangesOnly [.sample, .arbiter, .air, .roll, .alerts, .mgmt] s t)

/-! ### Valve command port and channels -/

/-- The transmitter and the pending slot of the valve command port (R32, R34): a transmission that completes leaves the
transmitter free and its sequence number as the last sent; a waiting record is then transmitted, and the missing-status
count rises when no status record has been taken since the previous record was sent. That a record counts as sent when its
transmission completes is the model's reading (log 12), and that either command changes nothing out of turn (log 5). -/
def Obligations.ValveRecordsAreSentInTurn : Prop :=
  ∀ s : State, s.powered = true →
    (∀ r, s.valve.tx = some r → exec .valveRecordSent s = .next { s with valve := { s.valve with
      tx := none, lastSent := some r.seq, answered := false, normalSent := s.valve.normalSent || (r.kind == .normal) } }) ∧
    (s.valve.tx = none → exec .valveRecordSent s = .next s) ∧
    (∀ r, s.valve.tx = none → s.valve.slot = some r → exec .pendingRecordTransmit s = .next { s with valve := { s.valve with
      tx := some r, slot := none
      missingStatus := if s.valve.lastSent.isSome = true ∧ s.valve.answered = false
        then min (s.valve.missingStatus + 1) 65535 else s.valve.missingStatus } }) ∧
    (s.valve.tx.isSome = true ∨ s.valve.slot = none → exec .pendingRecordTransmit s = .next s)

/-- A refresh record (R33) commands every channel by its state (R40, R45), is composed into the channel records, and is sent,
waits or supersedes as a NORMAL record does (R32). That a record in a full slot is superseded even when the transmitter has
just become free is the model's reading (log 11), as is the sequence of a record whose transmission has completed (log 12)
and that a refresh record is the record after a T1 activation that holds the channels in START (R38; log 53). -/
def Obligations.RefreshCommandsEveryChannelByItsState : Prop :=
  ∀ (s : State) (at_ : Stamp), s.powered = true → s.resetLine = false → s.valve.normalSent = true →
    s.valve.composedAt = some at_ → 10 ≤ (s.timeBase - at_).toNat →
    ∃ (t : State) (rec : ValveRecord), exec .refreshDue s = .next t ∧ rec.kind = .refresh ∧
      rec.seq = s.valve.lastSent.getD 0 ∧ t.valve.composedAt = some s.timeBase ∧
      t.arbiter = { s.arbiter with channels := t.arbiter.channels, backupNext := false } ∧
      (s.valve.slot.isSome = true → t.valve.slot = some rec ∧ t.valve.tx = s.valve.tx ∧
        t.valve.superseded = min (s.valve.superseded + 1) 65535) ∧
      (s.valve.slot = none → s.valve.tx.isSome = true → t.valve.slot = some rec ∧ t.valve.tx = s.valve.tx ∧
        t.valve.superseded = s.valve.superseded) ∧
      (s.valve.slot = none → s.valve.tx = none → t.valve.slot = none ∧ t.valve.tx = some rec ∧
        t.valve.superseded = s.valve.superseded) ∧
      (∀ c : Channel,
        let r := chan s c
        let driver := if s.arbiter.source = .nothing then 0
          else characteristicAt s.tables.t2 (t1Group s.tables.t1 c) (estimate s (t1Group s.tables.t1 c)).ratio s.arbiter.demand
        let emergency := if s.air.presence = .lost
          then characteristicAt s.tables.t2 (t1Group s.tables.t1 c) (estimate s (t1Group s.tables.t1 c)).ratio
            (t1Emergency s.tables.t1) else 0
        quadGet rec.commands c = ⟨(chan t c).cmdPressure, (chan t c).cmdTarget⟩ ∧
        (chan t c).state = r.state ∧ (chan t c).ceiling = r.ceiling ∧
        (r.state = .start ∨ r.state = .backup ∨ r.state = .faulted → quadGet rec.commands c = ⟨false, 0⟩) ∧
        (r.state = .active → quadGet rec.commands c =
          ⟨true, min r.ceiling (max driver (max (quadGet s.roll.contributions c) emergency))⟩) ∧
        (r.state = .hold → quadGet rec.commands c = ⟨true, min r.heldTarget r.ceiling⟩) ∧
        (r.state = .halted → quadGet rec.commands c = ⟨true, min r.haltPressure r.ceiling⟩)) ∧
      ChangesOnly [.arbiter, .valve] s t

/-- A driver status record (R34, R55): a failed frame check is counted and nothing else; a taken record is kept as each
channel's last driver status and counted as late when it echoes another sequence, or when no record has been sent (the
model's reading, log 12); an assigned channel that is not FAULTED and is reported other than OK enters FAULTED with that
cause and its counter at the threshold at least. The entry into FAULTED from any state `u` (R50, R51): the channel's record,
CHANNEL_FAULT with its cause, one increment of TL2, the capture record, the pending halt, and under policy ALL the sympathy
backups, in the order of the channels (log 10). The model's readings: a sympathy backup cancels the pending halt only of a
channel it moves (log 16), and a record that arrives under an asserted RESET line is taken (log 52). -/
def Obligations.DriverStatusFaultsItsChannel : Prop :=
  (∀ (s : State) (bytes : List Byte), s.powered = true →
    (driverStatusOk bytes = false → exec (.driverStatusRecord bytes) s =
      .next { s with valve := { s.valve with statusErrors := min (s.valve.statusErrors + 1) 65535 } }) ∧
    (driverStatusOk bytes = true → ∃ t, exec (.driverStatusRecord bytes) s = .next t ∧
      t.valve = { s.valve with
        answered := true
        lastStatus := t.valve.lastStatus
        lateStatus := if s.valve.lastSent = some (bytes.getD 0 0) then s.valve.lateStatus
          else min (s.valve.lateStatus + 1) 65535 } ∧
      (∀ c, quadGet t.valve.lastStatus c = some (driverStatus bytes c)) ∧
      (∀ c cause, t1Assigned s.tables.t1 c = true → statusCause (driverStatus bytes c) = some cause →
        (chan s c).state ≠ .faulted →
        (chan t c).state = .faulted ∧ (chan t c).cause = some cause ∧
          (chan t c).errors = max (chan s c).errors (t1Threshold s.tables.t1) ∧ (chan t c).haltPending = none) ∧
      (∀ c, (chan s c).state = .faulted → chan t c = chan s c) ∧
      ((∀ c, t1Assigned s.tables.t1 c = true → driverStatus bytes c = .ok) →
        ChangesOnly [.valve] s t) ∧
      (∀ c cause, t1Assigned s.tables.t1 c = true → statusCause (driverStatus bytes c) = some cause →
        (chan s c).state ≠ .faulted → (∀ d, d ≠ c → t1Assigned s.tables.t1 d = true → driverStatus bytes d = .ok) →
        let counted := s.onChannel c fun r => { r with errors := max r.errors (t1Threshold s.tables.t1) }
        t = { enterFaulted c cause counted with valve := t.valve }) ∧
      ChangesOnly [.arbiter, .alerts, .mgmt, .store, .valve] s t)) ∧
  ∀ (u : State) (c : Channel) (cause : FaultCause),
    let t := enterFaulted c cause u
    let all : Prop := t1PolicyAll u.tables.t1 = true
    let backed : Channel → Prop := fun d => all ∧ d ≠ c ∧
      ((chan u d).state = .active ∨ (chan u d).state = .hold ∨ (chan u d).state = .halted)
    let halted := allChannels.filter fun d => decide (all ∧ d ≠ c ∧ (chan u d).state = .halted)
    let code : Nat := match cause with
      | .counter => 0
      | .coilOpen => 1
      | .coilShort => 2
      | .overTemp => 3
      | .deliveredInvalid => 4
    chan t c = { chan u c with
      state := .faulted, reason := none, holdTimer := none, deviation := none, cause := some cause, haltPending := none } ∧
    (∀ d, d ≠ c → (backed d → chan t d = { chan u d with
        state := .backup, reason := some .sympathy, holdTimer := none, deviation := none, haltPending := none }) ∧
      (¬backed d → chan t d = chan u d)) ∧
    t.alerts = { halted.foldl (fun a d =>
        raisedAt u u.timeBase .haltAbandoned ⟨.channel, d.val + 1⟩ (chan u d).haltPressure a)
        (raisedAt u u.timeBase .channelFault ⟨.channel, c.val + 1⟩ code u.alerts) with
      capture := t.alerts.capture, sinceCapture := t.alerts.sinceCapture } ∧
    t.store = (requestTally 2 u).store ∧
    (u.alerts.capture = none → t.alerts.sinceCapture = u.alerts.sinceCapture ∧ t.alerts.capture.map (fun k =>
        (k.kind, k.subject, k.time, k.commanded, k.delivered)) = some (.channelFault, ⟨.channel, c.val + 1⟩, u.timeBase,
      if (chan u c).cmdPressure then (chan u c).cmdTarget else 0, (chan u c).delivered)) ∧
    (∀ k, u.alerts.capture = some k → t.alerts.capture = some k ∧
      t.alerts.sinceCapture = min (u.alerts.sinceCapture + 1) 255) ∧
    (∀ h ∈ (chan u c).haltPending, (∀ d, ¬backed d) → u.mgmt.queue.length < 4 →
      t.mgmt.queue = u.mgmt.queue ++ [[responseFrame u 10 [h.tag, 2, 4]]]) ∧
    (((∀ d, ¬backed d ∨ (chan u d).haltPending = none) ∧ (chan u c).haltPending = none) → t.mgmt = u.mgmt) ∧
    ChangesOnly [.arbiter, .alerts, .mgmt, .store] u t

/-- HOLD_TIMER_EXPIRY (R48): 500 ms after the entry to HOLD the channel goes to BACKUP with reason FAILSAFE and the HOLD timer
becomes none; earlier, or in another state, the command changes nothing (log 5). -/
def Obligations.HoldEndsAfterHalfASecond : Prop :=
  ∀ (s : State) (c : Channel) (h : Stamp), s.powered = true →
    ((chan s c).state = .hold → (chan s c).holdTimer = some h → 500 ≤ (s.timeBase - h).toNat →
      ∃ t, exec (.holdTimerExpiry c) s = .next t ∧
        chan t c = { chan s c with state := .backup, reason := some .failsafe, holdTimer := none, deviation := none } ∧
        (∀ d, d ≠ c → chan t d = chan s d) ∧ t.arbiter.failSafe = s.arbiter.failSafe ∧
        t.arbiter.demand = s.arbiter.demand ∧ ChangesOnly [.arbiter] s t) ∧
    ((chan s c).state ≠ .hold ∨ ((chan s c).holdTimer = some h ∧ (s.timeBase - h).toNat < 500) →
      exec (.holdTimerExpiry c) s = .next s)

/-- HALT_CHANNEL(ch, p), judged in the order of R57; `ch` is channel number c + 1. -/
def Obligations.HaltIsJudgedInOrder : Prop :=
  ∀ (s : State) (q : ReqFrame) (tag : Byte), TakesRequest s q 4 tag →
    let n := dataByte q.data 1
    let p := dataWord q.data 2
    let u := requestTaken s
    (n < 1 ∨ 4 < n ∨ 1000 < p → exec (.haltChannel q) s = .next (answer 10 tag (.refused .range) u)) ∧
    ∀ c : Channel, n = c.val + 1 → p ≤ 1000 →
      let r := chan s c
      let stopped : Prop := t1Assigned s.tables.t1 c = false ∨ r.state = .faulted ∨
        (r.state = .backup ∧ r.reason = some .sympathy) ∨ s.arbiter.failSafe = .fsB ∨ s.air.presence ≠ .present ∨
        vehicleSpeed s = none ∨ (∃ v, vehicleSpeed s = some v ∧ 200 < v) ∨ inputValid s (inputDelivered c) = false
      (stopped → exec (.haltChannel q) s = .next (answer 10 tag (.refused .state) u)) ∧
      (¬stopped → r.state = .halted → exec (.haltChannel q) s =
        .next (answer 10 tag .done (u.onChannel c fun r => { r with haltPressure := p }))) ∧
      (¬stopped → r.state ≠ .halted → r.haltPending.isSome = true →
        exec (.haltChannel q) s = .next (answer 10 tag (.refused .busy) u)) ∧
      (¬stopped → r.state ≠ .halted → r.haltPending = none → s.roll.state = .idle → demandLevel s ≤ 30 →
        exec (.haltChannel q) s = .next (answer 10 tag .done (u.onChannel c fun r =>
          { r with state := .halted, reason := none, holdTimer := none, haltPressure := p, strapPending := false }))) ∧
      (¬stopped → r.state ≠ .halted → r.haltPending = none → s.roll.state ≠ .idle ∨ 30 < demandLevel s →
        exec (.haltChannel q) s = .next (answer 10 tag .accepted (u.onChannel c fun r =>
          { r with haltPending := some ⟨p, tag⟩ })))

/-- RUN_CHANNEL(ch) (R60) and CLEAR_CHANNEL(ch) (R61): `ch` is channel number c + 1; a trailer is stationary when every
valid wheel speed is below 200. CLEAR_CHANNEL zeroes the counter, a FAULTED channel goes to START, and when no channel is
left FAULTED every SYMPATHY backup goes to START (R51); it is answered DONE. A HALTED channel that also has a halt pending
takes both cases of R60 and is answered CANCELLED and then DONE, the model's choice (log 54). -/
def Obligations.RunAndClearChannel : Prop :=
  ∀ (s : State) (q : ReqFrame) (tag : Byte), TakesRequest s q 2 tag →
    let n := dataByte q.data 1
    let u := requestTaken s
    (n < 1 ∨ 4 < n → exec (.runChannel q) s = .next (answer 11 tag (.refused .range) u) ∧
      exec (.clearChannel q) s = .next (answer 12 tag (.refused .range) u)) ∧
    ∀ c : Channel, n = c.val + 1 →
      ((chan s c).state = .halted → (chan s c).haltPending = none → exec (.runChannel q) s =
        .next (answer 11 tag .done (u.onChannel c fun r =>
          { r with state := .start, reason := none, holdTimer := none, deviation := none }))) ∧
      (∀ h, (chan s c).state = .halted → (chan s c).haltPending = some h → exec (.runChannel q) s =
        .next (answer 11 tag .done (answer 10 h.tag (.completed .cancelled) (u.onChannel c fun r =>
          { r with state := .start, reason := none, holdTimer := none, deviation := none, haltPending := none })))) ∧
      (∀ h, (chan s c).state ≠ .halted → (chan s c).haltPending = some h → exec (.runChannel q) s =
        .next (answer 11 tag .done (answer 10 h.tag (.completed .cancelled)
          (u.onChannel c fun r => { r with haltPending := none })))) ∧
      ((chan s c).state ≠ .halted → (chan s c).haltPending = none →
        exec (.runChannel q) s = .next (answer 11 tag (.refused .state) u)) ∧
      ((∃ v, vehicleSpeed s = some v ∧ 200 ≤ v) →
        exec (.clearChannel q) s = .next (answer 12 tag (.refused .state) u)) ∧
      ((∀ v, vehicleSpeed s = some v → v < 200) → ∃ t, exec (.clearChannel q) s = .next (answer 12 tag .done t) ∧
        ChangesOnly [.arbiter] u t ∧ t.arbiter = { s.arbiter with channels := t.arbiter.channels } ∧
        ∀ d,
          let starts := fun r : ChannelRec =>
            { r with state := .start, reason := none, holdTimer := none, deviation := none }
          let r := chan s d
          let r' : ChannelRec := if d ≠ c then r
            else if r.state = .faulted then { starts r with errors := 0, cause := none } else { r with errors := 0 }
          let free : Prop := ∀ e, e ≠ c → (chan s e).state ≠ .faulted
          chan t d = if free ∧ r'.state = .backup ∧ r'.reason = some .sympathy then starts r' else r')

/-! ### Roll monitor and air supervisor -/

/-- The roll monitor at a sample set and at ROLL_TIMER_EXPIRY (R66 to R84). The thresholds are those of R67 and lie in their
bounds under a valid T3. An expiry ends a pulse in WATCH (R75), or in IDLE when the lateral acceleration is not valid (R82);
ends the holdoff of WATCH in INTERVENE, a new test or IDLE (R77); and ends the release hold of INTERVENE in RECOVER (R79). A
set, taken from any state `u`, applies the one rule of its state: IDLE (R70 to R72, R84), TEST with lift, abort and cut (R73,
R74, R76), WATCH (R77), INTERVENE (R78, R79), RECOVER (R80), or, the lateral acceleration not valid, the table of R82 with
the suspended flag. v_i and v_o are the least inner and the greatest outer speed (R66). A timer that has not expired changes
nothing (log 5). -/
def Obligations.RollMonitorFollowsItsRules : Prop :=
  (∀ (s : State) (tm : Timer), s.powered = true → s.roll.timer = some tm →
    ((s.timeBase - tm.start).toNat < tm.bound → exec .rollTimerExpiry s = .next s) ∧
    (tm.bound ≤ (s.timeBase - tm.start).toNat → ∃ t, exec .rollTimerExpiry s = .next t ∧
      let th := t.roll.thresholds
      let r := { s.roll with thresholds := th }
      let fast : Nat → Prop := fun level => ∃ v ∈ vehicleSpeed s, level ≤ v
      ThresholdsOf s th ∧
      (tableCheck 3 s.tables.t3 = none → th.rMax ≤ 4096 →
        50 ≤ th.aLim ∧ th.aLim ≤ t3EmptyLimit s.tables.t3 ∧ 25 ≤ th.aTest ∧ th.aTest < th.aLim ∧ th.aRelease ≤ th.aTest) ∧
      (s.roll.state = .test → lateral s ≠ none → RollRests s t { r with
        state := .watch, timer := some ⟨s.timeBase, 500⟩, timeouts := min (r.timeouts + 1) 65535 }) ∧
      (s.roll.state = .test → lateral s = none → RollRests s t { r with
        state := .idle, timer := none, aborts := min (r.aborts + 1) 65535 }) ∧
      (s.roll.state = .watch → lateral s = none → RollRests s t { r with state := .idle, timer := none }) ∧
      (s.roll.state = .watch → ∀ a ∈ lateral s,
        let tips : Prop := th.aLim ≤ a.natAbs ∧ fast (t3VStop s.tables.t3)
        let tries : Prop := th.aTest ≤ a.natAbs ∧ fast (t3VMin s.tables.t3)
        (tips → RollIntervenes s t r a) ∧ (¬tips → tries → RollTries s t r a) ∧
          (¬tips → ¬tries → RollRests s t { r with state := .idle, timer := none })) ∧
      (s.roll.state = .intervene → ChangesOnly [.roll] s t ∧ t.roll = { r with state := .recover, timer := none }) ∧
      (s.roll.state = .idle ∨ s.roll.state = .recover → ChangesOnly [.roll] s t ∧ t.roll = r) ∧
      ChangesOnly [.air, .roll, .alerts, .store] s t)) ∧
  (∀ (s : State) (inner : Side),
    let speed : Side → Nat → Prop := fun sd v => ∃ c, t1Assigned s.tables.t1 c = true ∧ t1Side s.tables.t1 c = sd ∧
      ∃ w ∈ t1Wheel s.tables.t1 c, reading s (inputWheel w) = some v
    (∀ v, innerSpeed s inner = some v ↔ speed inner v ∧ ∀ x, speed inner x → v ≤ x) ∧
    (innerSpeed s inner = none ↔ ∀ x, ¬speed inner x) ∧
    (∀ v, outerSpeed s inner = some v ↔ speed (otherSide inner) v ∧ ∀ x, speed (otherSide inner) x → x ≤ v) ∧
    (outerSpeed s inner = none ↔ ∀ x, ¬speed (otherSide inner) x)) ∧
  ∀ u : State,
    let t := rollTakesSet u
    let t1 := u.tables.t1
    let t2 := u.tables.t2
    let t3 := u.tables.t3
    let th := t.roll.thresholds
    let r := { u.roll with thresholds := th, suspended := decide (lateral u = none) }
    let fast : Nat → Prop := fun level => ∃ v ∈ vehicleSpeed u, level ≤ v
    let stays : Prop := ChangesOnly [.roll] u t ∧ t.roll = r
    let idles : Prop := RollRests u t { r with state := .idle, timer := none }
    let ramps : Prop := if r.stretch ≤ t3Ramp t3 then idles else ChangesOnly [.roll] u t ∧ t.roll = { r with
      contributions := quadMap (fun _ p => p - t3Ramp t3) r.contributions, stretch := r.stretch - t3Ramp t3 }
    ThresholdsOf u th ∧ ChangesOnly [.air, .roll, .alerts, .store] u t ∧
    (∀ a ∈ lateral u,
      let tips : Prop := th.aLim ≤ a.natAbs ∧ fast (t3VStop t3)
      (u.roll.state = .idle →
        let starts : Prop := t3Enabled t3 = true ∧ th.aLim ≤ a.natAbs ∧ fast (t3VMin t3)
        let tries : Prop := t3Enabled t3 = true ∧ th.aTest ≤ a.natAbs ∧ fast (t3VMin t3)
        (starts → RollIntervenes u t r a) ∧ (¬starts → tries → RollTries u t r a) ∧ (¬starts → ¬tries → stays)) ∧
      (u.roll.state = .test → ∀ inner ∈ u.roll.testSide,
        let lift : Prop := ∃ i ∈ innerSpeed u inner, ∃ o ∈ outerSpeed u inner,
          t3VMin t3 ≤ o ∧ i * 4096 < o * (4096 - t3LiftSlip t3)
        let turned : Prop := (inner = .left ∧ a < 0) ∨ (inner = .right ∧ 0 < a)
        let aborts : Prop := t2Onset t2 .a < demandLevel u ∨ t2Onset t2 .b < demandLevel u ∨ turned ∨
          (∃ c, t1Assigned t1 c = true ∧ t1Side t1 c = inner ∧ (chan u c).state ≠ .active) ∨ u.air.state ≠ .ready
        (lift → RollIntervenes u t { r with lifts := min (r.lifts + 1) 65535 } a) ∧
        (¬lift → tips → RollIntervenes u t r a) ∧
        (¬lift → ¬tips → aborts → RollRests u t { r with
          state := .watch, timer := some ⟨u.timeBase, 500⟩, aborts := min (r.aborts + 1) 65535 }) ∧
        (¬lift → ¬tips → ¬aborts → a.natAbs < th.aRelease → RollRests u t { r with
          state := .idle, timer := none, cuts := min (r.cuts + 1) 65535 }) ∧
        (¬lift → ¬tips → ¬aborts → th.aRelease ≤ a.natAbs → stays)) ∧
      (u.roll.state = .watch → (tips → RollIntervenes u t r a) ∧ (¬tips → stays)) ∧
      (u.roll.state = .intervene → ChangesOnly [.roll] u t ∧
        let full := { r with contributions := fullContributions u }
        let slow : Prop := ∃ v ∈ vehicleSpeed u, v < t3VStop t3
        (slow → t.roll = { full with state := .recover, timer := none }) ∧
        (¬slow → a.natAbs < th.aRelease → t.roll = { full with timer := some (r.timer.getD ⟨u.timeBase, 300⟩) }) ∧
        (¬slow → th.aRelease ≤ a.natAbs → t.roll = { full with timer := none })) ∧
      (u.roll.state = .recover → (tips → RollIntervenes u t r a) ∧ (¬tips → ramps))) ∧
    (lateral u = none →
      (u.roll.state = .idle → stays) ∧
      (u.roll.state = .test → RollRests u t { r with
        state := .idle, timer := none, aborts := min (r.aborts + 1) 65535 }) ∧
      (u.roll.state = .watch → idles) ∧
      (u.roll.state = .intervene → ChangesOnly [.roll] u t ∧ t.roll = { r with state := .recover, timer := none }) ∧
      (u.roll.state = .recover → ramps))

/-- The air supervisor. On an accepted set: the runs of R88, the supply presence by the rows of R89, the supply state by the
first row of R90 that applies, and the mismatch run of R97, the inputs read as they stand in the port record that the set
leaves. Taking a set from any state `u`: the entries of R91 and R93 with their counts, raises, capture request and tally, and
CONTROL_LINE_MISMATCH, raised once in each run of 500 ms (R97). The reserve account: a request is refused while the list
holds an entry, in a state other than READY, or below the floor, and granted otherwise (R95); a release empties the list and
changes nothing else (R96). -/
def Obligations.SupplyFollowsItsRows : Prop :=
  (∀ (s : State) (bytes : List Byte), AcceptsSet s bytes → ∃ t, exec (.sampleSetArrival bytes) s = .next t ∧
    let supply := reading t inputSupply
    let reservoir := reading t inputReservoir
    let lasted := fun (run : Option Stamp) (d : Nat) => ∃ x, run = some x ∧ d ≤ (s.timeBase - x).toNat
    t.air.lostRun = (if below supply 250 then some (s.air.lostRun.getD s.timeBase) else none) ∧
    t.air.presentRun = (if atLeast supply 450 then some (s.air.presentRun.getD s.timeBase) else none) ∧
    t.air.lowRun = (if t.air.presence = .present ∧ below reservoir 450 = true
      then some (s.air.lowRun.getD s.timeBase) else none) ∧
    (s.air.presence = .unknown → t.air.presence = if atLeast supply 450 then .present else .unknown) ∧
    (s.air.presence = .present → (lasted t.air.lostRun 100 → t.air.presence = .lost) ∧
      (¬lasted t.air.lostRun 100 → t.air.presence = .present)) ∧
    (s.air.presence = .lost → (lasted t.air.presentRun 1000 → t.air.presence = .present) ∧
      (¬lasted t.air.presentRun 1000 → t.air.presence = .lost)) ∧
    (t.air.presence = .lost → t.air.state = .supplyLost) ∧
    (t.air.presence = .unknown ∨ (t.air.presence = .present ∧ (supply = none ∨ reservoir = none)) →
      t.air.state = .unknown) ∧
    (∀ r, t.air.presence = .present → supply ≠ none → reservoir = some r →
      let row3 : Prop := r < 200 ∨ (s.air.state = .exhausted ∧ r < 220)
      let row4 : Prop := lasted t.air.lowRun 1000 ∨ ((s.air.state = .low ∨ s.air.state = .exhausted) ∧ r < 470)
      let row5 : Prop := 600 ≤ r ∨ (s.air.state = .ready ∧ 580 ≤ r)
      (row3 → t.air.state = .exhausted) ∧ (¬row3 → row4 → t.air.state = .low) ∧
        (¬row3 → ¬row4 → row5 → t.air.state = .ready) ∧ (¬row3 → ¬row4 → ¬row5 → t.air.state = .charging)) ∧
    let apart : Prop := s.link.state = .fresh ∧ 50 < s.link.demand ∧ ∃ p, reading t inputControl = some p ∧ 50 < p ∧
      (s.link.demand + 80 < p ∨ p + 80 < s.link.demand)
    let reports : Prop := s.air.mismatchReported = false ∧ lasted s.air.mismatchStart 500
    (apart → t.air.mismatchStart = some (s.air.mismatchStart.getD s.timeBase) ∧
      (t.air.mismatchReported = true ↔ s.air.mismatchReported = true ∨ reports) ∧
      (reports → t.air.mismatches = min (s.air.mismatches + 1) 65535) ∧
      (¬reports → t.air.mismatches = s.air.mismatches)) ∧
    (¬apart → t.air.mismatchStart = none ∧ t.air.mismatchReported = false ∧ t.air.mismatches = s.air.mismatches)) ∧
  (∀ u : State,
    let t := airTakesSet u
    let loses : Prop := u.air.state ≠ .supplyLost ∧ t.air.state = .supplyLost
    let falls : Prop := (u.air.state ≠ .exhausted ∧ t.air.state = .exhausted) ∨
      (u.air.state ≠ .low ∧ u.air.state ≠ .exhausted ∧ t.air.state = .low)
    let reports : Prop := u.air.mismatchReported = false ∧ t.air.mismatchReported = true
    let supply := (input u inputSupply).value.toNat
    let raised := fun cause value a => raisedAt u u.timeBase cause ⟨.block, 4⟩ value a
    let entered := if loses then raised .supplyLost supply u.alerts
      else if falls then raised .reservoirLow (input u inputReservoir).value.toNat u.alerts else u.alerts
    t.air.supplyLost = (if loses then min (u.air.supplyLost + 1) 65535 else u.air.supplyLost) ∧
    t.air.reservoirLow = (if falls then min (u.air.reservoirLow + 1) 65535 else u.air.reservoirLow) ∧
    t.store = (if loses then (requestTally 1 u).store else u.store) ∧
    t.alerts = { (if reports then raised .controlLineMismatch
        (absDiff u.link.demand (input u inputControl).value.toNat) entered else entered) with
      capture := t.alerts.capture, sinceCapture := t.alerts.sinceCapture } ∧
    (loses → u.alerts.capture = none → t.alerts.sinceCapture = u.alerts.sinceCapture ∧ t.alerts.capture.map (fun k =>
      (k.kind, k.subject, k.time, k.supply)) = some (.supplyLost, ⟨.block, 4⟩, u.timeBase, supply)) ∧
    (loses → ∀ k, u.alerts.capture = some k → t.alerts.capture = some k ∧
      t.alerts.sinceCapture = min (u.alerts.sinceCapture + 1) 255) ∧
    (¬loses → t.alerts.capture = u.alerts.capture ∧ t.alerts.sinceCapture = u.alerts.sinceCapture) ∧
    t.air.commitment = u.air.commitment ∧ ChangesOnly [.air, .alerts, .store] u t) ∧
  ∀ (u : State) (side : Side) (channels : List Channel),
    let a := u.air
    let asked := requestCommitment side channels u
    let amount := (channels.map fun c => (t3TestPressure u.tables.t3 * t1Volume u.tables.t1 c + 500) / 1000).sum
    let held : Nat := match a.commitment with
      | some e => e.amount
      | none => 0
    let refused : Prop := (input u inputReservoir).value.toNat - held < t3Floor u.tables.t3 + amount
    (a.commitment ≠ none → asked = (u, none)) ∧
    (a.commitment = none → a.state ≠ .ready →
      asked = ({ u with air := { a with refusedState := min (a.refusedState + 1) 65535 } }, none)) ∧
    (a.commitment = none → a.state = .ready → refused →
      asked = ({ u with air := { a with refusedFloor := min (a.refusedFloor + 1) 65535 } }, none)) ∧
    (a.commitment = none → a.state = .ready → ¬refused →
      asked = ({ u with air := { a with
        commitment := some ⟨amount, side, channels, u.timeBase⟩, grants := min (a.grants + 1) 65535 } }, some amount)) ∧
    releaseCommitment u = { u with air := { a with commitment := none } }

/-! ### Tyre receiver -/

/-- BIT_TAKEN in HUNT (R101): without a carrier nothing changes; with one the bit enters the window, of which the latest
sixteen bits are kept, and a window of sixteen bits equal to the sync word, its oldest bit the most significant, starts an
empty assembly, which keeps that word until it ends (R109). SYNC_MATCH and TELEGRAM_COMPLETE name bits by what they complete
and act as BIT_TAKEN: the model's reading of those rows (log 38). -/
def Obligations.BitsAreHuntedForTheSyncWord : Prop :=
  ∀ (s : State) (bit : Bool) (c : Instr), s.powered = true →
    c = .bitTaken bit ∨ c = .syncMatch bit ∨ c = .telegramComplete bit →
    (s.rx.carrier = false → exec c s = .next s) ∧
    (s.rx.carrier = true → s.rx.state = .hunt →
      let w := (s.rx.window ++ [bit]).drop ((s.rx.window ++ [bit]).length - 16)
      (w.length = 16 ∧ bitsNat w = t4Sync s.tables.t4 → exec c s = .next { s with rx := { s.rx with
        state := .assemble, word := some (t4Sync s.tables.t4), window := [], buffer := []
        syncs := min (s.rx.syncs + 1) 65535 } }) ∧
      (w.length < 16 ∨ bitsNat w ≠ t4Sync s.tables.t4 →
        exec c s = .next { s with rx := { s.rx with window := w } })) ∧
    exec c s = exec (.telegramComplete bit) s

/-- TELEGRAM_COMPLETE in ASSEMBLE (R103, R105, R106, R107), the bit that completes 80 or one before it: fewer than 80 bits are
kept; the 80th ends the assembly in HUNT with an empty window, and the first outcome that applies is counted: a wrong check
byte, a field out of range, or a good telegram, whose entry is queued with the overrun-before mark, or is dropped at a queue
of eight, which sets the overrun latch. That the row is taken at a bit before the 80th as well, and keeps it, is the model's
reading of that row (log 38). -/
def Obligations.TelegramsAreJudgedInOrder : Prop :=
  ∀ (s : State) (bit : Bool), s.powered = true → s.rx.carrier = true → s.rx.state = .assemble →
    let bits := s.rx.buffer ++ [bit]
    let bytes := bytesOfBits 10 bits
    let hunt := { s.rx with state := .hunt, word := none, window := [], buffer := [] }
    let bad : Prop := bytes.getD 9 0 ≠ crc8 (bytes.take 9)
    let out : Prop := telegramId bytes = 0 ∨ telegramId bytes = 0xFFFFFFFF ∨ 1600 < dataWord bytes 4
    (bits.length < 80 → exec (.telegramComplete bit) s = .next { s with rx := { s.rx with buffer := bits } }) ∧
    (80 ≤ bits.length → bad → exec (.telegramComplete bit) s =
      .next { s with rx := { hunt with crcErrors := min (s.rx.crcErrors + 1) 65535 } }) ∧
    (80 ≤ bits.length → ¬bad → out → exec (.telegramComplete bit) s =
      .next { s with rx := { hunt with rangeErrors := min (s.rx.rangeErrors + 1) 65535 } }) ∧
    (80 ≤ bits.length → ¬bad → ¬out → s.rx.queue.length < 8 → exec (.telegramComplete bit) s =
      .next { s with rx := { hunt with
        goods := min (s.rx.goods + 1) 65535, queue := s.rx.queue ++ [telegramEntry bytes s.timeBase s.rx.latch]
        latch := false } }) ∧
    (80 ≤ bits.length → ¬bad → ¬out → 8 ≤ s.rx.queue.length → exec (.telegramComplete bit) s =
      .next { s with rx := { hunt with
        goods := min (s.rx.goods + 1) 65535, overruns := min (s.rx.overruns + 1) 65535, latch := true } })

/-- The check byte of a telegram of 80 bits (R104): its 8-bit register starts at 0xFF and takes the first 72 bits in order, and
the telegram passes when its last 8 bits equal the register. Two different telegrams whose bits differ only within eight
consecutive places, one wrong bit among these cases, never both pass. -/
def Obligations.CheckByteFindsErrorsWithinEightBits : Prop :=
  ∀ bits : List Bool, bits.length = 80 →
    let shift := fun (r : BitVec 8) (b : Bool) => if b ≠ r.getLsbD 7 then (r <<< 1) ^^^ 0x2F else r <<< 1
    let register := (bits.take 72).foldl shift 0xFF
    (telegramCrcOk (bytesOfBits 10 bits) = true ↔ ∀ k, k < 8 → bits[72 + k]? = some (register.getLsbD (7 - k))) ∧
    ∀ (bits' : List Bool) (j : Nat), bits'.length = 80 → bits' ≠ bits →
      (∀ i, i < j ∨ j + 8 ≤ i → bits'[i]? = bits[i]?) → telegramCrcOk (bytesOfBits 10 bits) = true →
      telegramCrcOk (bytesOfBits 10 bits') = false

/-- CARRIER_CHANGE by the table of R102: in HUNT every change empties the window; in ASSEMBLE a fall aborts the assembly. A level
the line already has is no change. After a reset of either kind the receiver takes the line as it stands. -/
def Obligations.CarrierChangesEmptyTheWindow : Prop :=
  (∀ (s : State) (level : Bool), s.powered = true →
    (s.rx.carrier = level → exec (.carrierChange level) s = .next s) ∧
    (s.rx.carrier ≠ level → s.rx.state = .hunt → exec (.carrierChange level) s =
      .next { s with rx := { s.rx with carrier := level, window := [] } }) ∧
    (s.rx.carrier = true → s.rx.state = .assemble → exec (.carrierChange false) s =
      .next { s with rx := { s.rx with
        carrier := false, state := .hunt, word := none, window := [], buffer := []
        aborts := min (s.rx.aborts + 1) 65535 } })) ∧
  ∀ (s t : State), (exec .powerOnReset s = .next t ∨
      (s.powered = true ∧ s.resetLine = false ∧ exec .resetLineAsserted s = .next t) ∨
      (∃ q tag, TakesRequest s q 1 tag ∧ s.store.state = .idle ∧ exec (.restart q) s = .next t)) →
    t.rx.state = .hunt ∧ t.rx.carrier = s.rx.carrier ∧ t.rx.window = []

/-! ### Tyre table -/

/-- Entries that are no reading (R114, R115, R125, R126), learn-flagged ones as well when no session binds them: the oldest
entry leaves the queue, and its overrun-before mark is counted; a repeat of a bound sensor is discarded and counted; a miss
of an ID in the unknown sensor list is a repeat or raises its count, and UNKNOWN_SENSOR is raised once, at the entry's own
time (R159), when the count has reached 3; a miss of another ID takes the lowest empty slot with count 1, and in a full list
the slot of the entry with the lowest count, of these the one least recently heard, and of these the lowest. That an empty
queue changes nothing is the model's choice (log 5). -/
def Obligations.RepeatsAndMissesAreNotReadings : Prop :=
  (∀ s : State, s.powered = true → s.rx.queue = [] → exec .telegramEntryTaken s = .next s) ∧
  ∀ (s : State) (e : Telegram) (rest : List Telegram), s.powered = true → s.rx.queue = e :: rest →
    (∀ l ∈ s.tyres.session, e.learn = true → gridGet s.tyres.map l.position = some e.id) →
    let marks := if e.overrunBefore then min (s.tyres.marks + 1) 65535 else s.tyres.marks
    let rx := { s.rx with queue := rest }
    (∀ p, positionOf s.tyres.map e.id = some p → (tyre s p).lastCounter = some e.counter → (tyre s p).state ≠ .lost →
      (e.time - (tyre s p).lastHeard).toNat ≤ 2000 → exec .telegramEntryTaken s =
        .next { s with rx := rx, tyres := { s.tyres with
          marks := marks, repeats := min (s.tyres.repeats + 1) 65535 } }) ∧
    (positionOf s.tyres.map e.id = none → (∀ k u, quadGet s.tyres.unknown k = some u → u.id ≠ e.id) →
      ∃ t k, exec .telegramEntryTaken s = .next t ∧ t.rx = rx ∧ ChangesOnly [.rx, .tyres] s t ∧
        t.tyres = { s.tyres with
          marks := marks, misses := min (s.tyres.misses + 1) 65535
          unknown := quadSet s.tyres.unknown k (some
            { id := e.id, count := 1, lastHeard := e.time, lastCounter := e.counter, reported := false }) } ∧
        ((∃ j, quadGet s.tyres.unknown j = none) →
          quadGet s.tyres.unknown k = none ∧ ∀ j, quadGet s.tyres.unknown j = none → k ≤ j) ∧
        ∀ u, quadGet s.tyres.unknown k = some u → ∀ j v, quadGet s.tyres.unknown j = some v →
          let age := fun x : UnknownEntry => (s.timeBase - x.lastHeard).toNat
          u.count < v.count ∨ (u.count = v.count ∧ (age v < age u ∨ (age v = age u ∧ k ≤ j)))) ∧
    ∀ k u, positionOf s.tyres.map e.id = none → quadGet s.tyres.unknown k = some u → u.id = e.id →
      (∀ j, j < k → ∀ v ∈ quadGet s.tyres.unknown j, v.id ≠ e.id) →
      let missed := { s.tyres with marks := marks, misses := min (s.tyres.misses + 1) 65535 }
      let again : Prop := u.lastCounter = e.counter ∧ (e.time - u.lastHeard).toNat ≤ 2000
      let count := min (u.count + 1) 255
      let reports : Prop := 3 ≤ count ∧ u.reported = false
      (again → exec .telegramEntryTaken s =
        .next { s with rx := rx, tyres := { missed with repeats := min (s.tyres.repeats + 1) 65535 } }) ∧
      (¬again → exec .telegramEntryTaken s = .next { s with
        rx := rx
        tyres := { missed with unknown := quadSet s.tyres.unknown k (some { u with
          count := count, lastHeard := e.time, lastCounter := e.counter
          reported := u.reported || decide reports }) }
        alerts := if reports then raisedAt s e.time .unknownSensor ⟨.block, 7⟩ k.val s.alerts else s.alerts })

/-- A reading of a bound position (R114, R116 to R119), of a learn-flagged entry as well when its ID already stands in the
slot of the open session: the overrun-before mark is counted (R115), the record takes the entry's values, the compensated
gauge, the target with its levels and the leak rate of the new history, its fall over its span of at least 20 s; a position
with diagnostics takes the first state of R119 that holds, and an entry into another state raises its alert at the entry's
own time stamp (R159) and has the derates evaluated (R122); the other positions and the map stay, and the reading is
counted. -/
def Obligations.ReadingUpdatesTheRecord : Prop :=
  ∀ (s : State) (e : Telegram) (rest : List Telegram) (p : Position), s.powered = true → s.rx.queue = e :: rest →
    (∀ l ∈ s.tyres.session, e.learn = true → gridGet s.tyres.map l.position = some e.id) →
    positionOf s.tyres.map e.id = some p → -55 ≤ e.temperature →
    ¬((tyre s p).lastCounter = some e.counter ∧ (tyre s p).state ≠ .lost ∧
      (e.time - (tyre s p).lastHeard).toNat ≤ 2000) →
    ∃ t, exec .telegramEntryTaken s = .next t ∧
      let r := tyre t p
      let k := (e.temperature + 273).toNat
      let gauge := (e.pressure * 293 + k / 2) / k - 101
      let t4 := s.tables.t4
      let g := t1AxleGroup s.tables.t1 (p.val / 4)
      let target := t4EmptyTarget t4 g +
        ((t4LadenTarget t4 g - t4EmptyTarget t4 g) * (estimate s g).ratio + 2048) / 4096
      let low := target * t4Low t4 / 4096
      let veryLow := target * t4VeryLow t4 / 4096
      let high := target * t4High t4 / 4096
      let old := if (tyre s p).state = .lost then [] else (tyre s p).history
      r.pressure = some e.pressure ∧ r.temperature = some e.temperature ∧ r.gauge = some gauge ∧
      r.target = some ⟨target, low, veryLow, high⟩ ∧ r.lastHeard = e.time ∧ r.lastCounter = some e.counter ∧
      r.batteryLow = e.batteryLow ∧ r.lastDrag = (tyre s p).lastDrag ∧
      (old = [] → r.history = [⟨e.time, gauge⟩] ∧ r.leak = 0) ∧
      (∀ newest, old.getLast? = some newest → (e.time - newest.time).toNat < 10000 → r.history = old) ∧
      (∀ newest, old.getLast? = some newest → 10000 ≤ (e.time - newest.time).toNat → old.length ≤ 4 →
        r.history = (if old.length = 4 then old.drop 1 else old) ++ [⟨e.time, gauge⟩]) ∧
      (∀ oldest ∈ r.history.head?, ∀ newest ∈ r.history.getLast?,
        let span := (newest.time - oldest.time).toNat
        r.leak = if 2 ≤ r.history.length ∧ 20000 ≤ span then (oldest.gauge - newest.gauge) * 60000 / span else 0) ∧
      ((tyre s p).state = .disabled → r.state = .disabled) ∧
      ((tyre s p).state ≠ .disabled →
        r.state = if t4Leak t4 ≤ r.leak ∨ e.fastLeak = true then .fastLeak else if gauge < veryLow then .veryLow
          else if (t4Hot t4 : Int) ≤ e.temperature then .hot else if gauge < low then .low
          else if high < gauge then .high else .ok) ∧
      (∀ j, j ≠ p → tyre t j = tyre s j) ∧ t.rx = { s.rx with queue := rest } ∧
      t.tyres = { s.tyres with
        records := t.tyres.records, derates := t.tyres.derates, readings := min (s.tyres.readings + 1) 65535
        marks := if e.overrunBefore then min (s.tyres.marks + 1) 65535 else s.tyres.marks } ∧
      (let raised := fun cause value => raisedAt s e.time cause ⟨.tyre, p.val⟩ value s.alerts
       let entered : Prop := r.state ≠ (tyre s p).state
       (¬entered → t.alerts = s.alerts ∧ t.tyres.derates = s.tyres.derates) ∧
       (entered →
         (r.state = .fastLeak → t.alerts = raised .tyreFastLeak r.leak) ∧
         (r.state = .veryLow → t.alerts = raised .tyreVeryLow gauge) ∧
         (r.state = .hot → t.alerts = raised .tyreHot e.temperature.toNat) ∧
         (r.state = .low → t.alerts = raised .tyreLow gauge) ∧
         (r.state = .high ∨ r.state = .ok → t.alerts = s.alerts) ∧
         ∀ g sd, (sidesGet t.tyres.derates g sd = true ↔ ∃ j : Position, t1AxleGroup s.tables.t1 (j.val / 4) = g ∧
           (if j.val % 4 < 2 then Side.left else .right) = sd ∧
           ((tyre t j).state = .veryLow ∨ (tyre t j).state = .fastLeak)))) ∧
      ChangesOnly [.rx, .tyres, .alerts] s t

/-- A learn-flagged entry of a sensor that is not the session's own is bound to the session's position (R114, R128, R129):
the map holds it there and nowhere else, every other slot is as before, and the unknown sensor list no longer holds it. The
record of a position that the sensor leaves starts afresh, ABSENT or DISABLED, with the present time as its last-heard time
(the model's reading, log 36). The record of the session's position starts afresh and takes the entry as its first reading
(R116 to R119), with the alert of the state entered at the entry's own time (R159); the derates are evaluated (R122). The
session ends, the map is marked unsaved, COMPLETED(BOUND) is placed with the tag held or lost at a queue of four, and the
store of block 3 is asked for: an IDLE store begins it unless the block is protected, and a busy one leaves it WAITING. -/
def Obligations.LearnTelegramIsBound : Prop :=
  ∀ (s : State) (e : Telegram) (rest : List Telegram) (l : Session), MapInv s → s.powered = true →
    s.rx.queue = e :: rest → s.tyres.session = some l → e.learn = true → gridGet s.tyres.map l.position ≠ some e.id →
    ∃ t, exec .telegramEntryTaken s = .next t ∧
      let p := l.position
      let r := tyre t p
      let k := (e.temperature + 273).toNat
      let gauge := (e.pressure * 293 + k / 2) / k - 101
      let t4 := s.tables.t4
      let g := t1AxleGroup s.tables.t1 (p.val / 4)
      let target := t4EmptyTarget t4 g +
        ((t4LadenTarget t4 g - t4EmptyTarget t4 g) * (estimate s g).ratio + 2048) / 4096
      let low := target * t4Low t4 / 4096
      let veryLow := target * t4VeryLow t4 / 4096
      let high := target * t4High t4 / 4096
      let state : TyreState := if t4Leak t4 = 0 ∨ e.fastLeak = true then .fastLeak else if gauge < veryLow then .veryLow
        else if (t4Hot t4 : Int) ≤ e.temperature then .hot else if gauge < low then .low
        else if high < gauge then .high else .ok
      let raised := fun cause value => raisedAt s e.time cause ⟨.tyre, p.val⟩ value s.alerts
      let idle : Prop := s.store.state = .idle
      let held : Prop := protectFlag s.store.protForce 3 = true
      (∀ j, gridGet t.tyres.map j = if j = p then some e.id
        else if gridGet s.tyres.map j = some e.id then none else gridGet s.tyres.map j) ∧
      (∀ j, quadGet t.tyres.unknown j = (quadGet s.tyres.unknown j).filter fun u => u.id != e.id) ∧
      r = { state := state, pressure := some e.pressure, temperature := some e.temperature, gauge := some gauge
            target := some ⟨target, low, veryLow, high⟩, leak := 0, lastHeard := e.time, lastCounter := some e.counter
            batteryLow := e.batteryLow, history := [⟨e.time, gauge⟩], lastDrag := none } ∧
      (∀ j, j ≠ p → gridGet s.tyres.map j = some e.id →
        tyre t j = tyreFresh (if t4PositionEnabled t4 j = true then .absent else .disabled) s.timeBase) ∧
      (∀ j, j ≠ p → gridGet s.tyres.map j ≠ some e.id → tyre t j = tyre s j) ∧
      (∀ g sd, (sidesGet t.tyres.derates g sd = true ↔ ∃ j : Position, t1AxleGroup s.tables.t1 (j.val / 4) = g ∧
        (if j.val % 4 < 2 then Side.left else .right) = sd ∧
        ((tyre t j).state = .veryLow ∨ (tyre t j).state = .fastLeak))) ∧
      t.tyres = { s.tyres with
        map := t.tyres.map, records := t.tyres.records, derates := t.tyres.derates, unknown := t.tyres.unknown
        session := none, unsaved := true, changedSinceStore := decide (¬idle ∨ held)
        waiting := s.tyres.waiting || decide ¬idle, readings := min (s.tyres.readings + 1) 65535
        marks := if e.overrunBefore then min (s.tyres.marks + 1) 65535 else s.tyres.marks } ∧
      (state = .fastLeak → t.alerts = raised .tyreFastLeak 0) ∧ (state = .veryLow → t.alerts = raised .tyreVeryLow gauge) ∧
      (state = .hot → t.alerts = raised .tyreHot e.temperature.toNat) ∧
      (state = .low → t.alerts = raised .tyreLow gauge) ∧ (state = .high ∨ state = .ok → t.alerts = s.alerts) ∧
      t.mgmt = (if s.mgmt.queue.length < 4
        then { s.mgmt with queue := s.mgmt.queue ++ [[responseFrame s 14 [l.tag, 2, 2]]] }
        else { s.mgmt with responsesLost := min (s.mgmt.responsesLost + 1) 65535 }) ∧
      (¬idle ∨ held → t.store = s.store) ∧
      (idle → ¬held → t.store = { s.store with
        state := .writing, ended := false, since := s.timeBase
        writing := some ⟨3, t4 ++ (gridList t.tyres.map).flatMap fun id => longBytes (id.getD 0)⟩ }) ∧
      t.rx = { s.rx with queue := rest } ∧ ChangesOnly [.rx, .tyres, .alerts, .mgmt, .store] s t

/-- CHECK_TIMER_EXPIRY after 1,000 ms (R112): the timer restarts; exactly the checked positions not heard within the LOST
time go to LOST, each with TYRE_LOST and the derates evaluated (R121, R122); a demand above 0 ends the zero-demand run
(R123); last drag times of 60 s end; and each position that then meets the conditions of R124 gives a drag event: an error
event of its serving channel, which faults it at its threshold (R52, R54), BRAKE_DRAG, and its last drag time. The run ends
before drag is looked for, and the check for LOST comes before that for drag: the model's choices (logs 59 and 71). Earlier
the command changes nothing (log 5). On a sample set the tyre table's own step starts the zero-demand run at a demand of 0,
leaves a running start as it is, and ends the run at a demand above 0; it changes nothing else (R123). -/
def Obligations.SilentPositionsGoLost : Prop :=
  (∀ u : State, tyresTakeSet u = { u with tyres := { u.tyres with
    zeroRun := if demandLevel u = 0 then some (u.tyres.zeroRun.getD u.timeBase) else none } }) ∧
  (∀ (s : State) (bytes : List Byte), AcceptsSet s bytes → ∃ t, exec (.sampleSetArrival bytes) s = .next t ∧
    t.tyres = { s.tyres with zeroRun := t.tyres.zeroRun } ∧
    let electric : Prop := s.link.state = .fresh ∨ s.link.state = .stale
    (demandLevel s = 0 → s.link.state = .nothing ∨ (electric ∧ s.link.demand = 0) →
      t.tyres.zeroRun = some (s.tyres.zeroRun.getD s.timeBase)) ∧
    (0 < demandLevel s → electric → 0 < s.link.demand → t.tyres.zeroRun = none)) ∧
  ∀ s : State, s.powered = true →
    ((s.timeBase - s.tyres.checkStart).toNat < 1000 → exec .checkTimerExpiry s = .next s) ∧
    (1000 ≤ (s.timeBase - s.tyres.checkStart).toNat → ∃ t, exec .checkTimerExpiry s = .next t ∧
      t.tyres.checkStart = s.timeBase ∧ t.tyres.map = s.tyres.map ∧
      (∀ p, (tyre t p).state =
        if (tyre s p).state ≠ .absent ∧ (tyre s p).state ≠ .disabled ∧ (tyre s p).state ≠ .lost ∧
          1000 * t4Lost s.tables.t4 ≤ (s.timeBase - (tyre s p).lastHeard).toNat then .lost else (tyre s p).state) ∧
      (∀ p, (tyre t p).history = (tyre s p).history ∧ (tyre t p).gauge = (tyre s p).gauge) ∧
      (let t1 := s.tables.t1
       let now := s.timeBase
       let past : Option Stamp → Nat → Bool := fun x ms => x.any fun x => ms ≤ (now - x).toNat
       let lost : Position → Prop := fun p => (tyre s p).state ≠ .lost ∧ (tyre t p).state = .lost
       let side : Position → Side := fun p => if p.val % 4 < 2 then .left else .right
       let served : Position → Channel → Prop := fun p c => t1Assigned t1 c = true ∧
         t1Group t1 c = t1AxleGroup t1 (p.val / 4) ∧ t1Side t1 c = side p
       let drags : Position → Channel → Prop := fun p c => (tyre s p).state = .hot ∧ ¬lost p ∧ demandLevel s = 0 ∧
         past s.tyres.zeroRun 30000 = true ∧ ((vehicleSpeed s).any fun v => 500 ≤ v) = true ∧
         ((tyre s p).lastDrag = none ∨ past (tyre s p).lastDrag 60000 = true) ∧ served p c ∧ ∀ d, d < c → ¬served p d
       let errors : Channel → Nat := fun c =>
         if ∃ p, drags p c then min ((chan s c).errors + (allPositions.filter fun p => decide (drags p c)).length) 15
         else (chan s c).errors
       let faults : Channel → Prop := fun c =>
         (chan s c).state ≠ .faulted ∧ (∃ p, drags p c) ∧ t1Threshold t1 ≤ errors c
       t.tyres.zeroRun = (if demandLevel s = 0 then s.tyres.zeroRun else none) ∧
       (∀ p, (tyre t p).lastDrag = if ∃ c, drags p c then some now
         else if past (tyre s p).lastDrag 60000 then none else (tyre s p).lastDrag) ∧
       (∀ c, (chan t c).errors = errors c ∧ (faults c → (chan t c).state = .faulted ∧ (chan t c).cause = some .counter) ∧
         (¬faults c → t1PolicyAll t1 = false ∨ (∀ d, ¬faults d) → chan t c = { chan s c with errors := errors c })) ∧
       ((∀ p, ¬lost p) → t.tyres.derates = s.tyres.derates) ∧
       ((∃ p, lost p) → ∀ g sd, (sidesGet t.tyres.derates g sd = true ↔ ∃ p : Position,
         t1AxleGroup t1 (p.val / 4) = g ∧ side p = sd ∧ ((tyre t p).state = .veryLow ∨ (tyre t p).state = .fastLeak))) ∧
       ((∀ c, ¬faults c) → t.store = s.store ∧ t.mgmt = s.mgmt ∧
         ((∀ p, ¬lost p) → (∀ p c, ¬drags p c) → t.alerts = s.alerts) ∧
         (∀ p, lost p → (∀ j, j ≠ p → ¬lost j) → (∀ j c, ¬drags j c) →
           t.alerts = raisedAt s now .tyreLost ⟨.tyre, p.val⟩ ((tyre s p).gauge.getD 0) s.alerts) ∧
         ∀ p c, drags p c → (∀ j, ¬lost j) → (∀ j d, drags j d → j = p) →
           t.alerts = raisedAt s now .brakeDrag ⟨.channel, c.val + 1⟩ p.val s.alerts)) ∧
      ChangesOnly [.tyres, .arbiter, .alerts, .mgmt, .store] s t)

/-- LEARN_POSITION(p, s) judged in the order of R127, CANCEL_LEARN, and the expiry of the session's timer; before its bound the
expiry changes nothing, the model's choice (log 5). -/
def Obligations.LearnSessionsOpenAndEnd : Prop :=
  (∀ (s : State) (q : ReqFrame) (tag : Byte), TakesRequest s q 4 tag →
    let n := dataByte q.data 1
    let sec := dataWord q.data 2
    let u := requestTaken s
    (15 < n ∨ sec < 10 ∨ 600 < sec → exec (.learnPosition q) s = .next (answer 14 tag (.refused .range) u)) ∧
    ∀ p : Position, n = p.val → 10 ≤ sec → sec ≤ 600 →
      (s.tyres.session.isSome = true → exec (.learnPosition q) s = .next (answer 14 tag (.refused .busy) u)) ∧
      (s.tyres.session = none → (tyre s p).state = .disabled →
        exec (.learnPosition q) s = .next (answer 14 tag (.refused .state) u)) ∧
      (s.tyres.session = none → (tyre s p).state ≠ .disabled → exec (.learnPosition q) s =
        .next (answer 14 tag .accepted { u with tyres := { s.tyres with
          session := some { position := p, start := s.timeBase, bound := 1000 * sec, tag := tag } } }))) ∧
  (∀ (s : State) (q : ReqFrame) (tag : Byte), TakesRequest s q 1 tag →
    (s.tyres.session = none → exec (.cancelLearn q) s = .next (answer 15 tag (.refused .state) (requestTaken s))) ∧
    ∀ l, s.tyres.session = some l → ∃ t, exec (.cancelLearn q) s = .next t ∧
      t.tyres = { s.tyres with session := none } ∧
      (s.mgmt.queue.length < 3 → t.mgmt.queue =
        s.mgmt.queue ++ [[responseFrame s 15 [tag, 0, 0]], [responseFrame s 14 [l.tag, 2, 4]]]) ∧
      ChangesOnly [.relay, .mgmt, .tyres] s t) ∧
  ∀ (s : State) (l : Session), s.powered = true → s.tyres.session = some l →
    ((s.timeBase - l.start).toNat < l.bound → exec .learnTimerExpiry s = .next s) ∧
    (l.bound ≤ (s.timeBase - l.start).toNat → exec .learnTimerExpiry s =
      .next (answer 14 l.tag (.completed .timeout) { s with tyres := { s.tyres with session := none } }))

/-! ### Link engine -/

/-- A fresh DEMAND frame (R138): STALE clear and a sequence other than the last accepted, in any demand state. The link record
takes the frame, the arbiter derives its demand, and one DEMAND frame with the received sequence is offered rearward. In LOST
the fail-safe state is evaluated again, and where it becomes NORMAL the channels in HOLD or BACKUP(FAILSAFE) go to START (R46,
R47); the channel clauses leave out a lost sample stream without FS_B, which no run reaches. -/
def Obligations.FreshDemandIsTaken : Prop :=
  ∀ (s : State) (f : LinkFrame), s.powered = true → 4 ≤ f.data.length → dataBit f.data 3 0 = false →
    s.link.lastSeq ≠ some (dataByte f.data 2 % 16) →
    ∃ t, exec (.demandFrame f) s = .next t ∧
      t.link = { s.link with
        demand := min (dataWord f.data 0) 1000, lastSeq := some (dataByte f.data 2 % 16)
        subReceived := dataBit f.data 3 2, lastFresh := some s.timeBase, lastFrame := some s.timeBase, fillCount := 0
        rearwardTimer := none, demandTimer := some ⟨s.timeBase, 25⟩, state := .fresh
        fresh := min (s.link.fresh + 1) 65535 } ∧
      t.relay = offerRear (.demand (chainPosition s) (dataByte f.data 2 % 16) false (dataBit f.data 3 2))
        (frontCounted s).relay ∧
      t.arbiter = { s.arbiter with
        channels := t.arbiter.channels, demand := min (dataWord f.data 0) 1000, source := .electric
        failSafe := if s.link.state = .lost then (if s.sample.loss = .lost then .fsB else .normal)
          else s.arbiter.failSafe } ∧
      (s.link.state ≠ .lost → t.arbiter.channels = s.arbiter.channels) ∧
      (s.arbiter.failSafe = .fsB ∨ s.sample.loss ≠ .lost → ChangesOnly [.link, .relay, .arbiter] s t ∧
        ∀ c,
          let r := chan s c
          let out : Prop := r.state = .hold ∨ (r.state = .backup ∧ r.reason = some .failsafe)
          chan t c = if s.link.state = .lost ∧ s.sample.loss ≠ .lost ∧ s.arbiter.failSafe ≠ .normal ∧ out
            then { r with state := .start, reason := none, holdTimer := none, deviation := none } else r)

/-- A DEMAND frame that is not fresh (R139) sets the last frame time and its count and nothing else; one too short for its
payload is malformed (R133). The front link is alive within 25 ms of the last frame. -/
def Obligations.OtherDemandFramesRefreshNothing : Prop :=
  (∀ (s : State) (f : LinkFrame), s.powered = true →
    (f.data.length < 4 → exec (.demandFrame f) s =
      .next { frontCounted s with link := { s.link with malformed := min (s.link.malformed + 1) 65535 } }) ∧
    (4 ≤ f.data.length → dataBit f.data 3 0 = true → exec (.demandFrame f) s =
      .next { frontCounted s with link := { s.link with
        lastFrame := some s.timeBase, staleFlagged := min (s.link.staleFlagged + 1) 65535 } }) ∧
    (4 ≤ f.data.length → dataBit f.data 3 0 = false → s.link.lastSeq = some (dataByte f.data 2 % 16) →
      exec (.demandFrame f) s = .next { frontCounted s with link := { s.link with
        lastFrame := some s.timeBase, repeats := min (s.link.repeats + 1) 65535 } })) ∧
  ∀ s : State, frontAlive s = true ↔ ∃ x, s.link.lastFrame = some x ∧ (s.timeBase - x).toNat ≤ 25

/-- A POSITION frame carrying n (R133 to R137, R156), at the front port: the placement of a part in LEARN mode by the rows of
R134, the check of a part in FIXED mode, the mismatch run with its one alert, the rear port following the placement (a HELD port
goes to FORWARDING unless REAR_OFF is set, and one in FORWARDING or NO_PARTNER goes back to HELD with its queue flushed and
counted, R156), and the part's own POSITION frame, offered after all of that. A speed of exactly 200 is in no row of R134 and
is left out here (log 26). -/
def Obligations.PositionFramesPlaceThePart : Prop :=
  ∀ (s : State) (f : LinkFrame), s.powered = true →
    (f.data = [] → exec (.positionFrame f) s =
      .next { frontCounted s with link := { s.link with malformed := min (s.link.malformed + 1) 65535 } }) ∧
    (f.data ≠ [] → (∀ own, s.link.position = some own → own ≤ 3) → s.link.strapPos ≤ 3 →
      ∃ t, exec (.positionFrame f) s = .next t ∧ ChangesOnly [.link, .relay, .alerts] s t ∧
      let n := dataByte f.data 0 % 16
      let l := s.link
      let counted := { l with positionFrames := min (l.positionFrames + 1) 65535 }
      let agrees : Prop := t.link = { counted with mismatchRun := false } ∧ t.alerts = s.alerts
      let mismatch : Prop :=
        t.link = { counted with mismatches := min (l.mismatches + 1) 65535, mismatchRun := true } ∧
        t.alerts = if l.mismatchRun then s.alerts
          else placeAlert s.timeBase ⟨.positionMismatch, ⟨.block, 8⟩, n, s.timeBase, false, false⟩ s.alerts
      (l.strapPos = 0 → l.position = none → n ≤ 2 →
        t.link = { counted with position := some (n + 1) } ∧ t.alerts = s.alerts) ∧
      (l.strapPos = 0 → l.position = none → 3 ≤ n → t.link = counted ∧ t.alerts = s.alerts) ∧
      (∀ own, l.strapPos = 0 → l.position = some own →
        (n + 1 = own → agrees) ∧
        (∀ v, vehicleSpeed s = some v → v < 200 → n ≤ 2 → n + 1 ≠ own →
          t.link = { counted with position := some (n + 1), mismatchRun := false } ∧ t.alerts = s.alerts) ∧
        (∀ v, vehicleSpeed s = some v → v < 200 → 3 ≤ n →
          t.link = { counted with position := none, mismatchRun := false } ∧ t.alerts = s.alerts) ∧
        (vehicleSpeed s = none ∨ (∃ v, vehicleSpeed s = some v ∧ 200 < v) → n + 1 ≠ own → mismatch)) ∧
      (l.strapPos ≠ 0 → (n + 1 = l.strapPos → agrees) ∧ (n + 1 ≠ l.strapPos → mismatch)) ∧
      let r := (frontCounted s).relay
      let n := r.rearward.length
      let placed := if l.position = none ∧ t.link.position ≠ none ∧ r.rear = .held ∧ r.rearOff = false
        then { r with rear := .forwarding }
        else if l.position ≠ none ∧ t.link.position = none ∧ (r.rear = .forwarding ∨ r.rear = .noPartner)
        then { r with
          rear := .held, rearward := [], flushed := min (r.flushed + n) 65535, drops := min (r.drops + n) 65535
          rearTx := r.rearTx.map fun x => { x with left := true } }
        else r
      t.relay = match t.link.position with
        | some m => offerRear (.frame (ownFrame 2 2 15 m 0 [byteOf m])) placed
        | none => placed)

/-- DEMAND_TIMER_EXPIRY by the rows of R140 and the entry to LOST of R141: FRESH goes to STALE with a fill frame at once, STALE
and NONE go to LOST with DEMAND_LOST, the capture record, the arbiter's fail-safe state, and a substitute frame at once when
the control line is valid. Where the fail-safe state becomes FS_A the channels move by its rows of R47, and in FS_B they stay; those
clauses leave out a lost sample stream without FS_B, which no run reaches. A timer that has not reached its bound changes
nothing (log 5). -/
def Obligations.DemandTimerMovesTheState : Prop :=
  ∀ s : State, s.powered = true →
    (s.link.demandTimer = none → exec .demandTimerExpiry s = .next s) ∧
    ∀ tm, s.link.demandTimer = some tm →
      ((s.timeBase - tm.start).toNat < tm.bound → exec .demandTimerExpiry s = .next s) ∧
      (tm.bound ≤ (s.timeBase - tm.start).toNat → s.link.state = .fresh →
        exec .demandTimerExpiry s = .next { s with
          link := { s.link with
            state := .stale, demandTimer := some ⟨tm.start, 250⟩, rearwardTimer := some s.timeBase
            fillCount := s.link.fillCount + 1, fills := min (s.link.fills + 1) 65535 }
          arbiter := { s.arbiter with demand := s.link.demand, source := .electric }
          relay := offerRear (.demand (chainPosition s) (s.link.lastSeq.getD 0) true s.link.subReceived) s.relay }) ∧
      (tm.bound ≤ (s.timeBase - tm.start).toNat → s.link.state = .stale ∨ s.link.state = .nothing →
        ∃ t, exec .demandTimerExpiry s = .next t ∧
          let valid := inputValid s inputControl
          let first := (s.link.lastSeq.map fun n => (n + 1) % 16).getD 0
          t.link = { s.link with
            state := .lost, demandTimer := none, lostEntries := min (s.link.lostEntries + 1) 65535
            rearwardTimer := some s.timeBase, subSeq := if valid then (first + 1) % 16 else first
            subs := if valid then min (s.link.subs + 1) 65535 else s.link.subs
            subsSkipped := if valid then s.link.subsSkipped else min (s.link.subsSkipped + 1) 65535 } ∧
          t.relay = (if valid then offerRear (.demand (chainPosition s) first false true) s.relay else s.relay) ∧
          t.arbiter = { s.arbiter with
            channels := t.arbiter.channels, failSafe := if s.sample.loss = .lost then .fsB else .fsA
            demand := (reading s inputControl).getD 0, source := if valid then .controlLine else .nothing } ∧
          t.alerts.capture.isSome = true ∧
          (s.alerts.capture = none → t.alerts.capture.map (fun k => (k.kind, k.subject, k.time)) =
            some (.demandLost, ⟨.block, 8⟩, s.timeBase)) ∧
          (s.sample.loss ≠ .lost ∨ s.arbiter.failSafe = .fsB →
            t.alerts.queue = (placeAlert s.timeBase
              ⟨.demandLost, ⟨.block, 8⟩, if frontAlive s then 1 else 0, s.timeBase, false, false⟩ s.alerts).queue ∧
            ChangesOnly [.link, .relay, .arbiter, .alerts] s t ∧
            ∀ c,
              let r := chan s c
              let out : Prop := r.state = .hold ∨ (r.state = .backup ∧ r.reason = some .failsafe)
              let moved := fun (st : ChanState) (reason : Option BackupReason) =>
                { r with state := st, reason := reason, holdTimer := none, deviation := none }
              chan t c = if s.sample.loss = .lost ∨ s.arbiter.failSafe = .fsA then r
                else if t1FsaBackup s.tables.t1 c = true then
                  if r.state = .active ∨ out then moved .backup (some .failsafe) else r
                else if out then moved .start none else r))

/-- REARWARD_TIMER_EXPIRY every 10 ms in STALE and LOST (R142): a fill frame, a substitute frame, or a substitute skipped while
the control line is not valid; the timer restarts. Before the 10 ms the command changes nothing (log 5). -/
def Obligations.RearwardTimerSendsFillsAndSubstitutes : Prop :=
  ∀ s : State, s.powered = true →
    (s.link.rearwardTimer = none → exec .rearwardTimerExpiry s = .next s) ∧
    ∀ st, s.link.rearwardTimer = some st →
      ((s.timeBase - st).toNat < 10 → exec .rearwardTimerExpiry s = .next s) ∧
      (10 ≤ (s.timeBase - st).toNat → s.link.state = .stale → exec .rearwardTimerExpiry s = .next { s with
        link := { s.link with
          rearwardTimer := some s.timeBase, fillCount := s.link.fillCount + 1, fills := min (s.link.fills + 1) 65535 }
        relay := offerRear (.demand (chainPosition s) (s.link.lastSeq.getD 0) true s.link.subReceived) s.relay }) ∧
      (10 ≤ (s.timeBase - st).toNat → s.link.state = .lost → inputValid s inputControl = true →
        exec .rearwardTimerExpiry s = .next { s with
          link := { s.link with
            rearwardTimer := some s.timeBase, subSeq := (s.link.subSeq + 1) % 16, subs := min (s.link.subs + 1) 65535 }
          relay := offerRear (.demand (chainPosition s) s.link.subSeq false true) s.relay }) ∧
      (10 ≤ (s.timeBase - st).toNat → s.link.state = .lost → inputValid s inputControl = false →
        exec .rearwardTimerExpiry s = .next { s with link := { s.link with
          rearwardTimer := some s.timeBase, subsSkipped := min (s.link.subsSkipped + 1) 65535 } })

/-- REAR_HANDOVER (R155) takes the oldest frame of the rearward queue; a DEMAND frame's value and RAISED flag are fixed then
(R143), and the value is at least the driver demand in use (R144). A port that is not ready is handed nothing, the model's
choice (log 5), as is the source position of a DEMAND frame, kept from its offer (log 29). -/
def Obligations.RearHandoverCarriesTheDemand : Prop :=
  ∀ s : State, s.powered = true →
    (s.relay.rear = .held ∨ s.relay.rear = .isolated ∨ s.relay.rearTx ≠ none ∨ s.relay.isolation ≠ none ∨
      s.relay.rearward = [] → exec .rearHandover s = .next s) ∧
    ∀ i rest, s.relay.rear = .forwarding ∨ s.relay.rear = .noPartner → s.relay.rearTx = none →
      s.relay.isolation = none → s.relay.rearward = i :: rest →
      ∃ f, exec .rearHandover s =
          .next { s with relay := { s.relay with rearward := rest, rearTx := some ⟨i, f, false⟩ } } ∧
        (∀ g, i = .frame g → f = g) ∧
        ∀ source seq stale substitute, i = .demand source seq stale substitute → PressureInv s → source ≤ 15 → seq ≤ 15 →
          dataWord f.data 0 = max (demandLevel s) s.roll.stretch ∧ demandLevel s ≤ dataWord f.data 0 ∧
          (dataBit f.data 3 1 = true ↔ demandLevel s < s.roll.stretch) ∧
          f.data.length = 4 ∧ dataByte f.data 2 = seq ∧ dataBit f.data 3 0 = stale ∧ dataBit f.data 3 2 = substitute ∧
          f.extended = true ∧ frameClass f = 1 ∧ frameDest f = 15 ∧ frameSource f = source ∧ framePriority f = 1 ∧
          frameSubcode f = 0

/-! ### Relay -/

/-- FRAME_ARRIVAL at either port by the table of R149, and at an isolated rear port (R157), where every frame is dropped before
it is judged by its identifier (log 28). That the management engine takes a broadcast request before it is offered rearward is
the model's choice (log 35). The frames passed on are those the other statements take up. -/
def Obligations.ArrivalsAreHandledByPortAndClass : Prop :=
  ∀ (s : State) (f : CanFrame), s.powered = true →
    let u := frontCounted s
    let v := rearCounted s
    let k := frameClass f
    (f.extended = false → exec (.frameArrival .front f) s =
      .next { u with relay := { u.relay with frontShort := min (s.relay.frontShort + 1) 65535 } }) ∧
    (f.extended = true →
      (k = 1 → exec (.frameArrival .front f) s = exec (.demandFrame (linkFrameOf f)) s) ∧
      (k = 2 → exec (.frameArrival .front f) s = exec (.positionFrame (linkFrameOf f)) s) ∧
      (k = 5 → frameDest f = 15 → exec (.frameArrival .front f) s =
        .next ((engineTakes f u).onRelay (offerRear (.frame f)))) ∧
      (k = 5 → frameDest f ≠ 15 → frameDest f = chainPosition s →
        exec (.frameArrival .front f) s = .next (engineTakes f u)) ∧
      (k = 5 → frameDest f ≠ 15 → chainPosition s < frameDest f →
        exec (.frameArrival .front f) s = .next { u with relay := offerRear (.frame f) u.relay }) ∧
      ((k = 5 ∧ frameDest f ≠ 15 ∧ frameDest f < chainPosition s) ∨ k = 3 ∨ k = 4 ∨ k = 6 ∨ k = 0 →
        exec (.frameArrival .front f) s =
          .next { u with relay := { u.relay with misdirected := min (s.relay.misdirected + 1) 65535 } })) ∧
    (s.relay.rear ≠ .isolated → f.extended = false → exec (.frameArrival .rear f) s =
      .next { v with relay := { v.relay with rearShort := min (s.relay.rearShort + 1) 65535 } }) ∧
    (s.relay.rear ≠ .isolated → f.extended = true →
      (k = 3 ∨ k = 4 ∨ k = 6 → exec (.frameArrival .rear f) s = .next { v with relay := placeRelayed f v.relay }) ∧
      (k = 0 ∨ k = 1 ∨ k = 2 ∨ k = 5 → exec (.frameArrival .rear f) s =
        .next { v with relay := { v.relay with wrongDirection := min (s.relay.wrongDirection + 1) 65535 } })) ∧
    (s.relay.rear = .isolated → exec (.frameArrival .rear f) s =
      .next { v with relay := { v.relay with
        isolatedDrop := min (s.relay.isolatedDrop + 1) 65535, drops := min (s.relay.drops + 1) 65535 } })

/-- A generic frame is judged by the first slot of a valid T6 that matches it (R150): that slot's match count rises, its action
is applied, and a demoted frame changes in its priority alone; a frame that no slot matches is forwarded. -/
def Obligations.GenericFramesFollowTheFirstMatch : Prop :=
  ∀ (s : State) (port : Port) (f : CanFrame), s.powered = true → tableCheck 6 s.tables.t6 = none → f.extended = true →
    7 ≤ frameClass f → (port = .rear → s.relay.rear ≠ .isolated) →
    let t6 := s.tables.t6
    let u := if port = .front then frontCounted s else rearCounted s
    let forward := fun (g : CanFrame) (r : Relay) => if port = .front then offerRear (.frame g) r else placeRelayed g r
    let hit : Nat → Prop := fun i => t6Used t6 i = true ∧
      (t6Direction t6 i = 2 ∨ (t6Direction t6 i = 0 ∧ port = .front) ∨ (t6Direction t6 i = 1 ∧ port = .rear)) ∧
      (t6Class t6 i = 0 ∨ t6Class t6 i = frameClass f) ∧ (t6Dest t6 i = 255 ∨ t6Dest t6 i = frameDest f)
    (∀ i, i < 24 → hit i → (∀ j, j < i → ¬hit j) →
      let r := { u.relay with
        matchCounts := s.relay.matchCounts.set i (min (s.relay.matchCounts.getD i 0 + 1) 65535) }
      (t6Action t6 i = 0 → exec (.frameArrival port f) s = .next { u with relay := forward f r }) ∧
      (t6Action t6 i = 1 → exec (.frameArrival port f) s =
        .next { u with relay := { r with routedDrop := min (s.relay.routedDrop + 1) 65535 } }) ∧
      (t6Action t6 i = 2 → ∃ g, exec (.frameArrival port f) s = .next { u with relay := forward g r } ∧
        framePriority g = max (framePriority f) (t6Demoted t6 i) ∧ frameClass g = frameClass f ∧
        frameDest g = frameDest f ∧ frameSource g = frameSource f ∧ frameSubcode g = frameSubcode f ∧
        g.extended = f.extended ∧ g.data = f.data) ∧
      t6Action t6 i ≤ 2) ∧
    ((∀ i, i < 24 → ¬hit i) → exec (.frameArrival port f) s =
      .next { u with relay := forward f { u.relay with unmatched := min (s.relay.unmatched + 1) 65535 } })

/-- A frame arriving for the relayed queue (R152), by room, class and what is in transmission. -/
def Obligations.RelayedQueueKeepsAlerts : Prop :=
  ∀ (f : CanFrame) (r : Relay),
    let placed := placeRelayed f r
    let dropped := min (r.drops + 1) 65535
    (r.relayed.length < 16 → placed = { r with relayed := r.relayed ++ [⟨f, false⟩] }) ∧
    (16 ≤ r.relayed.length → frameClass f ≠ 3 →
      placed = { r with relayedRoutineFull := min (r.relayedRoutineFull + 1) 65535, drops := dropped }) ∧
    (16 ≤ r.relayed.length → frameClass f = 3 → ∀ older e newer, r.relayed = older ++ e :: newer →
      frameClass e.frame ≠ 3 → e.inTx = false → (∀ x ∈ older, frameClass x.frame = 3 ∨ x.inTx = true) →
      placed = { r with
        relayed := older ++ newer ++ [⟨f, false⟩], displaced := min (r.displaced + 1) 65535, drops := dropped }) ∧
    (16 ≤ r.relayed.length → frameClass f = 3 → (∀ x ∈ r.relayed, frameClass x.frame = 3 ∨ x.inTx = true) →
      placed = { r with relayedAlertFull := min (r.relayedAlertFull + 1) 65535, drops := dropped }) ∧
    (r.relayed.length ≤ 16 → placed.relayed.length ≤ 16)

/-- An offer to the rearward queue (R154), judged by the rear port state and placed by the five cases. -/
def Obligations.RearwardOffersAreJudged : Prop :=
  ∀ (i : RearItem) (r : Relay),
    let after := offerRear i r
    let dropped := min (r.drops + 1) 65535
    let position : Prop := ∃ f, i = .frame f ∧ frameClass f = 2
    let accepted : Prop := r.rear = .forwarding ∨ (r.rear = .noPartner ∧ (isDemandItem i = true ∨ position))
    (¬accepted → after = { r with rearRefused := min (r.rearRefused + 1) 65535, drops := dropped }) ∧
    (accepted →
      (isDemandItem i = true → ∀ older d newer, r.rearward = older ++ d :: newer → isDemandItem d = true →
        (∀ x ∈ older ++ newer, isDemandItem x = false) →
        after = { r with rearward := older ++ i :: newer, demandReplaced := min (r.demandReplaced + 1) 65535 }) ∧
      (isDemandItem i = true → (∀ x ∈ r.rearward, isDemandItem x = false) →
        (r.rearward.length < 8 → after = { r with rearward := r.rearward ++ [i] }) ∧
        (8 ≤ r.rearward.length → after = { r with
          rearward := r.rearward.drop 1 ++ [i], rearFull := min (r.rearFull + 1) 65535, drops := dropped })) ∧
      (isDemandItem i = false →
        (r.rearward.length < 8 → after = { r with rearward := r.rearward ++ [i] }) ∧
        (8 ≤ r.rearward.length →
          after = { r with rearFull := min (r.rearFull + 1) 65535, drops := dropped }))) ∧
    (r.rearward.length ≤ 8 → r.rearward.countP isDemandItem ≤ 1 →
      after.rearward.length ≤ 8 ∧ after.rearward.countP isDemandItem ≤ 1)

/-- FRONT_HANDOVER by the ranks of R153: an own alert, the oldest relayed alert, a response, the oldest relayed frame, STATUS-1
and then STATUS-2; what is handed over is marked as in transmission where it stands, and an own alert's frame is composed
(R163). A port that is not free is handed nothing, and with nothing to hand over nothing changes: the model's choice (log
5). -/
def Obligations.FrontPortIsHandedByRank : Prop :=
  ∀ s : State, s.powered = true → (∀ e ∈ s.mgmt.queue, e ≠ []) →
    let out := exec .frontHandover s
    let sent := fun (r : Relay) (source : FrontSource) (f : CanFrame) => { r with frontTx := some ⟨source, f⟩ }
    let noAlert : Prop := ∀ x ∈ s.relay.relayed, frameClass x.frame ≠ 3
    (s.relay.frontTx ≠ none → out = .next s) ∧
    (s.relay.frontTx = none →
      (∀ e rest, s.alerts.queue = e :: rest → ∃ f, out = .next { s with
          alerts := { s.alerts with queue := { e with inTx := true } :: rest }, relay := sent s.relay .ownAlert f } ∧
        f.extended = true ∧ framePriority f = 3 ∧ frameClass f = 3 ∧ frameDest f = 0 ∧
        (chainPosition s ≤ 15 → frameSource f = chainPosition s) ∧ (frameSubcode f).toNat = causeCode e.cause ∧
        f.data = [byteOf (subjectKindCode e.subject.kind), byteOf e.subject.number] ++ wordBytes e.value) ∧
      (s.alerts.queue = [] →
        (∀ older e newer, s.relay.relayed = older ++ e :: newer → frameClass e.frame = 3 →
          (∀ x ∈ older, frameClass x.frame ≠ 3) → out = .next { s with
            relay := sent { s.relay with relayed := older ++ { e with inTx := true } :: newer } .relayed e.frame }) ∧
        (∀ f frames rest, noAlert → s.mgmt.queue = (f :: frames) :: rest →
          out = .next { s with relay := sent s.relay .response f }) ∧
        (∀ e newer, noAlert → s.mgmt.queue = [] → s.relay.relayed = e :: newer → out = .next { s with
          relay := sent { s.relay with relayed := { e with inTx := true } :: newer } .relayed e.frame }) ∧
        (s.mgmt.queue = [] → s.relay.relayed = [] →
          (s.alerts.slot = none → out = .next s) ∧
          ∀ p, s.alerts.slot = some p →
            (p.sent1 = false → out = .next { s with
              alerts := { s.alerts with slot := some { p with inTx := true } },
              relay := sent s.relay .status1 p.first }) ∧
            (p.sent1 = true → p.sent2 = false → out = .next { s with
              alerts := { s.alerts with slot := some { p with inTx := true } },
              relay := sent s.relay .status2 p.second }) ∧
            (p.sent1 = true → p.sent2 = true → out = .next s))))

/-- FRONT_HANDOVER_OUTCOME (R153) at the queue or slot the frame came from: an own alert (R162), a relayed frame, a response
entry (R168), a status frame (R164). With no frame in transmission the command changes nothing, the model's choice (log
5). -/
def Obligations.FrontOutcomesRemoveOrKeep : Prop :=
  ∀ (s : State) (acked : Bool), s.powered = true →
    let out := exec (.frontHandoverOutcome acked) s
    let relay := { s.relay with
      frontTx := none, frontUnacked := if acked then s.relay.frontUnacked else min (s.relay.frontUnacked + 1) 65535 }
    (s.relay.frontTx = none → out = .next s) ∧
    ∀ tx, s.relay.frontTx = some tx →
      (tx.source = .ownAlert → ∀ before e after, s.alerts.queue = before ++ e :: after → e.inTx = true →
        (∀ x ∈ before ++ after, x.inTx = false) → out = .next { s with relay := relay, alerts := { s.alerts with
          queue := if acked = true ∧ e.updated = false then before ++ after
            else before ++ { e with inTx := false, updated := false } :: after } }) ∧
      (tx.source = .ownAlert → (∀ x ∈ s.alerts.queue, x.inTx = false) → out = .next { s with relay := relay }) ∧
      (tx.source = .relayed → ∀ older e newer, s.relay.relayed = older ++ e :: newer → e.inTx = true →
        (∀ x ∈ older ++ newer, x.inTx = false) → out = .next { s with relay := { relay with
          relayed := if acked then older ++ newer else older ++ { e with inTx := false } :: newer } }) ∧
      (tx.source = .response → ∀ f frames rest, s.mgmt.queue = (f :: frames) :: rest →
        out = .next { s with relay := relay, mgmt := { s.mgmt with
          queue := if acked then (if frames = [] then rest else frames :: rest) else s.mgmt.queue } }) ∧
      (tx.source = .status1 → ∀ p, s.alerts.slot = some p → out = .next { s with relay := relay, alerts :=
        if p.inTx then { s.alerts with slot := some { p with sent1 := p.sent1 || acked, inTx := false } }
          else s.alerts }) ∧
      (tx.source = .status2 → ∀ p, s.alerts.slot = some p → out = .next { s with relay := relay, alerts :=
        if p.inTx then { s.alerts with slot := some { p with sent2 := p.sent2 || acked, inTx := false } }
          else s.alerts })

/-- REAR_HANDOVER_OUTCOME by the table of R155 and the text below it, no isolation pending. A DEMAND frame that returns to a
full queue without one is left out (log 27). The model's choices: an acknowledgement outside FORWARDING and NO_PARTNER leaves
the run as it is (log 27), a failure at a port that has left FORWARDING and NO_PARTNER and come back raises the run (log 60),
and with no frame in transmission nothing changes (log 5). -/
def Obligations.RearOutcomesFollowTheRun : Prop :=
  ∀ (s : State) (acked : Bool), s.powered = true →
    let out := exec (.rearHandoverOutcome acked) s
    (s.relay.rearTx = none → out = .next s) ∧
    ∀ tx, s.relay.rearTx = some tx → s.relay.isolation = none →
      let r := { s.relay with rearTx := none }
      let dropped := min (r.drops + 1) 65535
      let discarded := { r with rearDiscard := min (r.rearDiscard + 1) 65535, drops := dropped }
      (acked = true → r.rear = .forwarding ∨ r.rear = .noPartner →
        out = .next { s with relay := { r with run := 0, rear := .forwarding } }) ∧
      (acked = true → r.rear = .held ∨ r.rear = .isolated → out = .next { s with relay := r }) ∧
      (acked = false → r.rear = .noPartner ∨ r.rear = .held ∨ r.rear = .isolated →
        out = .next { s with relay := discarded }) ∧
      (acked = false → r.rear = .forwarding → r.run ≤ 1 → tx.left = true →
        out = .next { s with relay := { discarded with run := r.run + 1 } }) ∧
      (acked = false → r.rear = .forwarding → r.run ≤ 1 → tx.left = false →
        (isDemandItem tx.item = true → r.rearward.any isDemandItem = true → out = .next { s with relay := { r with
          run := r.run + 1, demandReplaced := min (r.demandReplaced + 1) 65535 } }) ∧
        (isDemandItem tx.item = false ∨ r.rearward.any isDemandItem = false → r.rearward.length < 8 →
          out = .next { s with relay := { r with run := r.run + 1, rearward := tx.item :: r.rearward } }) ∧
        (isDemandItem tx.item = false → 8 ≤ r.rearward.length → out = .next { s with relay := { r with
          run := r.run + 1, rearFull := min (r.rearFull + 1) 65535, drops := dropped } })) ∧
      (acked = false → r.rear = .forwarding → r.run = 2 →
        let kept := r.rearward.filter isLinkItem
        let lost := r.rearward.length - kept.length
        out = .next { s with relay := { discarded with
          run := 3, rear := .noPartner, rearward := kept, flushed := min (r.flushed + lost) 65535
          drops := min (r.drops + 1 + lost) 65535 } })

/-- ISOLATE_REAR and RESUME_REAR (R157), and the outcome of a hand-over in progress while an isolation is pending. -/
def Obligations.IsolationCutsTheRearOff : Prop :=
  (∀ (s : State) (q : ReqFrame) (tag : Byte), TakesRequest s q 1 tag →
    let u := requestTaken s
    let r := u.relay
    let n := r.rearward.length
    (r.rear = .isolated → exec (.isolateRear q) s = .next (answer 16 tag .done u)) ∧
    (r.rear ≠ .isolated → r.isolation ≠ none → exec (.isolateRear q) s = .next (answer 16 tag (.refused .busy) u)) ∧
    (r.rear ≠ .isolated → r.isolation = none → r.rearTx = none → exec (.isolateRear q) s =
      .next (answer 16 tag .done { u with relay := { r with
        rear := .isolated, rearward := [], flushed := min (r.flushed + n) 65535, drops := min (r.drops + n) 65535 } })) ∧
    (r.rear ≠ .isolated → r.isolation = none → r.rearTx ≠ none → exec (.isolateRear q) s =
      .next (answer 16 tag .accepted { u with relay := { r with isolation := some tag } })) ∧
    (r.rear = .isolated → exec (.resumeRear q) s = .next (answer 17 tag .done { u with relay := { r with
      rear := if s.link.position.isSome = true ∧ r.rearOff = false then .forwarding else .held, run := 0 } })) ∧
    (∀ held, r.rear ≠ .isolated → r.isolation = some held → exec (.resumeRear q) s =
      .next (answer 17 tag .done (answer 16 held (.completed .cancelled)
        { u with relay := { r with isolation := none } }))) ∧
    (r.rear ≠ .isolated → r.isolation = none → exec (.resumeRear q) s =
      .next (answer 17 tag (.refused .state) u))) ∧
  ∀ (s : State) (tx : RearTx) (held : Byte) (acked : Bool), s.powered = true → s.relay.rearTx = some tx →
    s.relay.isolation = some held → ∃ t, exec (.rearHandoverOutcome acked) s = .next t ∧
      t.relay.rear = .isolated ∧ t.relay.rearTx = none ∧ t.relay.isolation = none ∧ t.relay.rearward = [] ∧
      t.relay.flushed = min (s.relay.flushed + s.relay.rearward.length) 65535 ∧
      t.relay.rearDiscard = (if acked then s.relay.rearDiscard else min (s.relay.rearDiscard + 1) 65535) ∧
      (s.mgmt.queue.length < 4 → t.mgmt.queue = s.mgmt.queue ++ [[responseFrame s 16 [held, 2, 0]]]) ∧
      ChangesOnly [.relay, .mgmt] s t

/-! ### Alert composer -/

/-- A raise placed in an own alert queue whose entries stand in the order of R161, no two of one cause and subject, by the first
of its four cases; the queue stays so. Times of raising are compared by their age, the model's choice (log 37). -/
def Obligations.RaisesArePlacedByPriority : Prop :=
  (∀ (s : State) (cause : Cause) (subject : Subject) (value : Nat), raiseAlert cause subject value s =
    { s with alerts := placeAlert s.timeBase ⟨cause, subject, value, s.timeBase, false, false⟩ s.alerts }) ∧
  ∀ (now : Stamp) (new : Alert) (a : Alerts),
    let first : Alert → Alert → Prop := fun x y => causeCode x.cause < causeCode y.cause ∨
      (causeCode x.cause = causeCode y.cause ∧ (now - y.time).toNat ≤ (now - x.time).toNat)
    let same : Alert → Alert → Prop := fun x y => x.cause = y.cause ∧ x.subject = y.subject
    let b := placeAlert now new a
    let placedIn : List Alert → Prop := fun q => ∃ before after, q = before ++ after ∧
      b.queue = before ++ new :: after ∧ (∀ x ∈ before, first x new) ∧ (∀ x ∈ after, ¬first x new)
    let lost := min (a.lost + 1) 65535
    a.queue.Pairwise first → a.queue.Pairwise (fun x y => ¬same x y) → a.queue.length ≤ 4 →
    (∀ before e after, a.queue = before ++ e :: after → same e new → b = { a with
      queue := before ++ { e with value := new.value, updated := e.updated || e.inTx } :: after }) ∧
    ((∀ e ∈ a.queue, ¬same e new) →
      (a.queue.length < 4 → placedIn a.queue ∧ b = { a with queue := b.queue }) ∧
      (a.queue.length = 4 → ∀ before e after, a.queue = before ++ e :: after → e.inTx = false →
        (∀ x ∈ before, x.inTx = true ∨ causeCode x.cause ≤ causeCode e.cause) →
        (∀ x ∈ after, x.inTx = true ∨ causeCode x.cause < causeCode e.cause) →
        (causeCode new.cause < causeCode e.cause →
          placedIn (before ++ after) ∧ b = { a with queue := b.queue, lost := lost }) ∧
        (causeCode e.cause ≤ causeCode new.cause → b = { a with lost := lost })) ∧
      (a.queue.length = 4 → (∀ e ∈ a.queue, e.inTx = true) → b = { a with lost := lost })) ∧
    b.queue.Pairwise first ∧ b.queue.Pairwise (fun x y => ¬same x y) ∧ b.queue.length ≤ 4

/-- STATUS_TIMER_EXPIRY after 100 ms (R164): a new pair, both frames unsent, replaces the one in the slot, and its words
hold the fields of R165 where 12.1 places them. The worst tyre state is the one that ranks first of FAST_LEAK, VERY_LOW,
HOT, LOW, LOST, HIGH, NO_DATA and OK, shown with the lowest position that has it; with every position ABSENT or DISABLED it
is ABSENT with position 0 (R131). Earlier the command changes nothing (log 5). -/
def Obligations.StatusPairIsComposedEvery100Ms : Prop :=
  ∀ s : State, s.powered = true →
    ((s.timeBase - s.alerts.statusStart).toNat < 100 → exec .statusTimerExpiry s = .next s) ∧
    (100 ≤ (s.timeBase - s.alerts.statusStart).toNat → ∃ p, exec .statusTimerExpiry s = .next { s with
        alerts := { s.alerts with
          statusStart := s.timeBase, slot := some p
          superseded := if (s.alerts.slot.map fun q => !(q.sent1 && q.sent2)) = some true
            then min (s.alerts.superseded + 1) 65535 else s.alerts.superseded } } ∧
      p.sent1 = false ∧ p.sent2 = false ∧ p.inTx = false ∧
      (∀ f, f = p.first ∨ f = p.second → f.extended = true ∧ framePriority f = 6 ∧ frameClass f = 4 ∧ frameDest f = 0 ∧
        (chainPosition s ≤ 15 → frameSource f = chainPosition s) ∧ f.data.length = 8) ∧
      frameSubcode p.first = 1 ∧ frameSubcode p.second = 2 ∧
      let w := dataWord p.first.data
      let x := dataWord p.second.data
      (∀ e k, (k = 0 ∧ e = s.load.a) ∨ (k = 2 ∧ e = s.load.b) →
        w k = e.load % 8192 + (if e.state = .valid then 32768 else 0)) ∧
      dataByte p.first.data 4 = supplyStateCode s.air.state + 16 * rollStateCode s.roll.state ∧
      dataByte p.first.data 5 = failSafeCode s.arbiter.failSafe ∧
      w 6 = chanStateCode (chan s 0).state + 16 * chanStateCode (chan s 1).state +
        256 * chanStateCode (chan s 2).state + 4096 * chanStateCode (chan s 3).state ∧
      let ranking : List TyreState := [.fastLeak, .veryLow, .hot, .low, .lost, .high, .noData, .ok]
      let rank : Position → Nat := fun j => ranking.idxOf (tyre s j).state
      ∃ (worst : TyreState) (at' : Nat),
      ((∀ j, rank j = 8) → worst = .absent ∧ at' = 0) ∧
      (∀ i, rank i < 8 → ∃ j : Position, at' = j.val ∧ worst = (tyre s j).state ∧
        (rank j < rank i ∨ (rank j = rank i ∧ j ≤ i))) ∧
      (PressureInv s →
        x 0 = inputValue s inputReservoir + (if inputValid s inputReservoir then 2048 else 0) + 4096 * at' ∧
        x 2 = inputValue s inputSupply + (if inputValid s inputSupply then 2048 else 0) +
          4096 * demandSourceCode s.arbiter.source + (if s.load.a.overload then 16384 else 0) +
          (if s.load.b.overload then 32768 else 0) ∧
        x 4 = demandLevel s + 4096 * tyreStateCode worst) ∧
      dataByte p.second.data 6 = min s.alerts.lost 255 ∧ dataByte p.second.data 7 = min s.relay.drops 255)

/-- The fault capture record (R166, R167): once filled, no command but CLEAR_CAPTURE and a power-on reset changes it (POWER_LOSS
aside, which leaves no volatile state: log 6); a request fills an empty record with the values in force and counts at a
filled one; CLEAR_CAPTURE empties it and its count. -/
def Obligations.CaptureChangesOnlyWhenCleared : Prop :=
  (∀ (c : Instr) (s t : State) (k : Capture), exec c s = .next t → s.alerts.capture = some k →
    c ≠ .powerOnReset → c ≠ .powerLoss → requestCodeOf c ≠ some 13 → t.alerts.capture = some k) ∧
  (∀ (s : State) (q : ReqFrame) (tag : Byte), TakesRequest s q 1 tag → exec (.clearCapture q) s =
    .next (answer 13 tag .done { requestTaken s with
      alerts := { s.alerts with capture := none, sinceCapture := 0 } })) ∧
  ∀ (s : State) (kind : CaptureKind) (c : Channel),
    let filled : Capture := {
      kind := kind, subject := ⟨.channel, c.val + 1⟩, time := s.timeBase
      demand := if s.arbiter.source = .nothing then 0 else s.arbiter.demand
      commanded := if (chan s c).cmdPressure then (chan s c).cmdTarget else 0, delivered := (chan s c).delivered
      supply := (input s inputSupply).value.toNat, supplyValid := inputValid s inputSupply
      reservoir := (input s inputReservoir).value.toNat, reservoirValid := inputValid s inputReservoir
      roll := s.roll.state }
    (∀ k, s.alerts.capture = some k → fillCaptureChannel kind c s =
      { s with alerts := { s.alerts with sinceCapture := min (s.alerts.sinceCapture + 1) 255 } }) ∧
    (s.alerts.capture = none →
      fillCaptureChannel kind c s = { s with alerts := { s.alerts with capture := some filled } })

/-! ### Management engine -/

/-- A request is a frame of its code at the front port (R149), and a frame the management engine takes is judged in the order
of R168: no tag, unknown code, too short for its arguments, broadcast. A broadcast frame is offered rearward as well, after
the engine has taken it (log 35). An answer is a new entry of the own response queue, or is lost at a queue of four; that the
source position of its frame is the chain position at that moment is the model's choice (log 29). -/
def Obligations.RequestsAreJudgedInOrder : Prop :=
  (∀ (s : State) (q : ReqFrame),
    let as := fun code => exec (.frameArrival .front (requestFrame code q)) s
    exec (.readRecord q) s = as 1 ∧ exec (.openTable q) s = as 2 ∧ exec (.loadSegment q) s = as 3 ∧
    exec (.activateTable q) s = as 4 ∧ exec (.storeBlock q) s = as 5 ∧ exec (.eraseTallies q) s = as 6 ∧
    exec (.setProtection q) s = as 7 ∧ exec (.refreshProtection q) s = as 8 ∧ exec (.lockCalibration q) s = as 9 ∧
    exec (.haltChannel q) s = as 10 ∧ exec (.runChannel q) s = as 11 ∧ exec (.clearChannel q) s = as 12 ∧
    exec (.clearCapture q) s = as 13 ∧ exec (.learnPosition q) s = as 14 ∧ exec (.cancelLearn q) s = as 15 ∧
    exec (.isolateRear q) s = as 16 ∧ exec (.resumeRear q) s = as 17 ∧ exec (.restart q) s = as 18) ∧
  (∀ (s : State) (f : CanFrame), s.powered = true → f.extended = true → frameClass f = 5 →
    frameDest f = chainPosition s ∨ frameDest f = 15 →
    let offered := fun v : State =>
      if frameDest f = 15 then { v with relay := offerRear (.frame f) v.relay } else v
    let u := requestTaken s
    let out := exec (.frameArrival .front f) s
    let code := frameCode f
    (f.data = [] → out = .next (offered { u with
      mgmt := { u.mgmt with malformed := min (s.mgmt.malformed + 1) 65535 } })) ∧
    ∀ tag rest, f.data = tag :: rest →
      (code = 0 ∨ 18 < code → out = .next (offered (answer code tag (.refused .unknown) { u with
        mgmt := { u.mgmt with unknown := min (s.mgmt.unknown + 1) 65535 } }))) ∧
      (1 ≤ code → code ≤ 18 → f.data.length < [4, 2, 8, 2, 2, 1, 3, 1, 1, 4, 2, 2, 1, 4, 1, 1, 1, 1].getD (code - 1) 0 →
        out = .next (offered (answer code tag (.refused .range) { u with
          mgmt := { u.mgmt with malformed := min (s.mgmt.malformed + 1) 65535 } }))) ∧
      (2 ≤ code → code ≤ 18 → [4, 2, 8, 2, 2, 1, 3, 1, 1, 4, 2, 2, 1, 4, 1, 1, 1, 1].getD (code - 1) 0 ≤ f.data.length →
        frameDest f = 15 → out = .next (offered (answer code tag (.refused .state) u)))) ∧
  ∀ (s : State) (code : Nat) (tag : Byte) (a : Answer), code < 32 → ∃ f,
    answer code tag a s = { s with mgmt := if s.mgmt.queue.length < 4
      then { s.mgmt with queue := s.mgmt.queue ++ [[f]] }
      else { s.mgmt with responsesLost := min (s.mgmt.responsesLost + 1) 65535 } } ∧
    f.extended = true ∧ framePriority f = 5 ∧ frameClass f = 6 ∧ frameDest f = 0 ∧
    (chainPosition s ≤ 15 → frameSource f = chainPosition s) ∧ (frameSubcode f).toNat = code ∧
    f.data = tag :: answerBytes a

/-- READ_RECORD(selector, index) (R169): a selector outside its list, a number outside its range or an index beyond the last
page is refused RANGE; otherwise the page is placed as one entry of frames of up to six bytes, the last one marked, or lost
at a queue of four. A broadcast READ_RECORD is answered like an addressed one, also by an UNPLACED part, and is offered
rearward after it (R149, R168; log 35). Each read spends one of the model's free values (log 4). TABLE(t) shows the table in
force, T5 as the position map, with the bits that 12.3 leaves unused sent as 0 by R181; that those bits are kept as loaded
inside the part is the model's reading (log 44). -/
def Obligations.RecordsAreReadByPage : Prop :=
  ∀ (s : State) (q : ReqFrame) (tag : Byte), s.powered = true → q.dest.toNat = chainPosition s ∨ q.dest.toNat = 15 →
    4 ≤ q.data.length → q.data.head? = some tag →
    let offered := fun v : State =>
      if q.dest.toNat = 15 then { v with relay := offerRear (.frame (requestFrame 1 q)) v.relay } else v
    let sel := dataByte q.data 1
    let num := dataByte q.data 2
    let idx := dataByte q.data 3
    let u := requestTaken s
    let refused := answer 1 tag (.refused .range) u
    let outside : Prop := 14 < sel ∨ (sel = 1 ∧ (num < 1 ∨ 4 < num)) ∨ (sel = 2 ∧ 1 < num) ∨ (sel = 5 ∧ 15 < num) ∨
      (sel = 9 ∧ 23 < num) ∨ (sel = 14 ∧ (num < 1 ∨ 6 < num))
    (outside → exec (.readRecord q) s = .next (offered { refused with free := s.free + 1 })) ∧
    (¬outside → ∃ bytes, recordOfSelector u sel num = some bytes ∧
      (let mask : Nat → Byte := fun k =>
         if num = 1 then (if 46 ≤ k then 0 else if 4 ≤ k ∧ k < 36 ∧ k % 8 = 3 then 3 else 255)
         else if num = 2 then (if k % 60 = 1 ∨ 48 ≤ k % 60 then 0 else 255)
         else if num = 3 then (if 27 ≤ k then 0 else 255) else if num = 4 then (if 24 ≤ k then 0 else 255) else 255
       sel = 14 → bytes = ([s.tables.t1, s.tables.t2, s.tables.t3, s.tables.t4,
         (gridList s.tyres.map).flatMap (fun id => longBytes (id.getD 0)), s.tables.t6].getD (num - 1) []).mapIdx
           fun k b => b &&& mask k) ∧
      (0 < idx → bytes.length ≤ 48 * idx → exec (.readRecord q) s = .next (offered { refused with free := s.free + 1 })) ∧
      (idx = 0 ∨ 48 * idx < bytes.length → ∃ t frames, exec (.readRecord q) s = .next (offered t) ∧
        t = { u with free := s.free + 1, mgmt := if s.mgmt.queue.length < 4
          then { u.mgmt with queue := s.mgmt.queue ++ [frames] }
          else { u.mgmt with responsesLost := min (s.mgmt.responsesLost + 1) 65535 } } ∧
        1 ≤ frames.length ∧ frames.length ≤ 8 ∧
        frames.flatMap (fun f => f.data.drop 2) = (bytes.drop (48 * idx)).take 48 ∧
        ∀ k f, frames[k]? = some f → frameClass f = 6 ∧ frameDest f = 0 ∧ (frameSubcode f).toNat = 33 ∧
          f.data.length ≤ 8 ∧ f.data.head? = some tag ∧ dataByte f.data 1 % 8 = k ∧
          (k + 1 < frames.length → f.data.length = 8) ∧ (dataBit f.data 1 7 = true ↔ k + 1 = frames.length)))

/-- OPEN_TABLE and LOAD_SEGMENT judged and taken as R170 sets out. -/
def Obligations.SegmentsAreLoadedIntoTheBuffer : Prop :=
  (∀ (s : State) (q : ReqFrame) (tag : Byte), TakesRequest s q 2 tag →
    let n := dataByte q.data 1
    let u := requestTaken s
    (n < 1 ∨ 6 < n → exec (.openTable q) s = .next (answer 2 tag (.refused .range) u)) ∧
    (1 ≤ n → n ≤ 6 → exec (.openTable q) s = .next (answer 2 tag .done { u with
      mgmt := { u.mgmt with openTable := some n, buffer := List.replicate 144 0, segments := [] } }))) ∧
  ∀ (s : State) (q : ReqFrame) (tag : Byte), TakesRequest s q 8 tag →
    let i := dataByte q.data 1
    let u := requestTaken s
    (s.mgmt.openTable = none → exec (.loadSegment q) s = .next (answer 3 tag (.refused .sequence) u)) ∧
    ∀ n, s.mgmt.openTable = some n → 1 ≤ n → n ≤ 6 →
      let segments := [16, 20, 6, 8, 11, 24].getD (n - 1) 0
      let size := [96, 120, 32, 48, 64, 144].getD (n - 1) 0
      (segments ≤ i → exec (.loadSegment q) s = .next (answer 3 tag (.refused .range) u)) ∧
      (i < segments → ∃ m : Mgmt, exec (.loadSegment q) s = .next (answer 3 tag .done { u with mgmt := m }) ∧
        m = { u.mgmt with buffer := m.buffer, segments := m.segments } ∧ m.buffer.length = 144 ∧
        (∀ k, k < 144 → m.buffer.getD k 0 = if 6 * i ≤ k ∧ k < 6 * i + 6 ∧ k < size
          then q.data.getD (2 + (k - 6 * i)) 0 else s.mgmt.buffer.getD k 0) ∧
        ∀ j, j ∈ m.segments ↔ j = i ∨ j ∈ s.mgmt.segments)

/-- ACTIVATE_TABLE(t) judged in the order of R171; when every check passes the buffer becomes the working table and the open
table none, with the effects of the table's own chapter. T1: each input by its diagnostics flag (R28), every channel to
START or, by its counter, to FAULTED, commanding backup with its pending halt cancelled and its ceiling at the nominal (R22,
R38). T2: load, ratio and overload of a VALID group, the fallback ratio of an INVALID one (R14, R16). T4: the positions
whose diagnostics change, the derates and a session at a position that becomes DISABLED (R120, R127); the receiver stays
(R109). T5: the records of the slots that change, afresh, the unsaved map and the unknown list (R111, R130). T6: the match
counts (R151). The model's readings: which of two fields an INVALID answer names (log 58), the order of several cancelled
halts, C1 to C4 (log 10), and that the channels are held in START for the next record by a flag of the arbiter (log 53). -/
def Obligations.ActivationIsJudgedInOrder : Prop :=
  ∀ (s : State) (q : ReqFrame) (tag : Byte), TakesRequest s q 2 tag →
    let n := dataByte q.data 1
    let u := requestTaken s
    let refused := fun (a : Answer) => exec (.activateTable q) s = .next (answer 4 tag a u)
    let loaded : Prop := ∀ i, i < [16, 20, 6, 8, 11, 24].getD (n - 1) 0 → i ∈ s.mgmt.segments
    let locked : Prop := n = 2 ∧ lockInForce s = true
    let standing : Prop := ∀ v, vehicleSpeed s = some v → v < 200
    let allowed : Prop := (n = 1 → standing ∧ demandLevel s ≤ 30 ∧ s.roll.state = .idle) ∧
      (n = 2 → standing ∧ s.load.a.freeze = false ∧ s.load.b.freeze = false ∧ s.roll.state = .idle) ∧
      (n = 3 → s.roll.state = .idle) ∧ (n = 5 → s.tyres.session = none)
    let table := s.mgmt.buffer.take ([96, 120, 32, 48, 64, 144].getD (n - 1) 0)
    (n < 1 ∨ 6 < n → refused (.refused .range)) ∧
    (1 ≤ n → n ≤ 6 →
      (s.mgmt.openTable ≠ some n → refused (.refused .sequence)) ∧
      (s.mgmt.openTable = some n → ¬loaded → refused (.refused .sequence)) ∧
      (s.mgmt.openTable = some n → loaded → locked → refused (.refused .locked)) ∧
      (s.mgmt.openTable = some n → loaded → ¬locked → ¬allowed → refused (.refused .busy)) ∧
      (s.mgmt.openTable = some n → loaded → ¬locked → allowed → ∀ offset, tableCheck n table = some offset →
        refused (.invalid offset)) ∧
      (s.mgmt.openTable = some n → loaded → ¬locked → allowed → tableCheck n table = none →
        ∃ t, exec (.activateTable q) s = .next t ∧
          t.tables = { s.tables with
            t1 := if n = 1 then table else s.tables.t1, t2 := if n = 2 then table else s.tables.t2
            t3 := if n = 3 then table else s.tables.t3, t4 := if n = 4 then table else s.tables.t4
            t6 := if n = 6 then table else s.tables.t6 } ∧
          (∀ p, gridGet t.tyres.map p = if n = 5 then (if t5Id table p.val = 0 then none else some (t5Id table p.val))
            else gridGet s.tyres.map p) ∧
          t.mgmt.openTable = none ∧ t.store.nv = s.store.nv ∧ t.rx = s.rx ∧
          (let fresh := fun p => tyreFresh (if t4PositionEnabled s.tables.t4 p = false then .disabled
             else if t5Id table p.val = 0 then .absent else .noData) s.timeBase
           let closes : Prop := n = 4 ∧ ∃ l ∈ s.tyres.session, (tyre t l.position).state = .disabled
           let cancelled : List (List CanFrame) := if n = 1
             then allChannels.filterMap fun c => (chan s c).haltPending.map fun h => [responseFrame s 10 [h.tag, 2, 4]]
             else if closes then s.tyres.session.toList.map fun l => [responseFrame s 14 [l.tag, 2, 4]] else []
           let derated : Prop := ∀ g sd, (sidesGet t.tyres.derates g sd = true ↔ ∃ p : Position,
             t1AxleGroup t.tables.t1 (p.val / 4) = g ∧ (if p.val % 4 < 2 then Side.left else .right) = sd ∧
             ((tyre t p).state = .veryLow ∨ (tyre t p).state = .fastLeak))
           (n = 1 → derated ∧ (∀ i, input t i = (let r := input s i
               if t1InputEnabled table i = true then
                 if r.status = .disabled then { r with status := .invalid, lastGood := none, holdStart := none } else r
               else if r.status = .disabled then r else { r with status := .disabled, holdStart := none })) ∧
             t.arbiter = { s.arbiter with channels := t.arbiter.channels, backupNext := true } ∧
             ∀ c,
               let r := chan s c
               let faulty : Prop := t1Threshold table ≤ r.errors
               chan t c = { r with
                 state := if faulty then .faulted else .start, reason := none, holdTimer := none, deviation := none
                 cmdPressure := false, cmdTarget := 0, haltPending := none, strapPending := s.arbiter.strapHalt
                 cause := if ¬faulty then none else if r.state = .faulted then r.cause else some .counter
                 derate := (chan t c).derate, ceiling := t1PMax table c * (chan t c).derate / 4096 }) ∧
           (n = 2 → ∀ g,
             let e := estimate s g
             let load := loadOf table g e.bellows
             estimate t g = if e.state = .valid
               then { e with
                 load := load, ratio := ratioOf table g load
                 overload := decide (t2Laden table g * 4506 / 4096 < load) }
               else { e with ratio := t2Fallback table g }) ∧
           (n = 4 → derated ∧ ∀ p, tyre t p = (let r := tyre s p
             if t4PositionEnabled s.tables.t4 p = t4PositionEnabled table p then r
             else if t4PositionEnabled table p = true then { r with
               state := if gridGet s.tyres.map p = none then .absent else .noData, lastHeard := s.timeBase, history := [] }
             else { r with state := .disabled })) ∧
           (n = 5 → derated ∧ t.tyres.unsaved = true ∧
             (∀ p, tyre t p = if gridGet t.tyres.map p = gridGet s.tyres.map p then tyre s p else fresh p) ∧
             ∀ k, quadGet t.tyres.unknown k =
               (quadGet s.tyres.unknown k).filter fun u => !decide (∃ p, gridGet t.tyres.map p = some u.id)) ∧
           (n = 6 → t.relay.matchCounts = List.replicate 24 0) ∧ (n = 3 → ChangesOnly [.relay, .mgmt, .tables] s t) ∧
           t.tyres.session = (if closes then none else s.tyres.session) ∧
           (s.mgmt.queue.length ≤ 4 → (∀ c, n = 1 → (chan s c).haltPending = none ∨ (chan s c).errors < t1Threshold table) →
             t.mgmt.queue = (s.mgmt.queue ++ cancelled ++ [[responseFrame s 4 [tag, 0, 0]]]).take 4))))

/-! ### Table store -/

/-- The requests to the table store, each judged in its order: STORE_BLOCK (R174), ERASE_TALLIES (R176), SET_PROTECTION,
REFRESH_PROTECTION and LOCK_CALIBRATION (R177). An accepted request starts its operation with its tag held; the bits of the
new word that no flag uses are written 0 (R181), the model's reading of the word (log 40). -/
def Obligations.StoreRequestsAreJudgedInOrder : Prop :=
  ∀ (s : State) (q : ReqFrame) (tag : Byte),
    let u := requestTaken s
    let st := s.store
    let busy : Prop := st.state ≠ .idle
    let locked : Prop := lockInForce s = true
    let holding := fun code => { u.mgmt with storeTag := some ⟨code, tag⟩ }
    (TakesRequest s q 2 tag →
      let n := dataByte q.data 1
      (4 < n → exec (.storeBlock q) s = .next (answer 5 tag (.refused .range) u)) ∧
      ∀ b : Fin 5, n = b.val →
        let closed : Prop := blockProtected s b.val = true ∨ (b = 1 ∧ locked)
        (busy → exec (.storeBlock q) s = .next (answer 5 tag (.refused .busy) u)) ∧
        (¬busy → closed → exec (.storeBlock q) s = .next (answer 5 tag (.refused .locked) u)) ∧
        (¬busy → ¬closed → exec (.storeBlock q) s = .next (answer 5 tag .accepted { u with
          store := { st with
            state := .writing, ended := false, since := s.timeBase
            writing := some ⟨b, [s.tables.t1, s.tables.t2, s.tables.t3, s.tables.t4 ++ mapBytes s.tyres.map,
              s.tables.t6].getD b.val []⟩ }
          mgmt := holding 5
          tyres := if b = 3 then { s.tyres with changedSinceStore := false } else s.tyres }))) ∧
    (TakesRequest s q 1 tag →
      (locked ∨ blockProtected s 5 = true → exec (.eraseTallies q) s = .next (answer 6 tag (.refused .locked) u)) ∧
      (¬locked → blockProtected s 5 = false → busy →
        exec (.eraseTallies q) s = .next (answer 6 tag (.refused .busy) u)) ∧
      (¬locked → blockProtected s 5 = false → ¬busy → exec (.eraseTallies q) s = .next (answer 6 tag .accepted { u with
        store := { st with state := .erasing, ended := false, since := s.timeBase }, mgmt := holding 6 })) ∧
      (busy → exec (.refreshProtection q) s = .next (answer 8 tag (.refused .busy) u)) ∧
      (¬busy → exec (.refreshProtection q) s = .next (answer 8 tag .done { u with
        store := { st with protForce := st.protStored } })) ∧
      ((∃ v, vehicleSpeed s = some v ∧ 200 ≤ v) →
        exec (.lockCalibration q) s = .next (answer 9 tag (.refused .state) u)) ∧
      ((∀ v, vehicleSpeed s = some v → v < 200) →
        (st.protStored.getLsbD 15 = false → exec (.lockCalibration q) s = .next (answer 9 tag .done u)) ∧
        (st.protStored.getLsbD 15 = true → busy →
          exec (.lockCalibration q) s = .next (answer 9 tag (.refused .busy) u)) ∧
        (st.protStored.getLsbD 15 = true → ¬busy → ∃ w, exec (.lockCalibration q) s = .next (answer 9 tag .accepted { u with
            store := { st with state := .protecting, ended := false, since := s.timeBase, newWord := some w }
            mgmt := holding 9 }) ∧
          (∀ k, 6 ≤ k → w.getLsbD k = false) ∧ ∀ k, k < 6 → w.getLsbD k = st.protStored.getLsbD k))) ∧
    (TakesRequest s q 3 tag →
      let mask := dataWord q.data 1
      (64 ≤ mask → exec (.setProtection q) s = .next (answer 7 tag (.refused .range) u)) ∧
      (mask < 64 → locked → exec (.setProtection q) s = .next (answer 7 tag (.refused .locked) u)) ∧
      (mask < 64 → ¬locked → busy → exec (.setProtection q) s = .next (answer 7 tag (.refused .busy) u)) ∧
      (mask < 64 → ¬locked → ¬busy → ∃ w, exec (.setProtection q) s = .next (answer 7 tag .accepted { u with
          store := { st with state := .protecting, ended := false, since := s.timeBase, newWord := some w }
          mgmt := holding 7 }) ∧
        (∀ k, k < 6 → w.getLsbD k = !mask.testBit k) ∧ (∀ k, 6 ≤ k → k < 15 → w.getLsbD k = false) ∧
        w.getLsbD 15 = st.protStored.getLsbD 15))

/-- The ends of the store's operations and the work that then waits (R172, R174, R176, R177, R129): what each leaves in the
nonvolatile store, the COMPLETED(DONE) of a held tag, and IDLE when nothing waits, or else, as a command of its own, the first
pending tally and then the tyre table's store of block 3. That the store is between two operations until that command is
the model's choice (log 21), as is that one written byte becomes so at the completion (log 22). -/
def Obligations.StoreOperationsEndAndWaitingWorkStarts : Prop :=
  ∀ s : State, s.powered = true → StoreInv s →
    let st := s.store
    let running : Prop := st.ended = false
    let waits : Prop := (∃ k, quadGet st.pendingTally k ≠ 0) ∨ s.tyres.waiting = true
    let ends : State → Prop := fun t => (¬waits → t.store.state = .idle ∧ t.store.ended = false) ∧
      (waits → t.store.state = st.state ∧ t.store.ended = true)
    let answered : State → Prop := fun t => t.mgmt.storeTag = none ∧
      (s.mgmt.storeTag = none → t.mgmt.queue = s.mgmt.queue) ∧
      ∀ held, s.mgmt.storeTag = some held → s.mgmt.queue.length < 4 →
        t.mgmt.queue = s.mgmt.queue ++ [[responseFrame s held.code [held.tag, 2, 0]]]
    (∀ w, st.writing = some w → ∃ t, exec .blockWriteComplete s = .next t ∧ ends t ∧ answered t ∧
      t.store.writes = min (st.writes + 1) 65535 ∧ markerPresent t.store.nv w.block.val = true ∧
      (∀ k, k < 255 → memRead t.store.nv (256 * w.block.val + k) = w.content.getD k 0) ∧
      (∀ a, a < 256 * w.block.val ∨ 256 * w.block.val + 256 ≤ a → memRead t.store.nv a = memRead st.nv a) ∧
      t.tyres = (if w.block = 3 ∧ s.tyres.changedSinceStore = false then { s.tyres with unsaved := false } else s.tyres)) ∧
    (st.state = .erasing → running → ∃ t, exec .tallyEraseComplete s = .next t ∧ ends t ∧ answered t ∧
      (∀ k, tallyValue t.store.nv k = 0) ∧
      ∀ a, a < 1280 ∨ 1536 ≤ a → memRead t.store.nv a = memRead st.nv a) ∧
    (∀ k, st.tally = some k → ∃ t, exec .tallyBitProgrammed s = .next t ∧ ends t ∧ t.mgmt = s.mgmt ∧
      t.store.bits = min (st.bits + 1) 65535 ∧ tallyValue t.store.nv k = min (tallyValue st.nv k + 1) 512 ∧
      ∀ a, a < tallyAddr k 0 ∨ tallyAddr k 0 + 64 ≤ a → memRead t.store.nv a = memRead st.nv a) ∧
    (∀ w, st.newWord = some w → ∃ t, exec .protectionWordProgrammed s = .next t ∧ ends t ∧ answered t ∧
      t.store.protStored = w ∧ t.store.protForce = (if st.copyDue then w else st.protForce) ∧ t.store.nv = st.nv) ∧
    (∀ k, st.ended = true → quadGet st.pendingTally k ≠ 0 → (∀ j, j < k → quadGet st.pendingTally j = 0) →
      ∃ t, exec .pendingTallyStart s = .next t ∧ t.store.nv = st.nv ∧
        t.store.pendingTally = quadSet st.pendingTally k (quadGet st.pendingTally k - 1) ∧
        (tallyValue st.nv k < 512 → t.store.state = .tally ∧ t.store.tally = some k ∧ t.store.ended = false ∧
          t.store.since = s.timeBase ∧ t.store.discarded = st.discarded) ∧
        (512 ≤ tallyValue st.nv k → t.store.discarded = min (st.discarded + 1) 65535 ∧
          t.store.state = (if (∃ j, quadGet t.store.pendingTally j ≠ 0) ∨ s.tyres.waiting = true
            then st.state else .idle))) ∧
    (st.ended = true → s.tyres.waiting = true → (∀ k, quadGet st.pendingTally k = 0) →
      ∃ t, exec .waitingBlock3StoreStart s = .next t ∧ t.tyres.waiting = false ∧ t.tyres.unsaved = s.tyres.unsaved ∧
        t.store.nv = st.nv ∧ (blockProtected s 3 = true → t.store.state = .idle) ∧
        (blockProtected s 3 = false → t.store.state = .writing ∧ t.store.ended = false ∧
          t.store.writing = some ⟨3, s.tables.t4 ++ mapBytes s.tyres.map⟩))

/-- The tallies and the calibration lock (R176, R177): a request to increment a tally is discarded at 512 unless an erase runs
(log 23), waits while the store is busy, up to 255 of them, and is started at once when it is IDLE; a tally never exceeds 512
and never decreases while no erase of the tallies runs; with the lock in force no step removes it, changes a byte of block 1
or lets a tally decrease. -/
def Obligations.TalliesAndTheLockAreKept : Prop :=
  (∀ (u : State) (k : Fin 4),
    let st := u.store
    let full : Prop := 512 ≤ tallyValue st.nv k ∧ st.state ≠ .erasing
    (full → requestTally k u = { u with store := { st with discarded := min (st.discarded + 1) 65535 } }) ∧
    (¬full → st.state ≠ .idle → requestTally k u = { u with store := { st with
      pendingTally := quadSet st.pendingTally k (min (quadGet st.pendingTally k + 1) 255) } }) ∧
    (¬full → st.state = .idle → requestTally k u = { u with store := { st with
      state := .tally, ended := false, since := u.timeBase, tally := some k } })) ∧
  (∀ (c : Instr) (s t : State) (k : Fin 4), StoreInv s → s.store.state ≠ .erasing ∨ s.store.ended = true →
    exec c s = .next t → tallyValue s.store.nv k ≤ tallyValue t.store.nv k ∧ tallyValue t.store.nv k ≤ 512) ∧
  ∀ s t : State, StoreInv s → LockHolds s → step s = .next t → LockHolds t ∧
    (∀ a, 256 ≤ a → a < 512 → memRead t.store.nv a = memRead s.store.nv a) ∧
    ∀ k, tallyValue s.store.nv k ≤ tallyValue t.store.nv k

/-! ### Invariants -/

/-- Every step keeps every table in force at its size and valid (R168, R170, R171, R178), and with that the table store's
contents in canonical form and its operation in progress in agreement with its state (R172). -/
def Obligations.StepsKeepTheTablesAndTheStore : Prop :=
  (∀ s t : State, TablesInv s → step s = .next t → TablesInv t) ∧
  ∀ s t : State, TablesInv s → StoreInv s → step s = .next t → StoreInv t

/-- Every step keeps the bounds of the queues (R101, R103, R107, R148, R152, R154, R161, R168, R169), and no sensor ID twice in
the position map or both there and in the unknown sensor list (R111). -/
def Obligations.StepsKeepTheQueuesAndTheMap : Prop :=
  (∀ s t : State, QueueInv s → step s = .next t → QueueInv t) ∧
  ∀ s t : State, MapInv s → step s = .next t → MapInv t

/-- With valid tables every step keeps the pressure bounds (R20 to R22, R26, R32, R40, R41), the roll monitor's account (R63 to
R82) and the load estimates (R6 to R10). -/
def Obligations.StepsKeepPressuresRollAndLoads : Prop :=
  (∀ s t : State, TablesInv s → PressureInv s → step s = .next t → PressureInv t) ∧
  (∀ s t : State, RollInv s → step s = .next t → RollInv t) ∧
  ∀ s t : State, TablesInv s → PressureInv s → LoadInv s → step s = .next t → LoadInv t

/-- The state right after a power-on reset, the queue of commands empty, meets every invariant. The nonvolatile contents, the
levels of the pins and the values that no rule gives are the model's choices (logs 4, 7, 8 and 9). -/
def Obligations.ResetMeetsTheInvariants : Prop :=
  TablesInv State.reset ∧ StoreInv State.reset ∧ QueueInv State.reset ∧ MapInv State.reset ∧ PressureInv State.reset ∧
    RollInv State.reset ∧ LoadInv State.reset ∧ State.reset.pending = []
end

