-- ==== Sys2Proof/Laws/Families.lean ====
section
/-! SUPPORT. Families of like things, arrangements and saturating counts: what reading gives after writing, and what an
arrangement holds. -/

namespace Sys2Proof.Machine

open Sys2Proof

section Quads

variable {α β : Type}

@[simp] theorem quadGet_set_same (q : Quad α) (i : Fin 4) (x : α) : quadGet (quadSet q i x) i = x := by
  fin_cases i <;> rfl

theorem quadGet_set_other (q : Quad α) {i j : Fin 4} (x : α) (h : j ≠ i) :
    quadGet (quadSet q i x) j = quadGet q j := by
  fin_cases i <;> fin_cases j <;> first | rfl | exact absurd rfl h

@[simp] theorem quadGet_map (f : Fin 4 → α → β) (q : Quad α) (i : Fin 4) :
    quadGet (quadMap f q) i = f i (quadGet q i) := by
  fin_cases i <;> rfl

@[simp] theorem quadGet_const (x : α) (i : Fin 4) : quadGet (Quad.const x) i = x := by
  fin_cases i <;> rfl

theorem quad_ext {q r : Quad α} (h : ∀ i, quadGet q i = quadGet r i) : q = r := by
  obtain ⟨_, _, _, _⟩ := q
  obtain ⟨_, _, _, _⟩ := r
  have h0 := h 0
  have h1 := h 1
  have h2 := h 2
  have h3 := h 3
  simp only [quadGet] at h0 h1 h2 h3
  simp [h0, h1, h2, h3]

end Quads

section Grids

variable {α β : Type}

theorem gridGet_index (g : Grid α) (i : Fin 16) :
    gridGet g i = quadGet (quadGet (gridRows g) (gridRow i)) (gridCol i) := rfl

theorem gridRow_col_injective {i j : Fin 16} (hr : gridRow i = gridRow j) (hc : gridCol i = gridCol j) : i = j := by
  simp only [gridRow, gridCol, Fin.mk.injEq] at hr hc
  omega

@[simp] theorem gridRows_ofRows (q : Quad (Quad α)) : gridRows (gridOfRows q) = q := rfl

@[simp] theorem gridGet_set_same (g : Grid α) (i : Fin 16) (x : α) : gridGet (gridSet g i x) i = x := by
  simp [gridGet, gridSet]

theorem gridGet_set_other (g : Grid α) {i j : Fin 16} (x : α) (h : j ≠ i) :
    gridGet (gridSet g i x) j = gridGet g j := by
  simp only [gridGet, gridSet, gridRows_ofRows]
  by_cases hr : gridRow j = gridRow i
  · have hc : gridCol j ≠ gridCol i := fun hc => h (gridRow_col_injective hr hc)
    rw [hr, quadGet_set_same, quadGet_set_other _ _ hc]
  · rw [quadGet_set_other _ _ hr]

theorem gridIndex_row_col (i : Fin 16) : gridIndex (gridRow i) (gridCol i) = i := by
  ext
  simp only [gridIndex, gridRow, gridCol]
  omega

@[simp] theorem gridGet_map (f : Fin 16 → α → β) (g : Grid α) (i : Fin 16) :
    gridGet (gridMap f g) i = f i (gridGet g i) := by
  simp [gridGet, gridMap, gridIndex_row_col]

@[simp] theorem gridGet_const (x : α) (i : Fin 16) : gridGet (Grid.const x) i = x := by
  fin_cases i <;> rfl

end Grids

/-- Every channel is in the list of all channels. -/
theorem mem_allChannels (c : Channel) : c ∈ allChannels := by
  fin_cases c <;> simp [allChannels]

/-- Every position is in the list of all positions. -/
theorem mem_allPositions (p : Position) : p ∈ allPositions := by
  fin_cases p <;> simp [allPositions]

/-- An arrangement holds the same things as the list it arranges. -/
theorem arrange_perm {α : Type} (n : Nat) (l : List α) : (arrange n l).Perm l := by
  induction n, l using arrange.induct with
  | case1 n => simp [arrange]
  | case2 n x => simp [arrange]
  | case3 n x y xs ih =>
    rw [arrange]
    refine (List.perm_middle).trans (List.Perm.cons x ?_)
    rw [List.take_append_drop]
    exact ih

/-- A thing of an arrangement is a thing of the list. -/
theorem mem_arrange {α : Type} {n : Nat} {l : List α} {x : α} : x ∈ arrange n l ↔ x ∈ l := (arrange_perm n l).mem_iff

/-- What every function of a list keeps, a run through the list keeps. -/
theorem foldl_keeps {α β : Type} (P : α → Prop) (f : α → β → α) (l : List β) (h : ∀ a b, b ∈ l → P a → P (f a b))
    (a : α) (ha : P a) : P (l.foldl f a) := by
  induction l generalizing a with
  | nil => exact ha
  | cons b l ih =>
    exact ih (fun a b hb => h a b (List.mem_cons_of_mem _ hb)) _ (h a b List.mem_cons_self ha)

/-- A value that no function of a list changes, a run through the list does not change. -/
theorem foldl_same {α β γ : Type} (g : α → γ) (f : α → β → α) (l : List β) (h : ∀ a b, b ∈ l → g (f a b) = g a)
    (a : α) : g (l.foldl f a) = g a :=
  foldl_keeps (fun x => g x = g a) f l (fun _ b hb hx => (h _ b hb).trans hx) a rfl

theorem satAdd_le (n k : Nat) : satAdd n k ≤ 65535 := Nat.min_le_right _ _

theorem satInc_le (n : Nat) : satInc n ≤ 65535 := satAdd_le n 1

theorem satInc8_le (n : Nat) : satInc8 n ≤ 255 := Nat.min_le_right _ _

/-- A count below its end rises by one. -/
theorem satInc_below {n : Nat} (h : n < 65535) : satInc n = n + 1 := by
  simp only [satInc, satAdd]
  omega

end Sys2Proof.Machine
end

