-- ==== Sys2Proof/Laws/State.lean ====
section
/-! SUPPORT. The state record: for each update operation and each field, what the field is afterwards. -/

namespace Sys2Proof.Machine

open Sys2Proof

/-! ### State.onSample -/

section OnSample

variable (f : SamplePort → SamplePort) (s : State)

@[simp] theorem onSample_powered : (s.onSample f).powered = s.powered := rfl
@[simp] theorem onSample_resetLine : (s.onSample f).resetLine = s.resetLine := rfl
@[simp] theorem onSample_straps : (s.onSample f).straps = s.straps := rfl
@[simp] theorem onSample_timeBase : (s.onSample f).timeBase = s.timeBase := rfl
@[simp] theorem onSample_free : (s.onSample f).free = s.free := rfl
@[simp] theorem onSample_pending : (s.onSample f).pending = s.pending := rfl
@[simp] theorem onSample_tables : (s.onSample f).tables = s.tables := rfl
@[simp] theorem onSample_sample : (s.onSample f).sample = f s.sample := rfl
@[simp] theorem onSample_valve : (s.onSample f).valve = s.valve := rfl
@[simp] theorem onSample_load : (s.onSample f).load = s.load := rfl
@[simp] theorem onSample_arbiter : (s.onSample f).arbiter = s.arbiter := rfl
@[simp] theorem onSample_air : (s.onSample f).air = s.air := rfl
@[simp] theorem onSample_roll : (s.onSample f).roll = s.roll := rfl
@[simp] theorem onSample_rx : (s.onSample f).rx = s.rx := rfl
@[simp] theorem onSample_tyres : (s.onSample f).tyres = s.tyres := rfl
@[simp] theorem onSample_link : (s.onSample f).link = s.link := rfl
@[simp] theorem onSample_relay : (s.onSample f).relay = s.relay := rfl
@[simp] theorem onSample_alerts : (s.onSample f).alerts = s.alerts := rfl
@[simp] theorem onSample_mgmt : (s.onSample f).mgmt = s.mgmt := rfl
@[simp] theorem onSample_store : (s.onSample f).store = s.store := rfl

end OnSample

/-! ### State.onValve -/

section OnValve

variable (f : ValvePort → ValvePort) (s : State)

@[simp] theorem onValve_powered : (s.onValve f).powered = s.powered := rfl
@[simp] theorem onValve_resetLine : (s.onValve f).resetLine = s.resetLine := rfl
@[simp] theorem onValve_straps : (s.onValve f).straps = s.straps := rfl
@[simp] theorem onValve_timeBase : (s.onValve f).timeBase = s.timeBase := rfl
@[simp] theorem onValve_free : (s.onValve f).free = s.free := rfl
@[simp] theorem onValve_pending : (s.onValve f).pending = s.pending := rfl
@[simp] theorem onValve_tables : (s.onValve f).tables = s.tables := rfl
@[simp] theorem onValve_sample : (s.onValve f).sample = s.sample := rfl
@[simp] theorem onValve_valve : (s.onValve f).valve = f s.valve := rfl
@[simp] theorem onValve_load : (s.onValve f).load = s.load := rfl
@[simp] theorem onValve_arbiter : (s.onValve f).arbiter = s.arbiter := rfl
@[simp] theorem onValve_air : (s.onValve f).air = s.air := rfl
@[simp] theorem onValve_roll : (s.onValve f).roll = s.roll := rfl
@[simp] theorem onValve_rx : (s.onValve f).rx = s.rx := rfl
@[simp] theorem onValve_tyres : (s.onValve f).tyres = s.tyres := rfl
@[simp] theorem onValve_link : (s.onValve f).link = s.link := rfl
@[simp] theorem onValve_relay : (s.onValve f).relay = s.relay := rfl
@[simp] theorem onValve_alerts : (s.onValve f).alerts = s.alerts := rfl
@[simp] theorem onValve_mgmt : (s.onValve f).mgmt = s.mgmt := rfl
@[simp] theorem onValve_store : (s.onValve f).store = s.store := rfl

end OnValve

/-! ### State.onLoad -/

section OnLoad

variable (f : Pair Estimate → Pair Estimate) (s : State)

@[simp] theorem onLoad_powered : (s.onLoad f).powered = s.powered := rfl
@[simp] theorem onLoad_resetLine : (s.onLoad f).resetLine = s.resetLine := rfl
@[simp] theorem onLoad_straps : (s.onLoad f).straps = s.straps := rfl
@[simp] theorem onLoad_timeBase : (s.onLoad f).timeBase = s.timeBase := rfl
@[simp] theorem onLoad_free : (s.onLoad f).free = s.free := rfl
@[simp] theorem onLoad_pending : (s.onLoad f).pending = s.pending := rfl
@[simp] theorem onLoad_tables : (s.onLoad f).tables = s.tables := rfl
@[simp] theorem onLoad_sample : (s.onLoad f).sample = s.sample := rfl
@[simp] theorem onLoad_valve : (s.onLoad f).valve = s.valve := rfl
@[simp] theorem onLoad_load : (s.onLoad f).load = f s.load := rfl
@[simp] theorem onLoad_arbiter : (s.onLoad f).arbiter = s.arbiter := rfl
@[simp] theorem onLoad_air : (s.onLoad f).air = s.air := rfl
@[simp] theorem onLoad_roll : (s.onLoad f).roll = s.roll := rfl
@[simp] theorem onLoad_rx : (s.onLoad f).rx = s.rx := rfl
@[simp] theorem onLoad_tyres : (s.onLoad f).tyres = s.tyres := rfl
@[simp] theorem onLoad_link : (s.onLoad f).link = s.link := rfl
@[simp] theorem onLoad_relay : (s.onLoad f).relay = s.relay := rfl
@[simp] theorem onLoad_alerts : (s.onLoad f).alerts = s.alerts := rfl
@[simp] theorem onLoad_mgmt : (s.onLoad f).mgmt = s.mgmt := rfl
@[simp] theorem onLoad_store : (s.onLoad f).store = s.store := rfl

end OnLoad

/-! ### State.onArbiter -/

section OnArbiter

variable (f : Arbiter → Arbiter) (s : State)

@[simp] theorem onArbiter_powered : (s.onArbiter f).powered = s.powered := rfl
@[simp] theorem onArbiter_resetLine : (s.onArbiter f).resetLine = s.resetLine := rfl
@[simp] theorem onArbiter_straps : (s.onArbiter f).straps = s.straps := rfl
@[simp] theorem onArbiter_timeBase : (s.onArbiter f).timeBase = s.timeBase := rfl
@[simp] theorem onArbiter_free : (s.onArbiter f).free = s.free := rfl
@[simp] theorem onArbiter_pending : (s.onArbiter f).pending = s.pending := rfl
@[simp] theorem onArbiter_tables : (s.onArbiter f).tables = s.tables := rfl
@[simp] theorem onArbiter_sample : (s.onArbiter f).sample = s.sample := rfl
@[simp] theorem onArbiter_valve : (s.onArbiter f).valve = s.valve := rfl
@[simp] theorem onArbiter_load : (s.onArbiter f).load = s.load := rfl
@[simp] theorem onArbiter_arbiter : (s.onArbiter f).arbiter = f s.arbiter := rfl
@[simp] theorem onArbiter_air : (s.onArbiter f).air = s.air := rfl
@[simp] theorem onArbiter_roll : (s.onArbiter f).roll = s.roll := rfl
@[simp] theorem onArbiter_rx : (s.onArbiter f).rx = s.rx := rfl
@[simp] theorem onArbiter_tyres : (s.onArbiter f).tyres = s.tyres := rfl
@[simp] theorem onArbiter_link : (s.onArbiter f).link = s.link := rfl
@[simp] theorem onArbiter_relay : (s.onArbiter f).relay = s.relay := rfl
@[simp] theorem onArbiter_alerts : (s.onArbiter f).alerts = s.alerts := rfl
@[simp] theorem onArbiter_mgmt : (s.onArbiter f).mgmt = s.mgmt := rfl
@[simp] theorem onArbiter_store : (s.onArbiter f).store = s.store := rfl

end OnArbiter

/-! ### State.onAir -/

section OnAir

variable (f : Air → Air) (s : State)

@[simp] theorem onAir_powered : (s.onAir f).powered = s.powered := rfl
@[simp] theorem onAir_resetLine : (s.onAir f).resetLine = s.resetLine := rfl
@[simp] theorem onAir_straps : (s.onAir f).straps = s.straps := rfl
@[simp] theorem onAir_timeBase : (s.onAir f).timeBase = s.timeBase := rfl
@[simp] theorem onAir_free : (s.onAir f).free = s.free := rfl
@[simp] theorem onAir_pending : (s.onAir f).pending = s.pending := rfl
@[simp] theorem onAir_tables : (s.onAir f).tables = s.tables := rfl
@[simp] theorem onAir_sample : (s.onAir f).sample = s.sample := rfl
@[simp] theorem onAir_valve : (s.onAir f).valve = s.valve := rfl
@[simp] theorem onAir_load : (s.onAir f).load = s.load := rfl
@[simp] theorem onAir_arbiter : (s.onAir f).arbiter = s.arbiter := rfl
@[simp] theorem onAir_air : (s.onAir f).air = f s.air := rfl
@[simp] theorem onAir_roll : (s.onAir f).roll = s.roll := rfl
@[simp] theorem onAir_rx : (s.onAir f).rx = s.rx := rfl
@[simp] theorem onAir_tyres : (s.onAir f).tyres = s.tyres := rfl
@[simp] theorem onAir_link : (s.onAir f).link = s.link := rfl
@[simp] theorem onAir_relay : (s.onAir f).relay = s.relay := rfl
@[simp] theorem onAir_alerts : (s.onAir f).alerts = s.alerts := rfl
@[simp] theorem onAir_mgmt : (s.onAir f).mgmt = s.mgmt := rfl
@[simp] theorem onAir_store : (s.onAir f).store = s.store := rfl

end OnAir

/-! ### State.onRoll -/

section OnRoll

variable (f : Roll → Roll) (s : State)

@[simp] theorem onRoll_powered : (s.onRoll f).powered = s.powered := rfl
@[simp] theorem onRoll_resetLine : (s.onRoll f).resetLine = s.resetLine := rfl
@[simp] theorem onRoll_straps : (s.onRoll f).straps = s.straps := rfl
@[simp] theorem onRoll_timeBase : (s.onRoll f).timeBase = s.timeBase := rfl
@[simp] theorem onRoll_free : (s.onRoll f).free = s.free := rfl
@[simp] theorem onRoll_pending : (s.onRoll f).pending = s.pending := rfl
@[simp] theorem onRoll_tables : (s.onRoll f).tables = s.tables := rfl
@[simp] theorem onRoll_sample : (s.onRoll f).sample = s.sample := rfl
@[simp] theorem onRoll_valve : (s.onRoll f).valve = s.valve := rfl
@[simp] theorem onRoll_load : (s.onRoll f).load = s.load := rfl
@[simp] theorem onRoll_arbiter : (s.onRoll f).arbiter = s.arbiter := rfl
@[simp] theorem onRoll_air : (s.onRoll f).air = s.air := rfl
@[simp] theorem onRoll_roll : (s.onRoll f).roll = f s.roll := rfl
@[simp] theorem onRoll_rx : (s.onRoll f).rx = s.rx := rfl
@[simp] theorem onRoll_tyres : (s.onRoll f).tyres = s.tyres := rfl
@[simp] theorem onRoll_link : (s.onRoll f).link = s.link := rfl
@[simp] theorem onRoll_relay : (s.onRoll f).relay = s.relay := rfl
@[simp] theorem onRoll_alerts : (s.onRoll f).alerts = s.alerts := rfl
@[simp] theorem onRoll_mgmt : (s.onRoll f).mgmt = s.mgmt := rfl
@[simp] theorem onRoll_store : (s.onRoll f).store = s.store := rfl

end OnRoll

/-! ### State.onRx -/

section OnRx

variable (f : Receiver → Receiver) (s : State)

@[simp] theorem onRx_powered : (s.onRx f).powered = s.powered := rfl
@[simp] theorem onRx_resetLine : (s.onRx f).resetLine = s.resetLine := rfl
@[simp] theorem onRx_straps : (s.onRx f).straps = s.straps := rfl
@[simp] theorem onRx_timeBase : (s.onRx f).timeBase = s.timeBase := rfl
@[simp] theorem onRx_free : (s.onRx f).free = s.free := rfl
@[simp] theorem onRx_pending : (s.onRx f).pending = s.pending := rfl
@[simp] theorem onRx_tables : (s.onRx f).tables = s.tables := rfl
@[simp] theorem onRx_sample : (s.onRx f).sample = s.sample := rfl
@[simp] theorem onRx_valve : (s.onRx f).valve = s.valve := rfl
@[simp] theorem onRx_load : (s.onRx f).load = s.load := rfl
@[simp] theorem onRx_arbiter : (s.onRx f).arbiter = s.arbiter := rfl
@[simp] theorem onRx_air : (s.onRx f).air = s.air := rfl
@[simp] theorem onRx_roll : (s.onRx f).roll = s.roll := rfl
@[simp] theorem onRx_rx : (s.onRx f).rx = f s.rx := rfl
@[simp] theorem onRx_tyres : (s.onRx f).tyres = s.tyres := rfl
@[simp] theorem onRx_link : (s.onRx f).link = s.link := rfl
@[simp] theorem onRx_relay : (s.onRx f).relay = s.relay := rfl
@[simp] theorem onRx_alerts : (s.onRx f).alerts = s.alerts := rfl
@[simp] theorem onRx_mgmt : (s.onRx f).mgmt = s.mgmt := rfl
@[simp] theorem onRx_store : (s.onRx f).store = s.store := rfl

end OnRx

/-! ### State.onTyres -/

section OnTyres

variable (f : Tyres → Tyres) (s : State)

@[simp] theorem onTyres_powered : (s.onTyres f).powered = s.powered := rfl
@[simp] theorem onTyres_resetLine : (s.onTyres f).resetLine = s.resetLine := rfl
@[simp] theorem onTyres_straps : (s.onTyres f).straps = s.straps := rfl
@[simp] theorem onTyres_timeBase : (s.onTyres f).timeBase = s.timeBase := rfl
@[simp] theorem onTyres_free : (s.onTyres f).free = s.free := rfl
@[simp] theorem onTyres_pending : (s.onTyres f).pending = s.pending := rfl
@[simp] theorem onTyres_tables : (s.onTyres f).tables = s.tables := rfl
@[simp] theorem onTyres_sample : (s.onTyres f).sample = s.sample := rfl
@[simp] theorem onTyres_valve : (s.onTyres f).valve = s.valve := rfl
@[simp] theorem onTyres_load : (s.onTyres f).load = s.load := rfl
@[simp] theorem onTyres_arbiter : (s.onTyres f).arbiter = s.arbiter := rfl
@[simp] theorem onTyres_air : (s.onTyres f).air = s.air := rfl
@[simp] theorem onTyres_roll : (s.onTyres f).roll = s.roll := rfl
@[simp] theorem onTyres_rx : (s.onTyres f).rx = s.rx := rfl
@[simp] theorem onTyres_tyres : (s.onTyres f).tyres = f s.tyres := rfl
@[simp] theorem onTyres_link : (s.onTyres f).link = s.link := rfl
@[simp] theorem onTyres_relay : (s.onTyres f).relay = s.relay := rfl
@[simp] theorem onTyres_alerts : (s.onTyres f).alerts = s.alerts := rfl
@[simp] theorem onTyres_mgmt : (s.onTyres f).mgmt = s.mgmt := rfl
@[simp] theorem onTyres_store : (s.onTyres f).store = s.store := rfl

end OnTyres

/-! ### State.onLink -/

section OnLink

variable (f : Link → Link) (s : State)

@[simp] theorem onLink_powered : (s.onLink f).powered = s.powered := rfl
@[simp] theorem onLink_resetLine : (s.onLink f).resetLine = s.resetLine := rfl
@[simp] theorem onLink_straps : (s.onLink f).straps = s.straps := rfl
@[simp] theorem onLink_timeBase : (s.onLink f).timeBase = s.timeBase := rfl
@[simp] theorem onLink_free : (s.onLink f).free = s.free := rfl
@[simp] theorem onLink_pending : (s.onLink f).pending = s.pending := rfl
@[simp] theorem onLink_tables : (s.onLink f).tables = s.tables := rfl
@[simp] theorem onLink_sample : (s.onLink f).sample = s.sample := rfl
@[simp] theorem onLink_valve : (s.onLink f).valve = s.valve := rfl
@[simp] theorem onLink_load : (s.onLink f).load = s.load := rfl
@[simp] theorem onLink_arbiter : (s.onLink f).arbiter = s.arbiter := rfl
@[simp] theorem onLink_air : (s.onLink f).air = s.air := rfl
@[simp] theorem onLink_roll : (s.onLink f).roll = s.roll := rfl
@[simp] theorem onLink_rx : (s.onLink f).rx = s.rx := rfl
@[simp] theorem onLink_tyres : (s.onLink f).tyres = s.tyres := rfl
@[simp] theorem onLink_link : (s.onLink f).link = f s.link := rfl
@[simp] theorem onLink_relay : (s.onLink f).relay = s.relay := rfl
@[simp] theorem onLink_alerts : (s.onLink f).alerts = s.alerts := rfl
@[simp] theorem onLink_mgmt : (s.onLink f).mgmt = s.mgmt := rfl
@[simp] theorem onLink_store : (s.onLink f).store = s.store := rfl

end OnLink

/-! ### State.onRelay -/

section OnRelay

variable (f : Relay → Relay) (s : State)

@[simp] theorem onRelay_powered : (s.onRelay f).powered = s.powered := rfl
@[simp] theorem onRelay_resetLine : (s.onRelay f).resetLine = s.resetLine := rfl
@[simp] theorem onRelay_straps : (s.onRelay f).straps = s.straps := rfl
@[simp] theorem onRelay_timeBase : (s.onRelay f).timeBase = s.timeBase := rfl
@[simp] theorem onRelay_free : (s.onRelay f).free = s.free := rfl
@[simp] theorem onRelay_pending : (s.onRelay f).pending = s.pending := rfl
@[simp] theorem onRelay_tables : (s.onRelay f).tables = s.tables := rfl
@[simp] theorem onRelay_sample : (s.onRelay f).sample = s.sample := rfl
@[simp] theorem onRelay_valve : (s.onRelay f).valve = s.valve := rfl
@[simp] theorem onRelay_load : (s.onRelay f).load = s.load := rfl
@[simp] theorem onRelay_arbiter : (s.onRelay f).arbiter = s.arbiter := rfl
@[simp] theorem onRelay_air : (s.onRelay f).air = s.air := rfl
@[simp] theorem onRelay_roll : (s.onRelay f).roll = s.roll := rfl
@[simp] theorem onRelay_rx : (s.onRelay f).rx = s.rx := rfl
@[simp] theorem onRelay_tyres : (s.onRelay f).tyres = s.tyres := rfl
@[simp] theorem onRelay_link : (s.onRelay f).link = s.link := rfl
@[simp] theorem onRelay_relay : (s.onRelay f).relay = f s.relay := rfl
@[simp] theorem onRelay_alerts : (s.onRelay f).alerts = s.alerts := rfl
@[simp] theorem onRelay_mgmt : (s.onRelay f).mgmt = s.mgmt := rfl
@[simp] theorem onRelay_store : (s.onRelay f).store = s.store := rfl

end OnRelay

/-! ### State.onAlerts -/

section OnAlerts

variable (f : Alerts → Alerts) (s : State)

@[simp] theorem onAlerts_powered : (s.onAlerts f).powered = s.powered := rfl
@[simp] theorem onAlerts_resetLine : (s.onAlerts f).resetLine = s.resetLine := rfl
@[simp] theorem onAlerts_straps : (s.onAlerts f).straps = s.straps := rfl
@[simp] theorem onAlerts_timeBase : (s.onAlerts f).timeBase = s.timeBase := rfl
@[simp] theorem onAlerts_free : (s.onAlerts f).free = s.free := rfl
@[simp] theorem onAlerts_pending : (s.onAlerts f).pending = s.pending := rfl
@[simp] theorem onAlerts_tables : (s.onAlerts f).tables = s.tables := rfl
@[simp] theorem onAlerts_sample : (s.onAlerts f).sample = s.sample := rfl
@[simp] theorem onAlerts_valve : (s.onAlerts f).valve = s.valve := rfl
@[simp] theorem onAlerts_load : (s.onAlerts f).load = s.load := rfl
@[simp] theorem onAlerts_arbiter : (s.onAlerts f).arbiter = s.arbiter := rfl
@[simp] theorem onAlerts_air : (s.onAlerts f).air = s.air := rfl
@[simp] theorem onAlerts_roll : (s.onAlerts f).roll = s.roll := rfl
@[simp] theorem onAlerts_rx : (s.onAlerts f).rx = s.rx := rfl
@[simp] theorem onAlerts_tyres : (s.onAlerts f).tyres = s.tyres := rfl
@[simp] theorem onAlerts_link : (s.onAlerts f).link = s.link := rfl
@[simp] theorem onAlerts_relay : (s.onAlerts f).relay = s.relay := rfl
@[simp] theorem onAlerts_alerts : (s.onAlerts f).alerts = f s.alerts := rfl
@[simp] theorem onAlerts_mgmt : (s.onAlerts f).mgmt = s.mgmt := rfl
@[simp] theorem onAlerts_store : (s.onAlerts f).store = s.store := rfl

end OnAlerts

/-! ### State.onMgmt -/

section OnMgmt

variable (f : Mgmt → Mgmt) (s : State)

@[simp] theorem onMgmt_powered : (s.onMgmt f).powered = s.powered := rfl
@[simp] theorem onMgmt_resetLine : (s.onMgmt f).resetLine = s.resetLine := rfl
@[simp] theorem onMgmt_straps : (s.onMgmt f).straps = s.straps := rfl
@[simp] theorem onMgmt_timeBase : (s.onMgmt f).timeBase = s.timeBase := rfl
@[simp] theorem onMgmt_free : (s.onMgmt f).free = s.free := rfl
@[simp] theorem onMgmt_pending : (s.onMgmt f).pending = s.pending := rfl
@[simp] theorem onMgmt_tables : (s.onMgmt f).tables = s.tables := rfl
@[simp] theorem onMgmt_sample : (s.onMgmt f).sample = s.sample := rfl
@[simp] theorem onMgmt_valve : (s.onMgmt f).valve = s.valve := rfl
@[simp] theorem onMgmt_load : (s.onMgmt f).load = s.load := rfl
@[simp] theorem onMgmt_arbiter : (s.onMgmt f).arbiter = s.arbiter := rfl
@[simp] theorem onMgmt_air : (s.onMgmt f).air = s.air := rfl
@[simp] theorem onMgmt_roll : (s.onMgmt f).roll = s.roll := rfl
@[simp] theorem onMgmt_rx : (s.onMgmt f).rx = s.rx := rfl
@[simp] theorem onMgmt_tyres : (s.onMgmt f).tyres = s.tyres := rfl
@[simp] theorem onMgmt_link : (s.onMgmt f).link = s.link := rfl
@[simp] theorem onMgmt_relay : (s.onMgmt f).relay = s.relay := rfl
@[simp] theorem onMgmt_alerts : (s.onMgmt f).alerts = s.alerts := rfl
@[simp] theorem onMgmt_mgmt : (s.onMgmt f).mgmt = f s.mgmt := rfl
@[simp] theorem onMgmt_store : (s.onMgmt f).store = s.store := rfl

end OnMgmt

/-! ### State.onStore -/

section OnStore

variable (f : Store → Store) (s : State)

@[simp] theorem onStore_powered : (s.onStore f).powered = s.powered := rfl
@[simp] theorem onStore_resetLine : (s.onStore f).resetLine = s.resetLine := rfl
@[simp] theorem onStore_straps : (s.onStore f).straps = s.straps := rfl
@[simp] theorem onStore_timeBase : (s.onStore f).timeBase = s.timeBase := rfl
@[simp] theorem onStore_free : (s.onStore f).free = s.free := rfl
@[simp] theorem onStore_pending : (s.onStore f).pending = s.pending := rfl
@[simp] theorem onStore_tables : (s.onStore f).tables = s.tables := rfl
@[simp] theorem onStore_sample : (s.onStore f).sample = s.sample := rfl
@[simp] theorem onStore_valve : (s.onStore f).valve = s.valve := rfl
@[simp] theorem onStore_load : (s.onStore f).load = s.load := rfl
@[simp] theorem onStore_arbiter : (s.onStore f).arbiter = s.arbiter := rfl
@[simp] theorem onStore_air : (s.onStore f).air = s.air := rfl
@[simp] theorem onStore_roll : (s.onStore f).roll = s.roll := rfl
@[simp] theorem onStore_rx : (s.onStore f).rx = s.rx := rfl
@[simp] theorem onStore_tyres : (s.onStore f).tyres = s.tyres := rfl
@[simp] theorem onStore_link : (s.onStore f).link = s.link := rfl
@[simp] theorem onStore_relay : (s.onStore f).relay = s.relay := rfl
@[simp] theorem onStore_alerts : (s.onStore f).alerts = s.alerts := rfl
@[simp] theorem onStore_mgmt : (s.onStore f).mgmt = s.mgmt := rfl
@[simp] theorem onStore_store : (s.onStore f).store = f s.store := rfl

end OnStore

/-! ### State.onTables -/

section OnTables

variable (f : Tables → Tables) (s : State)

@[simp] theorem onTables_powered : (s.onTables f).powered = s.powered := rfl
@[simp] theorem onTables_resetLine : (s.onTables f).resetLine = s.resetLine := rfl
@[simp] theorem onTables_straps : (s.onTables f).straps = s.straps := rfl
@[simp] theorem onTables_timeBase : (s.onTables f).timeBase = s.timeBase := rfl
@[simp] theorem onTables_free : (s.onTables f).free = s.free := rfl
@[simp] theorem onTables_pending : (s.onTables f).pending = s.pending := rfl
@[simp] theorem onTables_tables : (s.onTables f).tables = f s.tables := rfl
@[simp] theorem onTables_sample : (s.onTables f).sample = s.sample := rfl
@[simp] theorem onTables_valve : (s.onTables f).valve = s.valve := rfl
@[simp] theorem onTables_load : (s.onTables f).load = s.load := rfl
@[simp] theorem onTables_arbiter : (s.onTables f).arbiter = s.arbiter := rfl
@[simp] theorem onTables_air : (s.onTables f).air = s.air := rfl
@[simp] theorem onTables_roll : (s.onTables f).roll = s.roll := rfl
@[simp] theorem onTables_rx : (s.onTables f).rx = s.rx := rfl
@[simp] theorem onTables_tyres : (s.onTables f).tyres = s.tyres := rfl
@[simp] theorem onTables_link : (s.onTables f).link = s.link := rfl
@[simp] theorem onTables_relay : (s.onTables f).relay = s.relay := rfl
@[simp] theorem onTables_alerts : (s.onTables f).alerts = s.alerts := rfl
@[simp] theorem onTables_mgmt : (s.onTables f).mgmt = s.mgmt := rfl
@[simp] theorem onTables_store : (s.onTables f).store = s.store := rfl

end OnTables

/-! ### State.spend and State.withPending -/

@[simp] theorem spend_powered (s : State) : s.spend.powered = s.powered := rfl
@[simp] theorem spend_resetLine (s : State) : s.spend.resetLine = s.resetLine := rfl
@[simp] theorem spend_straps (s : State) : s.spend.straps = s.straps := rfl
@[simp] theorem spend_timeBase (s : State) : s.spend.timeBase = s.timeBase := rfl
@[simp] theorem spend_free (s : State) : s.spend.free = s.free + 1 := rfl
@[simp] theorem spend_pending (s : State) : s.spend.pending = s.pending := rfl
@[simp] theorem spend_tables (s : State) : s.spend.tables = s.tables := rfl
@[simp] theorem spend_sample (s : State) : s.spend.sample = s.sample := rfl
@[simp] theorem spend_valve (s : State) : s.spend.valve = s.valve := rfl
@[simp] theorem spend_load (s : State) : s.spend.load = s.load := rfl
@[simp] theorem spend_arbiter (s : State) : s.spend.arbiter = s.arbiter := rfl
@[simp] theorem spend_air (s : State) : s.spend.air = s.air := rfl
@[simp] theorem spend_roll (s : State) : s.spend.roll = s.roll := rfl
@[simp] theorem spend_rx (s : State) : s.spend.rx = s.rx := rfl
@[simp] theorem spend_tyres (s : State) : s.spend.tyres = s.tyres := rfl
@[simp] theorem spend_link (s : State) : s.spend.link = s.link := rfl
@[simp] theorem spend_relay (s : State) : s.spend.relay = s.relay := rfl
@[simp] theorem spend_alerts (s : State) : s.spend.alerts = s.alerts := rfl
@[simp] theorem spend_mgmt (s : State) : s.spend.mgmt = s.mgmt := rfl
@[simp] theorem spend_store (s : State) : s.spend.store = s.store := rfl
@[simp] theorem withPending_powered (s : State) (q : List Instr) : (s.withPending q).powered = s.powered := rfl
@[simp] theorem withPending_resetLine (s : State) (q : List Instr) : (s.withPending q).resetLine = s.resetLine := rfl
@[simp] theorem withPending_straps (s : State) (q : List Instr) : (s.withPending q).straps = s.straps := rfl
@[simp] theorem withPending_timeBase (s : State) (q : List Instr) : (s.withPending q).timeBase = s.timeBase := rfl
@[simp] theorem withPending_free (s : State) (q : List Instr) : (s.withPending q).free = s.free := rfl
@[simp] theorem withPending_pending (s : State) (q : List Instr) : (s.withPending q).pending = q := rfl
@[simp] theorem withPending_tables (s : State) (q : List Instr) : (s.withPending q).tables = s.tables := rfl
@[simp] theorem withPending_sample (s : State) (q : List Instr) : (s.withPending q).sample = s.sample := rfl
@[simp] theorem withPending_valve (s : State) (q : List Instr) : (s.withPending q).valve = s.valve := rfl
@[simp] theorem withPending_load (s : State) (q : List Instr) : (s.withPending q).load = s.load := rfl
@[simp] theorem withPending_arbiter (s : State) (q : List Instr) : (s.withPending q).arbiter = s.arbiter := rfl
@[simp] theorem withPending_air (s : State) (q : List Instr) : (s.withPending q).air = s.air := rfl
@[simp] theorem withPending_roll (s : State) (q : List Instr) : (s.withPending q).roll = s.roll := rfl
@[simp] theorem withPending_rx (s : State) (q : List Instr) : (s.withPending q).rx = s.rx := rfl
@[simp] theorem withPending_tyres (s : State) (q : List Instr) : (s.withPending q).tyres = s.tyres := rfl
@[simp] theorem withPending_link (s : State) (q : List Instr) : (s.withPending q).link = s.link := rfl
@[simp] theorem withPending_relay (s : State) (q : List Instr) : (s.withPending q).relay = s.relay := rfl
@[simp] theorem withPending_alerts (s : State) (q : List Instr) : (s.withPending q).alerts = s.alerts := rfl
@[simp] theorem withPending_mgmt (s : State) (q : List Instr) : (s.withPending q).mgmt = s.mgmt := rfl
@[simp] theorem withPending_store (s : State) (q : List Instr) : (s.withPending q).store = s.store := rfl

/-! ### State.onChannel -/

@[simp] theorem onChannel_powered (c : Channel) (f : ChannelRec → ChannelRec) (s : State) : (s.onChannel c f).powered = s.powered := rfl
@[simp] theorem onChannel_resetLine (c : Channel) (f : ChannelRec → ChannelRec) (s : State) : (s.onChannel c f).resetLine = s.resetLine := rfl
@[simp] theorem onChannel_straps (c : Channel) (f : ChannelRec → ChannelRec) (s : State) : (s.onChannel c f).straps = s.straps := rfl
@[simp] theorem onChannel_timeBase (c : Channel) (f : ChannelRec → ChannelRec) (s : State) : (s.onChannel c f).timeBase = s.timeBase := rfl
@[simp] theorem onChannel_free (c : Channel) (f : ChannelRec → ChannelRec) (s : State) : (s.onChannel c f).free = s.free := rfl
@[simp] theorem onChannel_pending (c : Channel) (f : ChannelRec → ChannelRec) (s : State) : (s.onChannel c f).pending = s.pending := rfl
@[simp] theorem onChannel_tables (c : Channel) (f : ChannelRec → ChannelRec) (s : State) : (s.onChannel c f).tables = s.tables := rfl
@[simp] theorem onChannel_sample (c : Channel) (f : ChannelRec → ChannelRec) (s : State) : (s.onChannel c f).sample = s.sample := rfl
@[simp] theorem onChannel_valve (c : Channel) (f : ChannelRec → ChannelRec) (s : State) : (s.onChannel c f).valve = s.valve := rfl
@[simp] theorem onChannel_load (c : Channel) (f : ChannelRec → ChannelRec) (s : State) : (s.onChannel c f).load = s.load := rfl
@[simp] theorem onChannel_air (c : Channel) (f : ChannelRec → ChannelRec) (s : State) : (s.onChannel c f).air = s.air := rfl
@[simp] theorem onChannel_roll (c : Channel) (f : ChannelRec → ChannelRec) (s : State) : (s.onChannel c f).roll = s.roll := rfl
@[simp] theorem onChannel_rx (c : Channel) (f : ChannelRec → ChannelRec) (s : State) : (s.onChannel c f).rx = s.rx := rfl
@[simp] theorem onChannel_tyres (c : Channel) (f : ChannelRec → ChannelRec) (s : State) : (s.onChannel c f).tyres = s.tyres := rfl
@[simp] theorem onChannel_link (c : Channel) (f : ChannelRec → ChannelRec) (s : State) : (s.onChannel c f).link = s.link := rfl
@[simp] theorem onChannel_relay (c : Channel) (f : ChannelRec → ChannelRec) (s : State) : (s.onChannel c f).relay = s.relay := rfl
@[simp] theorem onChannel_alerts (c : Channel) (f : ChannelRec → ChannelRec) (s : State) : (s.onChannel c f).alerts = s.alerts := rfl
@[simp] theorem onChannel_mgmt (c : Channel) (f : ChannelRec → ChannelRec) (s : State) : (s.onChannel c f).mgmt = s.mgmt := rfl
@[simp] theorem onChannel_store (c : Channel) (f : ChannelRec → ChannelRec) (s : State) : (s.onChannel c f).store = s.store := rfl

/-! ### State.onTyre -/

@[simp] theorem onTyre_powered (p : Position) (f : TyreRec → TyreRec) (s : State) : (s.onTyre p f).powered = s.powered := rfl
@[simp] theorem onTyre_resetLine (p : Position) (f : TyreRec → TyreRec) (s : State) : (s.onTyre p f).resetLine = s.resetLine := rfl
@[simp] theorem onTyre_straps (p : Position) (f : TyreRec → TyreRec) (s : State) : (s.onTyre p f).straps = s.straps := rfl
@[simp] theorem onTyre_timeBase (p : Position) (f : TyreRec → TyreRec) (s : State) : (s.onTyre p f).timeBase = s.timeBase := rfl
@[simp] theorem onTyre_free (p : Position) (f : TyreRec → TyreRec) (s : State) : (s.onTyre p f).free = s.free := rfl
@[simp] theorem onTyre_pending (p : Position) (f : TyreRec → TyreRec) (s : State) : (s.onTyre p f).pending = s.pending := rfl
@[simp] theorem onTyre_tables (p : Position) (f : TyreRec → TyreRec) (s : State) : (s.onTyre p f).tables = s.tables := rfl
@[simp] theorem onTyre_sample (p : Position) (f : TyreRec → TyreRec) (s : State) : (s.onTyre p f).sample = s.sample := rfl
@[simp] theorem onTyre_valve (p : Position) (f : TyreRec → TyreRec) (s : State) : (s.onTyre p f).valve = s.valve := rfl
@[simp] theorem onTyre_load (p : Position) (f : TyreRec → TyreRec) (s : State) : (s.onTyre p f).load = s.load := rfl
@[simp] theorem onTyre_arbiter (p : Position) (f : TyreRec → TyreRec) (s : State) : (s.onTyre p f).arbiter = s.arbiter := rfl
@[simp] theorem onTyre_air (p : Position) (f : TyreRec → TyreRec) (s : State) : (s.onTyre p f).air = s.air := rfl
@[simp] theorem onTyre_roll (p : Position) (f : TyreRec → TyreRec) (s : State) : (s.onTyre p f).roll = s.roll := rfl
@[simp] theorem onTyre_rx (p : Position) (f : TyreRec → TyreRec) (s : State) : (s.onTyre p f).rx = s.rx := rfl
@[simp] theorem onTyre_link (p : Position) (f : TyreRec → TyreRec) (s : State) : (s.onTyre p f).link = s.link := rfl
@[simp] theorem onTyre_relay (p : Position) (f : TyreRec → TyreRec) (s : State) : (s.onTyre p f).relay = s.relay := rfl
@[simp] theorem onTyre_alerts (p : Position) (f : TyreRec → TyreRec) (s : State) : (s.onTyre p f).alerts = s.alerts := rfl
@[simp] theorem onTyre_mgmt (p : Position) (f : TyreRec → TyreRec) (s : State) : (s.onTyre p f).mgmt = s.mgmt := rfl
@[simp] theorem onTyre_store (p : Position) (f : TyreRec → TyreRec) (s : State) : (s.onTyre p f).store = s.store := rfl

/-! ### State.onEstimate -/

@[simp] theorem onEstimate_powered (g : Group) (f : Estimate → Estimate) (s : State) : (s.onEstimate g f).powered = s.powered := rfl
@[simp] theorem onEstimate_resetLine (g : Group) (f : Estimate → Estimate) (s : State) : (s.onEstimate g f).resetLine = s.resetLine := rfl
@[simp] theorem onEstimate_straps (g : Group) (f : Estimate → Estimate) (s : State) : (s.onEstimate g f).straps = s.straps := rfl
@[simp] theorem onEstimate_timeBase (g : Group) (f : Estimate → Estimate) (s : State) : (s.onEstimate g f).timeBase = s.timeBase := rfl
@[simp] theorem onEstimate_free (g : Group) (f : Estimate → Estimate) (s : State) : (s.onEstimate g f).free = s.free := rfl
@[simp] theorem onEstimate_pending (g : Group) (f : Estimate → Estimate) (s : State) : (s.onEstimate g f).pending = s.pending := rfl
@[simp] theorem onEstimate_tables (g : Group) (f : Estimate → Estimate) (s : State) : (s.onEstimate g f).tables = s.tables := rfl
@[simp] theorem onEstimate_sample (g : Group) (f : Estimate → Estimate) (s : State) : (s.onEstimate g f).sample = s.sample := rfl
@[simp] theorem onEstimate_valve (g : Group) (f : Estimate → Estimate) (s : State) : (s.onEstimate g f).valve = s.valve := rfl
@[simp] theorem onEstimate_arbiter (g : Group) (f : Estimate → Estimate) (s : State) : (s.onEstimate g f).arbiter = s.arbiter := rfl
@[simp] theorem onEstimate_air (g : Group) (f : Estimate → Estimate) (s : State) : (s.onEstimate g f).air = s.air := rfl
@[simp] theorem onEstimate_roll (g : Group) (f : Estimate → Estimate) (s : State) : (s.onEstimate g f).roll = s.roll := rfl
@[simp] theorem onEstimate_rx (g : Group) (f : Estimate → Estimate) (s : State) : (s.onEstimate g f).rx = s.rx := rfl
@[simp] theorem onEstimate_tyres (g : Group) (f : Estimate → Estimate) (s : State) : (s.onEstimate g f).tyres = s.tyres := rfl
@[simp] theorem onEstimate_link (g : Group) (f : Estimate → Estimate) (s : State) : (s.onEstimate g f).link = s.link := rfl
@[simp] theorem onEstimate_relay (g : Group) (f : Estimate → Estimate) (s : State) : (s.onEstimate g f).relay = s.relay := rfl
@[simp] theorem onEstimate_alerts (g : Group) (f : Estimate → Estimate) (s : State) : (s.onEstimate g f).alerts = s.alerts := rfl
@[simp] theorem onEstimate_mgmt (g : Group) (f : Estimate → Estimate) (s : State) : (s.onEstimate g f).mgmt = s.mgmt := rfl
@[simp] theorem onEstimate_store (g : Group) (f : Estimate → Estimate) (s : State) : (s.onEstimate g f).store = s.store := rfl

end Sys2Proof.Machine
end

