-- ==== Sys2Proof/Laws/Frames.lean ====
section
/-! SUPPORT. What each shared operation may change: one lemma per operation, over the parts of the state. -/

namespace Sys2Proof.Machine

open Sys2Proof

theorem SamePart.same (s : State) (p : Part) : SamePart s s p := by cases p <;> rfl

theorem SamePart.chain {s t u : State} {p : Part} (h : SamePart s t p) (k : SamePart t u p) : SamePart s u p := by
  cases p <;> exact Eq.trans k h

theorem ChangesOnly.nothing (ps : List Part) (s : State) : ChangesOnly ps s s := fun p _ => SamePart.same s p

theorem ChangesOnly.andThen {ps : List Part} {s t u : State} (h : ChangesOnly ps s t) (k : ChangesOnly ps t u) : ChangesOnly ps s u :=
  fun p hp => (h p hp).chain (k p hp)

theorem ChangesOnly.within {ps qs : List Part} {s t : State} (h : ChangesOnly ps s t) (hs : ps ⊆ qs) : ChangesOnly qs s t :=
  fun p hp => h p fun hq => hp (hs hq)

theorem ChangesOnly.ite {ps : List Part} {s t u : State} (b : Prop) [Decidable b] (h : ChangesOnly ps s t)
    (k : ChangesOnly ps s u) : ChangesOnly ps s (if b then t else u) := by
  split <;> assumption

theorem foldl_touches {ps : List Part} {β : Type} (f : State → β → State) (l : List β)
    (h : ∀ s b, ChangesOnly ps s (f s b)) (s : State) : ChangesOnly ps s (l.foldl f s) := by
  induction l generalizing s with
  | nil => exact ChangesOnly.nothing ps s
  | cons b l ih => exact (h s b).andThen (ih _)

section Updates

variable (s : State)

theorem onSample_touches (f : SamplePort → SamplePort) : ChangesOnly [.sample] s (s.onSample f) := by
  intro p hp; cases p <;> first | rfl | simp at hp

theorem onValve_touches (f : ValvePort → ValvePort) : ChangesOnly [.valve] s (s.onValve f) := by
  intro p hp; cases p <;> first | rfl | simp at hp

theorem onLoad_touches (f : Pair Estimate → Pair Estimate) : ChangesOnly [.load] s (s.onLoad f) := by
  intro p hp; cases p <;> first | rfl | simp at hp

theorem onArbiter_touches (f : Arbiter → Arbiter) : ChangesOnly [.arbiter] s (s.onArbiter f) := by
  intro p hp; cases p <;> first | rfl | simp at hp

theorem onAir_touches (f : Air → Air) : ChangesOnly [.air] s (s.onAir f) := by
  intro p hp; cases p <;> first | rfl | simp at hp

theorem onRoll_touches (f : Roll → Roll) : ChangesOnly [.roll] s (s.onRoll f) := by
  intro p hp; cases p <;> first | rfl | simp at hp

theorem onRx_touches (f : Receiver → Receiver) : ChangesOnly [.rx] s (s.onRx f) := by
  intro p hp; cases p <;> first | rfl | simp at hp

theorem onTyres_touches (f : Tyres → Tyres) : ChangesOnly [.tyres] s (s.onTyres f) := by
  intro p hp; cases p <;> first | rfl | simp at hp

theorem onLink_touches (f : Link → Link) : ChangesOnly [.link] s (s.onLink f) := by
  intro p hp; cases p <;> first | rfl | simp at hp

theorem onRelay_touches (f : Relay → Relay) : ChangesOnly [.relay] s (s.onRelay f) := by
  intro p hp; cases p <;> first | rfl | simp at hp

theorem onAlerts_touches (f : Alerts → Alerts) : ChangesOnly [.alerts] s (s.onAlerts f) := by
  intro p hp; cases p <;> first | rfl | simp at hp

theorem onMgmt_touches (f : Mgmt → Mgmt) : ChangesOnly [.mgmt] s (s.onMgmt f) := by
  intro p hp; cases p <;> first | rfl | simp at hp

theorem onStore_touches (f : Store → Store) : ChangesOnly [.store] s (s.onStore f) := by
  intro p hp; cases p <;> first | rfl | simp at hp

theorem onTables_touches (f : Tables → Tables) : ChangesOnly [.tables] s (s.onTables f) := by
  intro p hp; cases p <;> first | rfl | simp at hp

theorem onChannel_touches (c : Channel) (f : ChannelRec → ChannelRec) : ChangesOnly [.arbiter] s (s.onChannel c f) :=
  onArbiter_touches s _

theorem onTyre_touches (p : Position) (f : TyreRec → TyreRec) : ChangesOnly [.tyres] s (s.onTyre p f) :=
  onTyres_touches s _

theorem onEstimate_touches (g : Group) (f : Estimate → Estimate) : ChangesOnly [.load] s (s.onEstimate g f) :=
  onLoad_touches s _

theorem spend_touches : ChangesOnly [.free] s s.spend := by
  intro p hp; cases p <;> first | rfl | simp at hp

end Updates

section Composer

variable (s : State)

theorem raiseAlertAt_touches (time : Stamp) (c : Cause) (sub : Subject) (v : Nat) :
    ChangesOnly [.alerts] s (raiseAlertAt time c sub v s) := onAlerts_touches s _

theorem raiseAlert_touches (c : Cause) (sub : Subject) (v : Nat) : ChangesOnly [.alerts] s (raiseAlert c sub v s) :=
  raiseAlertAt_touches s s.timeBase c sub v

theorem alertOutcome_touches (acked : Bool) : ChangesOnly [.alerts] s (alertOutcome acked s) := onAlerts_touches s _

theorem fillCapture_touches (k : CaptureKind) (sub : Subject) (m n : Nat) :
    ChangesOnly [.alerts] s (fillCapture k sub m n s) := by
  unfold fillCapture
  split <;> exact onAlerts_touches s _

theorem fillCaptureBlock_touches (k : CaptureKind) (sub : Subject) : ChangesOnly [.alerts] s (fillCaptureBlock k sub s) :=
  fillCapture_touches s k sub 0 0

theorem fillCaptureChannel_touches (k : CaptureKind) (c : Channel) : ChangesOnly [.alerts] s (fillCaptureChannel k c s) :=
  fillCapture_touches s k _ _ _

theorem emptyCapture_touches : ChangesOnly [.alerts] s (emptyCapture s) := onAlerts_touches s _

theorem statusTimerExpiry_touches : ChangesOnly [.alerts] s (statusTimerExpiry s) :=
  ChangesOnly.ite _ (onAlerts_touches s _) (ChangesOnly.nothing _ s)

theorem statusOutcome_touches (first acked : Bool) : ChangesOnly [.alerts] s (statusOutcome first acked s) :=
  onAlerts_touches s _

theorem placeEntry_touches (fs : List CanFrame) : ChangesOnly [.mgmt] s (placeEntry fs s) := onMgmt_touches s _

theorem answer_touches (code : Nat) (tag : Byte) (a : Answer) : ChangesOnly [.mgmt] s (answer code tag a s) :=
  placeEntry_touches s _

/-- An answer given after other work. -/
theorem answer_after {ps : List Part} {s t : State} (h : ChangesOnly ps s t) (code : Nat) (tag : Byte) (a : Answer)
    (hp : Part.mgmt ∈ ps) : ChangesOnly ps s (answer code tag a t) :=
  h.andThen ((answer_touches t code tag a).within (by simpa using hp))

theorem endPendingHalt_touches (c : Channel) (r : Completion) : ChangesOnly [.arbiter, .mgmt] s (endPendingHalt c r s) := by
  unfold endPendingHalt
  split
  · exact answer_after ((onChannel_touches s _ _).within (by decide)) _ _ _ (by decide)
  · exact ChangesOnly.nothing _ s

theorem cancelPendingHalt_touches (c : Channel) : ChangesOnly [.arbiter, .mgmt] s (cancelPendingHalt c s) :=
  endPendingHalt_touches s c _

end Composer

section TableStore

variable (s : State)

theorem storeIdle_touches : ChangesOnly [.store] s (storeIdle s) := onStore_touches s _

theorem endOperation_touches : ChangesOnly [.store] s (endOperation s) :=
  ChangesOnly.ite _ (storeIdle_touches s) (onStore_touches s _)

theorem startTally_touches (k : Fin 4) : ChangesOnly [.store] s (startTally k s) := onStore_touches s _

theorem requestTally_touches (k : Fin 4) : ChangesOnly [.store] s (requestTally k s) :=
  ChangesOnly.ite _ (onStore_touches s _) (ChangesOnly.ite _ (onStore_touches s _) (startTally_touches s k))

theorem pendingTallyStart_touches : ChangesOnly [.store] s (pendingTallyStart s) := by
  unfold pendingTallyStart
  split
  · split
    · exact (onStore_touches s _).andThen
        (ChangesOnly.ite _ ((onStore_touches _ _).andThen (endOperation_touches _)) (startTally_touches _ _))
    · exact ChangesOnly.nothing _ s
  · exact ChangesOnly.nothing _ s

theorem tallyBitProgrammed_touches : ChangesOnly [.store] s (tallyBitProgrammed s) := by
  unfold tallyBitProgrammed
  split
  · exact ChangesOnly.ite _ ((onStore_touches s _).andThen (endOperation_touches _)) (ChangesOnly.nothing _ s)
  · exact ChangesOnly.nothing _ s

theorem completeStore_touches (r : Completion) : ChangesOnly [.mgmt] s (completeStore r s) := by
  unfold completeStore
  split
  · exact (onMgmt_touches s _).andThen (answer_touches _ _ _ _)
  · exact ChangesOnly.nothing _ s

theorem holdStoreTag_touches (code : Nat) (tag : Byte) : ChangesOnly [.mgmt] s (holdStoreTag code tag s) :=
  onMgmt_touches s _

theorem startWrite_touches (b : Fin 5) : ChangesOnly [.store, .tyres] s (startWrite b s) :=
  ((onStore_touches s _).within (by decide)).andThen ((onTyres_touches _ _).within (by decide))

theorem blockWriteComplete_touches : ChangesOnly [.store, .tyres, .mgmt] s (blockWriteComplete s) := by
  unfold blockWriteComplete
  split
  · exact ChangesOnly.ite _ (((((onStore_touches s _).within (by decide)).andThen
      ((completeStore_touches _ _).within (by decide))).andThen ((onTyres_touches _ _).within (by decide))).andThen
      ((endOperation_touches _).within (by decide))) (ChangesOnly.nothing _ s)
  · exact ChangesOnly.nothing _ s

theorem waitingBlock3StoreStart_touches : ChangesOnly [.store, .tyres] s (waitingBlock3StoreStart s) :=
  ChangesOnly.ite _ (((onTyres_touches s _).within (by decide)).andThen
    (ChangesOnly.ite _ ((endOperation_touches _).within (by decide)) (startWrite_touches _ 3))) (ChangesOnly.nothing _ s)

theorem requestBlock3_touches : ChangesOnly [.store, .tyres] s (requestBlock3 s) :=
  ChangesOnly.ite _ ((onTyres_touches s _).within (by decide)) (ChangesOnly.ite _ (ChangesOnly.nothing _ s) (startWrite_touches s 3))

theorem startErase_touches : ChangesOnly [.store] s (startErase s) := onStore_touches s _

theorem tallyEraseComplete_touches : ChangesOnly [.store, .mgmt] s (tallyEraseComplete s) :=
  ChangesOnly.ite _ ((((onStore_touches s _).within (by decide)).andThen
    ((completeStore_touches _ _).within (by decide))).andThen ((endOperation_touches _).within (by decide)))
    (ChangesOnly.nothing _ s)

theorem startProtect_touches (w : BitVec 16) : ChangesOnly [.store] s (startProtect w s) := onStore_touches s _

theorem protectionWordProgrammed_touches : ChangesOnly [.store, .mgmt] s (protectionWordProgrammed s) := by
  unfold protectionWordProgrammed
  split
  · exact ChangesOnly.ite _ ((((onStore_touches s _).within (by decide)).andThen
      ((completeStore_touches _ _).within (by decide))).andThen ((endOperation_touches _).within (by decide)))
      (ChangesOnly.nothing _ s)
  · exact ChangesOnly.nothing _ s

theorem raiseIncomplete_touches (b : Nat) : ChangesOnly [.alerts, .store] s (raiseIncomplete b s) := by
  unfold raiseIncomplete
  split
  · exact ((((raiseAlert_touches s _ _ _).andThen (fillCaptureBlock_touches _ _ _)).within (by decide)).andThen
      ((onStore_touches _ _).within (by decide)))
  · exact ChangesOnly.nothing _ s

end TableStore

section LoadEstimator

variable (s : State)

theorem judgeOverload_touches (g : Group) : ChangesOnly [.load, .store] s (judgeOverload g s) := by
  unfold judgeOverload
  exact ((onEstimate_touches s _ _).within (by decide)).andThen
    (ChangesOnly.ite _ ((requestTally_touches _ _).within (by decide)) (ChangesOnly.nothing _ _))

theorem estimateTakesSet_touches (g : Group) : ChangesOnly [.load, .store, .alerts] s (estimateTakesSet g s) := by
  have upd : ∀ t, ChangesOnly [.load, .store, .alerts] t (unfrozenStep g t) := by
    intro t
    unfold unfrozenStep seedEstimate updateEstimate invalidateEstimate
    split
    · exact ((onEstimate_touches t _ _).within (by decide)).andThen ((judgeOverload_touches _ g).within (by decide))
    · exact ChangesOnly.nothing _ t
    · exact ((onEstimate_touches t _ _).within (by decide)).andThen ((judgeOverload_touches _ g).within (by decide))
    · exact ChangesOnly.ite _ ((onEstimate_touches t _ _).within (by decide)) (ChangesOnly.nothing _ t)
  have rep : ∀ t, ChangesOnly [.load, .store, .alerts] t (reportFallback g t) := fun t =>
    ChangesOnly.ite _ (((onEstimate_touches t _ _).within (by decide)).andThen
      ((raiseAlert_touches _ _ _ _).within (by decide))) (ChangesOnly.nothing _ t)
  have note : ChangesOnly [.load, .store, .alerts] s (noteSet g s) := (onEstimate_touches s _ _).within (by decide)
  exact (note.andThen (ChangesOnly.ite _ (ChangesOnly.nothing _ _) (upd _))).andThen (rep _)

theorem estimatorTakesSet_touches : ChangesOnly [.load, .store, .alerts] s (estimatorTakesSet s) :=
  (estimateTakesSet_touches s .a).andThen (estimateTakesSet_touches _ .b)

theorem estimateTakesT2_touches (g : Group) : ChangesOnly [.load, .store] s (estimateTakesT2 g s) := by
  unfold estimateTakesT2
  split
  · exact ((onEstimate_touches s _ _).within (by decide)).andThen (judgeOverload_touches _ g)
  · exact (onEstimate_touches s _ _).within (by decide)

theorem estimatorTakesT2_touches : ChangesOnly [.load, .store] s (estimatorTakesT2 s) :=
  (estimateTakesT2_touches s .a).andThen (estimateTakesT2_touches _ .b)

end LoadEstimator

section PressureArbiter

variable (s : State)

theorem sympathyBackup_touches (c : Channel) : ChangesOnly [.arbiter, .alerts, .mgmt] s (sympathyBackup c s) := by
  have back : ∀ t, ChangesOnly [.arbiter, .alerts, .mgmt] t
      (cancelPendingHalt c (t.onChannel c (goTo .backup (some .sympathy)))) := fun t =>
    ((onChannel_touches t _ _).within (by decide)).andThen ((cancelPendingHalt_touches _ c).within (by decide))
  unfold sympathyBackup
  split
  · exact back s
  · exact back s
  · exact ((raiseAlert_touches s _ _ _).within (by decide)).andThen (back _)
  · exact ChangesOnly.nothing _ s
  · exact ChangesOnly.nothing _ s
  · exact ChangesOnly.nothing _ s

theorem applyPolicy_touches (c : Channel) : ChangesOnly [.arbiter, .alerts, .mgmt] s (applyPolicy c s) :=
  ChangesOnly.ite _ (foldl_touches _ _ (fun t d => ChangesOnly.ite _ (ChangesOnly.nothing _ t) (sympathyBackup_touches t d)) _)
    (ChangesOnly.nothing _ s)

theorem enterFaulted_touches (c : Channel) (k : FaultCause) :
    ChangesOnly [.arbiter, .alerts, .mgmt, .store] s (enterFaulted c k s) :=
  (((((onChannel_touches s _ _).within (by decide)).andThen ((raiseAlert_touches _ _ _ _).within
    (by decide))).andThen ((requestTally_touches _ _).within (by decide))).andThen
    ((fillCaptureChannel_touches _ _ _).within (by decide))).andThen
    (((cancelPendingHalt_touches _ c).within (by decide)).andThen ((applyPolicy_touches _ c).within (by decide)))

theorem errorEvent_touches (c : Channel) : ChangesOnly [.arbiter, .alerts, .mgmt, .store] s (errorEvent c s) := by
  unfold errorEvent
  exact ((onChannel_touches s _ _).within (by decide)).andThen
    (ChangesOnly.ite _ (enterFaulted_touches _ _ _) (ChangesOnly.nothing _ _))

theorem hardFault_touches (c : Channel) (k : FaultCause) :
    ChangesOnly [.arbiter, .alerts, .mgmt, .store] s (hardFault c k s) :=
  ChangesOnly.ite _ (ChangesOnly.nothing _ s)
    (((onChannel_touches s _ _).within (by decide)).andThen (enterFaulted_touches _ _ _))

theorem faultByThreshold_touches (c : Channel) :
    ChangesOnly [.arbiter, .alerts, .mgmt, .store] s (faultByThreshold s c) :=
  ChangesOnly.ite _ (enterFaulted_touches s _ _) (ChangesOnly.nothing _ s)

theorem channelEntersFsB_touches (c : Channel) : ChangesOnly [.arbiter, .alerts, .mgmt] s (channelEntersFsB c s) := by
  unfold channelEntersFsB
  refine ChangesOnly.andThen ?_ ((cancelPendingHalt_touches _ c).within (by decide))
  split
  · exact (onChannel_touches s _ _).within (by decide)
  · exact ((raiseAlert_touches s _ _ _).within (by decide)).andThen ((onChannel_touches _ _ _).within (by decide))
  · exact ChangesOnly.nothing _ s
  · exact ChangesOnly.nothing _ s
  · exact ChangesOnly.nothing _ s
  · exact ChangesOnly.nothing _ s

theorem evaluateFailSafe_touches : ChangesOnly [.arbiter, .alerts, .mgmt] s (evaluateFailSafe s) := by
  unfold evaluateFailSafe
  refine ChangesOnly.ite _ (ChangesOnly.nothing _ s) ?_
  extract_lets s1
  refine ChangesOnly.andThen (t := s1) ((onArbiter_touches s _).within (by decide)) ?_
  split
  · exact foldl_touches _ _ (fun t c => channelEntersFsB_touches t c) _
  · exact (onArbiter_touches _ _).within (by decide)
  · exact (onArbiter_touches _ _).within (by decide)

theorem deriveDemand_touches : ChangesOnly [.arbiter] s (deriveDemand s) := onArbiter_touches s _

theorem computeCommands_touches : ChangesOnly [.arbiter] s (computeCommands s) := onArbiter_touches s _

/-- The record composed is the next one after a T1 activation (R38). -/
@[simp] theorem computeCommands_backupNext : (computeCommands s).arbiter.backupNext = false := rfl

theorem holdTimerExpiry_touches (c : Channel) : ChangesOnly [.arbiter] s (holdTimerExpiry c s) :=
  ChangesOnly.ite _ (onChannel_touches s _ _) (ChangesOnly.nothing _ s)

theorem valveRecordSent_touches : ChangesOnly [.valve] s (valveRecordSent s) := by
  unfold valveRecordSent
  split
  · exact onValve_touches s _
  · exact ChangesOnly.nothing _ s

theorem pendingRecordTransmit_touches : ChangesOnly [.valve] s (pendingRecordTransmit s) := by
  unfold pendingRecordTransmit
  split
  · exact onValve_touches s _
  · exact ChangesOnly.nothing _ s
  · exact ChangesOnly.nothing _ s

theorem refreshDue_touches : ChangesOnly [.arbiter, .valve] s (refreshDue s) :=
  ChangesOnly.ite _ (((computeCommands_touches s).within (by decide)).andThen ((onValve_touches _ _).within (by decide)))
    (ChangesOnly.nothing _ s)

theorem driverStatusRecord_touches (bytes : List Byte) :
    ChangesOnly [.arbiter, .alerts, .mgmt, .store, .valve] s (driverStatusRecord bytes s) := by
  refine ChangesOnly.ite _ (((onValve_touches s _).within (by decide)).andThen (foldl_touches _ _ ?_ _))
    ((onValve_touches s _).within (by decide))
  intro t c
  unfold examineStatus
  split
  · exact ChangesOnly.ite _ ((hardFault_touches t c _).within (by decide)) (ChangesOnly.nothing _ t)
  · exact ChangesOnly.nothing _ t

theorem superviseChannel_touches (c : Channel) :
    ChangesOnly [.arbiter, .alerts, .mgmt, .store] s (superviseChannel s c) := by
  have dev : ChangesOnly [.arbiter, .alerts, .mgmt, .store] s (deviationCheck c s) := by
    unfold deviationCheck
    dsimp only
    split
    · exact ChangesOnly.ite _ (((onChannel_touches s _ _).within (by decide)).andThen (errorEvent_touches _ c))
        (ChangesOnly.nothing _ s)
    · exact ChangesOnly.nothing _ s
  unfold superviseChannel
  refine ChangesOnly.ite _ (ChangesOnly.ite _ ?_ dev) (ChangesOnly.nothing _ s)
  split <;> first | exact hardFault_touches s c _ | exact ChangesOnly.nothing _ s

theorem haltedCheck_touches (c : Channel) : ChangesOnly [.arbiter, .alerts] s (haltedCheck s c) :=
  ChangesOnly.ite _ (((raiseAlert_touches s _ _ _).within (by decide)).andThen ((onChannel_touches _ _ _).within (by decide)))
    (ChangesOnly.nothing _ s)

theorem pendingHaltStep_touches (c : Channel) (h : PendingHalt) :
    ChangesOnly [.arbiter, .mgmt] s (pendingHaltStep c h s) :=
  ChangesOnly.ite _ (((onChannel_touches s _ _).within (by decide)).andThen (endPendingHalt_touches _ c _))
    (ChangesOnly.ite _ (cancelPendingHalt_touches s c) (ChangesOnly.nothing _ s))

theorem pendingHaltCheck_touches (c : Channel) : ChangesOnly [.arbiter, .mgmt] s (pendingHaltCheck s c) := by
  unfold pendingHaltCheck
  split
  · exact pendingHaltStep_touches s c _
  · exact ChangesOnly.nothing _ s

theorem haltStep_touches (c : Channel) : ChangesOnly [.arbiter, .alerts, .mgmt, .store] s (haltStep s c) :=
  ((haltedCheck_touches s c).within (by decide)).andThen ((pendingHaltCheck_touches _ c).within (by decide))

/-- The parts that the pressure arbiter may reach on a sample set. -/
def arbiterParts : List Part := [.arbiter, .alerts, .mgmt, .store, .valve]

theorem onArbiter_within (f : Arbiter → Arbiter) : ChangesOnly arbiterParts s (s.onArbiter f) :=
  (onArbiter_touches s f).within (by decide)

theorem moveCeilings_touches : ChangesOnly arbiterParts s (moveCeilings s) := onArbiter_within s _

theorem storeDelivered_touches : ChangesOnly arbiterParts s (storeDelivered s) := onArbiter_within s _

theorem controlLineChecks_touches : ChangesOnly arbiterParts s (controlLineChecks s) := onArbiter_within s _

/-- A channel that is not in START is not moved by step 6 (R42). -/
theorem leaveStart_of_ne (c : Channel) {r : ChannelRec} (h : r.state ≠ .start) : leaveStart s c r = r := if_neg h

/-- On the set of the first record after a T1 activation an assigned channel stays as it is at step 6 (R38; log 53). -/
theorem leaveStart_held {c : Channel} (hb : s.arbiter.backupNext = true) (ha : assigned s c = true) (r : ChannelRec) :
    leaveStart s c r = r := by
  simp [leaveStart, hb, ha]

theorem leaveStarts_touches : ChangesOnly arbiterParts s (leaveStarts s) := onArbiter_within s _

theorem updateDeviations_touches : ChangesOnly arbiterParts s (updateDeviations s) := onArbiter_within s _

theorem setCeilings_touches : ChangesOnly [.arbiter] s (setCeilings s) := onArbiter_touches s _

theorem arbiterJudges_touches : ChangesOnly arbiterParts s (arbiterJudges s) := by
  unfold arbiterJudges
  dsimp only
  refine ChangesOnly.andThen ?_ (leaveStarts_touches _)
  refine ChangesOnly.andThen ?_ (foldl_touches haltStep _ (fun t c => (haltStep_touches t c).within (by decide)) _)
  refine ChangesOnly.andThen ?_ (controlLineChecks_touches _)
  refine ChangesOnly.andThen ?_ (foldl_touches superviseChannel _
    (fun t c => (superviseChannel_touches t c).within (by decide)) _)
  refine ChangesOnly.andThen ?_ (moveCeilings_touches _)
  refine ChangesOnly.andThen ?_ (storeDelivered_touches _)
  exact onArbiter_within s _

theorem arbiterCommands_touches : ChangesOnly arbiterParts s (arbiterCommands s) := by
  unfold arbiterCommands
  dsimp only
  refine ChangesOnly.andThen ?_ ((onValve_touches _ _).within (by decide))
  exact ChangesOnly.andThen ((computeCommands_touches s).within (by decide)) (updateDeviations_touches _)

theorem arbiterTakesSet_touches : ChangesOnly [.arbiter, .alerts, .mgmt, .store, .valve] s (arbiterTakesSet s) :=
  (arbiterJudges_touches s).andThen (arbiterCommands_touches _)

theorem arbiterTakesT1_touches : ChangesOnly [.arbiter, .alerts, .mgmt, .store] s (arbiterTakesT1 s) := by
  unfold arbiterTakesT1
  dsimp only
  refine ChangesOnly.andThen ?_ ((setCeilings_touches _).within (by decide))
  refine ChangesOnly.andThen ?_ (foldl_touches _ _ (fun t c => (cancelPendingHalt_touches t c).within (by decide)) _)
  refine ChangesOnly.andThen ?_ (foldl_touches _ _ (fun t c => faultByThreshold_touches t c) _)
  exact (onArbiter_touches s _).within (by decide)

theorem haltChannel_touches (tag : Byte) (n p : Nat) : ChangesOnly [.arbiter, .mgmt] s (haltChannel tag n p s) := by
  have no : ∀ a, ChangesOnly [.arbiter, .mgmt] s (answer codeHaltChannel tag a s) := fun a =>
    answer_after (ChangesOnly.nothing _ s) _ _ _ (by decide)
  have yes : ∀ a c f, ChangesOnly [.arbiter, .mgmt] s (answer codeHaltChannel tag a (s.onChannel c f)) := fun a c f =>
    answer_after ((onChannel_touches s c f).within (by decide)) _ _ _ (by decide)
  unfold haltChannel
  split
  · exact no _
  · exact ChangesOnly.ite _ (no _) (ChangesOnly.ite _ (no _) (ChangesOnly.ite _ (yes _ _ _) (ChangesOnly.ite _ (no _)
      (ChangesOnly.ite _ (yes _ _ _) (yes _ _ _)))))

theorem runChannel_touches (tag : Byte) (n : Nat) : ChangesOnly [.arbiter, .mgmt] s (runChannel tag n s) := by
  unfold runChannel
  split
  · exact answer_after (ChangesOnly.nothing _ s) _ _ _ (by decide)
  · exact ChangesOnly.ite _ (answer_after (((onChannel_touches s _ _).within (by decide)).andThen
        (cancelPendingHalt_touches _ _)) _ _ _ (by decide))
      (ChangesOnly.ite _ (answer_after (cancelPendingHalt_touches s _) _ _ _ (by decide))
        (answer_after (ChangesOnly.nothing _ s) _ _ _ (by decide)))

theorem clearChannel_touches (tag : Byte) (n : Nat) : ChangesOnly [.arbiter, .mgmt] s (clearChannel tag n s) := by
  unfold clearChannel
  split
  · exact answer_after (ChangesOnly.nothing _ s) _ _ _ (by decide)
  · refine ChangesOnly.ite _ (answer_after ?_ _ _ _ (by decide)) (answer_after (ChangesOnly.nothing _ s) _ _ _ (by decide))
    exact ((onChannel_touches s _ _).within (by decide)).andThen
      (ChangesOnly.ite _ (ChangesOnly.nothing _ _) ((onArbiter_touches _ _).within (by decide)))

end PressureArbiter

section AirAndRoll

variable (s : State)

theorem airTakesSet_touches : ChangesOnly [.air, .alerts, .store] s (airTakesSet s) := by
  have a : ∀ (t : State) f, ChangesOnly [.air, .alerts, .store] t (t.onAir f) := fun t f =>
    (onAir_touches t f).within (by decide)
  have r : ∀ (t : State) c sub v, ChangesOnly [.air, .alerts, .store] t (raiseAlert c sub v t) := fun t c sub v =>
    (raiseAlert_touches t c sub v).within (by decide)
  have low : ∀ t, ChangesOnly [.air, .alerts, .store] t (raiseReservoirLow t) := fun t => (a t _).andThen (r _ _ _ _)
  have lost : ∀ t, ChangesOnly [.air, .alerts, .store] t (enterSupplyLost t) := fun t =>
    (((a t _).andThen (r _ _ _ _)).andThen ((fillCaptureBlock_touches _ _ _).within (by decide))).andThen
      ((requestTally_touches _ _).within (by decide))
  have ev : ∀ t, ChangesOnly [.air, .alerts, .store] t (evaluateSupply t) := by
    intro t
    unfold evaluateSupply
    dsimp only
    refine ChangesOnly.ite _ (ChangesOnly.nothing _ t)
      (ChangesOnly.andThen (t := t.onAir fun a => { a with state := nextSupplyState t }) (a t _) ?_)
    split
    · exact lost _
    · exact low _
    · exact ChangesOnly.ite _ (ChangesOnly.nothing _ _) (low _)
    · exact ChangesOnly.nothing _ _
    · exact ChangesOnly.nothing _ _
    · exact ChangesOnly.nothing _ _
  have cl : ∀ t, ChangesOnly [.air, .alerts, .store] t (controlLinePlausibility t) := by
    intro t
    unfold controlLinePlausibility
    split
    · split
      · exact a t _
      · exact ChangesOnly.ite _ ((a t _).andThen (r _ _ _ _)) (ChangesOnly.nothing _ t)
    · exact a t _
  exact (((a s _).andThen (a _ _)).andThen (ev _)).andThen (cl _)

theorem airTakesLoss_touches : ChangesOnly [.air] s (airTakesLoss s) := onAir_touches s _

theorem requestCommitment_touches (sd : Side) (cs : List Channel) : ChangesOnly [.air] s (requestCommitment sd cs s).1 := by
  unfold requestCommitment
  dsimp only
  split
  · exact ChangesOnly.nothing _ s
  · split
    · exact onAir_touches s _
    · split
      · exact onAir_touches s _
      · exact onAir_touches s _

theorem leaveTest_touches : ChangesOnly [.air, .roll] s (leaveTest s) :=
  ChangesOnly.ite _ (((onAir_touches s _).within (by decide)).andThen ((onRoll_touches _ _).within (by decide)))
    (ChangesOnly.nothing _ s)

theorem goIdle_touches : ChangesOnly [.air, .roll] s (goIdle s) :=
  (leaveTest_touches s).andThen ((onRoll_touches _ _).within (by decide))

theorem goWatch_touches : ChangesOnly [.air, .roll] s (goWatch s) :=
  (leaveTest_touches s).andThen ((onRoll_touches _ _).within (by decide))

theorem goIntervene_touches : ChangesOnly [.air, .roll, .alerts, .store] s (goIntervene s) := by
  unfold goIntervene
  exact ((((leaveTest_touches s).within (by decide)).andThen ((onRoll_touches _ _).within (by decide))).andThen
    ((raiseAlert_touches _ _ _ _).within (by decide))).andThen ((requestTally_touches _ _).within (by decide))

theorem goRecover_touches : ChangesOnly [.roll] s (goRecover s) := onRoll_touches s _

theorem withholdTest_touches : ChangesOnly [.air, .roll] s (withholdTest s) :=
  (goIdle_touches s).andThen ((onRoll_touches _ _).within (by decide))

theorem tryTest_touches : ChangesOnly [.air, .roll] s (tryTest s) := by
  unfold tryTest
  split
  · rename_i inner _
    refine ChangesOnly.ite _ ?_ (withholdTest_touches s)
    have h := requestCommitment_touches s inner (channelsOfSide s inner)
    split
    · rename_i h2
      rw [h2] at h
      exact (h.within (by decide)).andThen ((onRoll_touches _ _).within (by decide))
    · rename_i h2
      rw [h2] at h
      exact (h.within (by decide)).andThen (withholdTest_touches _)
  · exact withholdTest_touches s

/-- The parts that a change of the roll state may reach. -/
def rollParts : List Part := [.air, .roll, .alerts, .store]

theorem onRoll_rollParts (f : Roll → Roll) : ChangesOnly rollParts s (s.onRoll f) := (onRoll_touches s f).within (by decide)

theorem goIdle_rollParts : ChangesOnly rollParts s (goIdle s) := (goIdle_touches s).within (by decide)

theorem goWatch_rollParts : ChangesOnly rollParts s (goWatch s) := (goWatch_touches s).within (by decide)

theorem goIntervene_rollParts : ChangesOnly rollParts s (goIntervene s) := goIntervene_touches s

theorem tryTest_rollParts : ChangesOnly rollParts s (tryTest s) := (tryTest_touches s).within (by decide)

theorem rampStep_rollParts : ChangesOnly rollParts s (rampStep s) :=
  ChangesOnly.ite _ (goIdle_rollParts s) (onRoll_rollParts s _)

theorem abortToIdle_rollParts : ChangesOnly rollParts s (abortToIdle s) := (onRoll_rollParts s _).andThen (goIdle_rollParts _)

theorem rollStateStep_touches : ChangesOnly rollParts s (rollStateStep s) := by
  unfold rollStateStep
  split
  · unfold idleStep
    exact ChangesOnly.ite _ (ChangesOnly.ite _ (goIntervene_rollParts s) (ChangesOnly.ite _ (tryTest_rollParts s)
      (ChangesOnly.nothing _ s))) (ChangesOnly.nothing _ s)
  · unfold testStep
    split
    · exact ChangesOnly.ite _ ((onRoll_rollParts s _).andThen (goIntervene_rollParts _))
        (ChangesOnly.ite _ (goIntervene_rollParts s) (ChangesOnly.ite _ ((onRoll_rollParts s _).andThen (goWatch_rollParts _))
          (ChangesOnly.ite _ ((onRoll_rollParts s _).andThen (goIdle_rollParts _)) (ChangesOnly.nothing _ s))))
    · exact ChangesOnly.nothing _ s
  · exact ChangesOnly.ite _ (goIntervene_rollParts s) (ChangesOnly.nothing _ s)
  · unfold interveneStep releaseHold
    exact (onRoll_rollParts s _).andThen (ChangesOnly.ite _ (onRoll_rollParts _ _) (ChangesOnly.ite _
      (ChangesOnly.ite _ (onRoll_rollParts _ _) (ChangesOnly.nothing _ _)) (onRoll_rollParts _ _)))
  · exact ChangesOnly.ite _ (goIntervene_rollParts s) (rampStep_rollParts s)

theorem rollInvalidStep_touches : ChangesOnly rollParts s (rollInvalidStep s) := by
  unfold rollInvalidStep
  split
  · exact ChangesOnly.nothing _ s
  · exact abortToIdle_rollParts s
  · exact goIdle_rollParts s
  · exact onRoll_rollParts s _
  · exact rampStep_rollParts s

theorem rollTakesSet_touches : ChangesOnly rollParts s (rollTakesSet s) := by
  unfold rollTakesSet
  exact (onRoll_rollParts s _).andThen (ChangesOnly.ite _ ((onRoll_rollParts _ _).andThen (rollStateStep_touches _))
    ((onRoll_rollParts _ _).andThen (rollInvalidStep_touches _)))

theorem rollTimerExpiry_touches : ChangesOnly rollParts s (rollTimerExpiry s) := by
  refine ChangesOnly.ite _ (ChangesOnly.andThen (t := updateThresholds s) (onRoll_rollParts s _) ?_) (ChangesOnly.nothing _ s)
  unfold testExpiry watchExpiry
  dsimp only
  split
  · exact ChangesOnly.ite _ (abortToIdle_rollParts _) ((onRoll_rollParts _ _).andThen (goWatch_rollParts _))
  · exact ChangesOnly.ite _ (goIdle_rollParts _) (ChangesOnly.ite _ (goIntervene_rollParts _)
      (ChangesOnly.ite _ (tryTest_rollParts _) (goIdle_rollParts _)))
  · exact onRoll_rollParts _ _
  · exact ChangesOnly.nothing _ _
  · exact ChangesOnly.nothing _ _

theorem rollTakesLoss_touches : ChangesOnly [.air, .roll] s (rollTakesLoss s) := by
  have ab : ChangesOnly [.air, .roll] s (abortToIdle s) :=
    ((onRoll_touches s _).within (by decide)).andThen (goIdle_touches _)
  exact (ChangesOnly.ite _ ab (goIdle_touches s)).andThen ((onRoll_touches _ _).within (by decide))

end AirAndRoll

section TyreTable

variable (s : State)

theorem takeBit_touches (bit : Bool) : ChangesOnly [.rx] s (takeBit bit s) := onRx_touches s _

theorem carrierChange_touches (level : Bool) : ChangesOnly [.rx] s (carrierChange level s) := onRx_touches s _

theorem evaluateDerates_touches : ChangesOnly [.tyres] s (evaluateDerates s) := onTyres_touches s _

theorem tyreAlert_touches (time : Stamp) (p : Position) (st : TyreState) : ChangesOnly [.alerts] s (tyreAlert time p st s) := by
  cases st <;> first | exact raiseAlertAt_touches s _ _ _ _ | exact ChangesOnly.nothing _ s

theorem takeReading_touches (p : Position) (e : Telegram) : ChangesOnly [.tyres, .alerts] s (takeReading p e s) := by
  have ent : ∀ st t, ChangesOnly [.tyres, .alerts] t (enterTyreState e.time p st t) := fun st t =>
    ChangesOnly.ite _ (ChangesOnly.nothing _ t) ((((onTyre_touches t _ _).within (by decide)).andThen
      ((tyreAlert_touches _ _ p st).within (by decide))).andThen ((evaluateDerates_touches _).within (by decide)))
  unfold takeReading
  refine ChangesOnly.ite _ ((onTyre_touches s _ _).within (by decide)) ?_
  exact ((onTyre_touches s _ _).within (by decide)).andThen (ent _ _)

theorem takeMiss_touches (e : Telegram) : ChangesOnly [.tyres, .alerts] s (takeMiss e s) := by
  have set : ∀ (t : State) k x, ChangesOnly [.tyres, .alerts] t (setUnknown k x t) := fun t k x =>
    (onTyres_touches t _).within (by decide)
  unfold takeMiss
  split
  · split
    · unfold knownMiss
      exact ChangesOnly.ite _ ((onTyres_touches s _).within (by decide)) (ChangesOnly.ite _ ((set s _ _).andThen
        ((raiseAlertAt_touches _ _ _ _ _).within (by decide))) (set s _ _))
    · exact ChangesOnly.nothing _ s
  · exact set s _ _

theorem endSession_touches (r : Completion) : ChangesOnly [.tyres, .mgmt] s (endSession r s) := by
  unfold endSession
  split
  · exact answer_after ((onTyres_touches s _).within (by decide)) _ _ _ (by decide)
  · exact ChangesOnly.nothing _ s

theorem bindSensor_touches (e : Telegram) (p : Position) :
    ChangesOnly [.tyres, .alerts, .mgmt, .store] s (bindSensor e p s) := by
  have t0 : ∀ (t : State) f, ChangesOnly [.tyres, .alerts, .mgmt, .store] t (t.onTyres f) := fun t f =>
    (onTyres_touches t f).within (by decide)
  have un : ChangesOnly [.tyres, .alerts, .mgmt, .store] s (unbindOther e.id p s) := by
    unfold unbindOther
    split
    · exact ChangesOnly.ite _ (ChangesOnly.nothing _ s) (t0 s _)
    · exact ChangesOnly.nothing _ s
  have slot : ∀ t, ChangesOnly [.tyres, .alerts, .mgmt, .store] t (bindSlot e p t) := fun t => (t0 t _).andThen (t0 _ _)
  unfold bindSensor
  dsimp only
  refine ChangesOnly.andThen ?_ (t0 _ _)
  refine ChangesOnly.andThen ?_ ((requestBlock3_touches _).within (by decide))
  refine ChangesOnly.andThen ?_ (t0 _ _)
  refine ChangesOnly.andThen ?_ ((endSession_touches _ _).within (by decide))
  refine ChangesOnly.andThen ?_ (t0 _ _)
  refine ChangesOnly.andThen ?_ ((takeReading_touches _ p e).within (by decide))
  exact un.andThen (slot _)

theorem learnPosition_touches (tag : Byte) (n sec : Nat) : ChangesOnly [.tyres, .mgmt] s (learnPosition tag n sec s) := by
  have no : ∀ a, ChangesOnly [.tyres, .mgmt] s (answer codeLearnPosition tag a s) := fun a =>
    answer_after (ChangesOnly.nothing _ s) _ _ _ (by decide)
  unfold learnPosition
  split
  · exact ChangesOnly.ite _ (no _) (ChangesOnly.ite _ (no _) (ChangesOnly.ite _ (no _)
      (answer_after ((onTyres_touches s _).within (by decide)) _ _ _ (by decide))))
  · exact no _

theorem cancelLearn_touches (tag : Byte) : ChangesOnly [.tyres, .mgmt] s (cancelLearn tag s) :=
  ChangesOnly.ite _ ((answer_after (ChangesOnly.nothing _ s) _ _ _ (by decide)).andThen (endSession_touches _ _))
    (answer_after (ChangesOnly.nothing _ s) _ _ _ (by decide))

theorem learnTimerExpiry_touches : ChangesOnly [.tyres, .mgmt] s (learnTimerExpiry s) :=
  ChangesOnly.ite _ (endSession_touches s _) (ChangesOnly.nothing _ s)

theorem telegramEntryTaken_touches : ChangesOnly [.rx, .tyres, .alerts, .mgmt, .store] s (telegramEntryTaken s) := by
  have t0 : ∀ (t : State) f, ChangesOnly [.rx, .tyres, .alerts, .mgmt, .store] t (t.onTyres f) := fun t f =>
    (onTyres_touches t f).within (by decide)
  have ord : ∀ e t, ChangesOnly [.rx, .tyres, .alerts, .mgmt, .store] t (ordinaryEntry e t) := by
    intro e t
    unfold ordinaryEntry
    split
    · exact ChangesOnly.ite _ (t0 t _) (((takeReading_touches t _ e).within (by decide)).andThen (t0 _ _))
    · exact (t0 t _).andThen ((takeMiss_touches _ e).within (by decide))
  unfold telegramEntryTaken
  split
  · rename_i e rest _
    have judge : ∀ t, ChangesOnly [.rx, .tyres, .alerts, .mgmt, .store] t (judgeEntry e t) := by
      intro t
      unfold judgeEntry
      split
      · exact ChangesOnly.ite _ ((bindSensor_touches _ _ _).within (by decide)) (ord _ _)
      · exact ord _ _
    exact ChangesOnly.andThen (t := s.onRx fun r => { r with queue := rest }) ((onRx_touches s _).within (by decide))
      ((ChangesOnly.ite _ (t0 _ _) (ChangesOnly.nothing _ _)).andThen (judge _))
  · exact ChangesOnly.nothing _ s

theorem checkTimerExpiry_touches : ChangesOnly [.tyres, .arbiter, .alerts, .mgmt, .store] s (checkTimerExpiry s) := by
  have t0 : ∀ (t : State) f, ChangesOnly [.tyres, .arbiter, .alerts, .mgmt, .store] t (t.onTyres f) := fun t f =>
    (onTyres_touches t f).within (by decide)
  unfold checkTimerExpiry
  dsimp only
  refine ChangesOnly.ite _ ?_ (ChangesOnly.nothing _ s)
  refine ChangesOnly.andThen (ChangesOnly.andThen (ChangesOnly.andThen (ChangesOnly.andThen (t0 s _)
    (ChangesOnly.ite _ (t0 _ _) (ChangesOnly.nothing _ _))) (foldl_touches checkLost _ ?_ _)) (t0 _ _))
    (foldl_touches checkDrag _ ?_ _)
  · intro t p
    exact ChangesOnly.ite _ (((t0 t _).andThen ((raiseAlert_touches _ _ _ _).within (by decide))).andThen (t0 _ _))
      (ChangesOnly.nothing _ t)
  · intro t p
    unfold checkDrag
    split
    · exact ChangesOnly.ite _ ((((errorEvent_touches t _).within (by decide)).andThen
        ((raiseAlert_touches _ _ _ _).within (by decide))).andThen (t0 _ _)) (ChangesOnly.nothing _ t)
    · exact ChangesOnly.nothing _ t

theorem tyresTakeSet_touches : ChangesOnly [.tyres] s (tyresTakeSet s) := onTyres_touches s _

theorem tyresTakeT4_touches (old : Table) : ChangesOnly [.tyres, .mgmt] s (tyresTakeT4 old s) := by
  have ses : ∀ t, ChangesOnly [.tyres, .mgmt] t (cancelDisabledSession t) := by
    intro t
    unfold cancelDisabledSession
    split
    · exact ChangesOnly.ite _ (endSession_touches t _) (ChangesOnly.nothing _ t)
    · exact ChangesOnly.nothing _ t
  unfold tyresTakeT4
  dsimp only
  refine ChangesOnly.andThen ?_ ((evaluateDerates_touches _).within (by decide))
  exact ChangesOnly.andThen ((onTyres_touches s _).within (by decide)) (ses _)

theorem tyresTakeT1_touches : ChangesOnly [.tyres] s (tyresTakeT1 s) := onTyres_touches s _

theorem tyresTakeT5_touches (t5 : Table) : ChangesOnly [.tyres] s (tyresTakeT5 t5 s) :=
  ((((onTyres_touches s _).andThen (onTyres_touches _ _)).andThen (onTyres_touches _ _)).andThen (onTyres_touches _ _))

end TyreTable

section RelayAndLink

variable (s : State)

theorem rearHandover_touches : ChangesOnly [.relay] s (rearHandover s) := by
  unfold rearHandover
  refine ChangesOnly.ite _ ?_ (ChangesOnly.nothing _ s)
  split
  · exact onRelay_touches s _
  · exact ChangesOnly.nothing _ s

theorem rearHandoverOutcome_touches (acked : Bool) : ChangesOnly [.relay, .mgmt] s (rearHandoverOutcome acked s) := by
  have settle : ∀ t, ChangesOnly [.relay, .mgmt] t (settleIsolation t) := by
    intro t
    unfold settleIsolation
    split
    · exact answer_after ((onRelay_touches t _).within (by decide)) _ _ _ (by decide)
    · exact ChangesOnly.nothing _ t
  unfold rearHandoverOutcome
  split
  · exact ((onRelay_touches s _).within (by decide)).andThen (settle _)
  · exact ChangesOnly.nothing _ s

theorem isolateRear_touches (tag : Byte) : ChangesOnly [.relay, .mgmt] s (isolateRear tag s) := by
  have a : ∀ a, ChangesOnly [.relay, .mgmt] s (answer codeIsolateRear tag a s) := fun _ =>
    answer_after (ChangesOnly.nothing _ s) _ _ _ (by decide)
  have r : ∀ a f, ChangesOnly [.relay, .mgmt] s (answer codeIsolateRear tag a (s.onRelay f)) := fun _ f =>
    answer_after ((onRelay_touches s f).within (by decide)) _ _ _ (by decide)
  exact ChangesOnly.ite _ (a _) (ChangesOnly.ite _ (a _) (ChangesOnly.ite _ (r _ _) (r _ _)))

theorem resumeRear_touches (tag : Byte) : ChangesOnly [.relay, .mgmt] s (resumeRear tag s) := by
  refine ChangesOnly.ite _ (answer_after ((onRelay_touches s _).within (by decide)) _ _ _ (by decide)) ?_
  split
  · exact answer_after (answer_after ((onRelay_touches s _).within (by decide)) _ _ _ (by decide)) _ _ _ (by decide)
  · exact answer_after (ChangesOnly.nothing _ s) _ _ _ (by decide)

theorem frontHandover_touches : ChangesOnly [.relay, .alerts] s (frontHandover s) := by
  have mark : ∀ x, ChangesOnly [.relay, .alerts] s (markFront x s) := by
    intro x
    cases x
    · exact (onAlerts_touches s _).within (by decide)
    · exact (onRelay_touches s _).within (by decide)
    · exact ChangesOnly.nothing _ s
    · exact (onAlerts_touches s _).within (by decide)
    · exact (onAlerts_touches s _).within (by decide)
  unfold frontHandover
  split
  · exact (mark _).andThen ((onRelay_touches _ _).within (by decide))
  · exact ChangesOnly.nothing _ s
  · exact ChangesOnly.nothing _ s

theorem frontHandoverOutcome_touches (acked : Bool) :
    ChangesOnly [.relay, .alerts, .mgmt] s (frontHandoverOutcome acked s) := by
  have out : ∀ x, ChangesOnly [.relay, .alerts, .mgmt] s (frontOutcome x acked s) := by
    intro x
    cases x
    · exact (alertOutcome_touches s acked).within (by decide)
    · exact (onRelay_touches s _).within (by decide)
    · exact ChangesOnly.ite _ ((onMgmt_touches s _).within (by decide)) (ChangesOnly.nothing _ s)
    · exact (statusOutcome_touches s true acked).within (by decide)
    · exact (statusOutcome_touches s false acked).within (by decide)
  unfold frontHandoverOutcome
  split
  · exact (out _).andThen ((onRelay_touches _ _).within (by decide))
  · exact ChangesOnly.nothing _ s

theorem relayTakesT6_touches : ChangesOnly [.relay] s (relayTakesT6 s) := onRelay_touches s _

theorem takePosition_touches (data : List Byte) : ChangesOnly [.link, .relay, .alerts] s (takePosition data s) := by
  have l : ∀ (t : State) f, ChangesOnly [.link, .relay, .alerts] t (t.onLink f) := fun t f =>
    (onLink_touches t f).within (by decide)
  have r : ∀ (t : State) f, ChangesOnly [.link, .relay, .alerts] t (t.onRelay f) := fun t f =>
    (onRelay_touches t f).within (by decide)
  have mm : ∀ n t, ChangesOnly [.link, .relay, .alerts] t (positionMismatch n t) := by
    intro n t
    unfold positionMismatch
    exact (l t _).andThen (ChangesOnly.ite _ ((raiseAlert_touches _ _ _ _).within (by decide)) (ChangesOnly.nothing _ _))
  have lp : ∀ n t, ChangesOnly [.link, .relay, .alerts] t (learnPlacement n t) := by
    intro n t
    unfold learnPlacement
    split
    · exact ChangesOnly.ite _ ((l t _).andThen (r _ _)) (ChangesOnly.nothing _ t)
    · exact ChangesOnly.ite _ (l t _) (ChangesOnly.ite _ (ChangesOnly.ite _ ((l t _).andThen (l _ _))
        (((l t _).andThen (l _ _)).andThen (r _ _))) (mm n t))
  have fp : ∀ n t, ChangesOnly [.link, .relay, .alerts] t (fixedPlacement n t) := fun n t =>
    ChangesOnly.ite _ (l t _) (mm n t)
  have off : ∀ t, ChangesOnly [.link, .relay, .alerts] t (offerPosition t) := fun t =>
    ChangesOnly.ite _ (r t _) (ChangesOnly.nothing _ t)
  unfold takePosition
  refine ChangesOnly.ite _ (l s _) ?_
  exact ((l s _).andThen (ChangesOnly.ite _ (lp _ _) (fp _ _))).andThen (off _)

/-- The parts that a DEMAND frame or the demand timer may reach. -/
def demandParts : List Part := [.link, .relay, .arbiter, .alerts, .mgmt]

theorem offerDemand_touches (seq : Nat) (stale sub : Bool) : ChangesOnly demandParts s (offerDemand seq stale sub s) :=
  (onRelay_touches s _).within (by decide)

theorem sendRearward_touches : ChangesOnly [.link, .relay] s (sendRearward s) := by
  unfold sendRearward offerFill offerSubstitute offerDemand
  split
  · exact ((onLink_touches s _).within (by decide)).andThen ((onRelay_touches _ _).within (by decide))
  · exact ChangesOnly.ite _ (((onLink_touches s _).within (by decide)).andThen ((onRelay_touches _ _).within (by decide)))
      ((onLink_touches s _).within (by decide))
  · exact ChangesOnly.nothing _ s
  · exact ChangesOnly.nothing _ s

theorem takeDemand_touches (data : List Byte) : ChangesOnly demandParts s (takeDemand data s) := by
  refine ChangesOnly.ite _ ((onLink_touches s _).within (by decide)) (ChangesOnly.ite _ ?_
    ((onLink_touches s _).within (by decide)))
  unfold takeFresh
  dsimp only
  refine ChangesOnly.andThen ?_ (offerDemand_touches _ _ _ _)
  refine ChangesOnly.andThen ?_ ((deriveDemand_touches _).within (by decide))
  exact ChangesOnly.ite _ (((onLink_touches s _).within (by decide)).andThen ((evaluateFailSafe_touches _).within
    (by decide))) ((onLink_touches s _).within (by decide))

theorem demandTimerExpiry_touches : ChangesOnly demandParts s (demandTimerExpiry s) := by
  have stale : ChangesOnly demandParts s (enterStale s) :=
    (((onLink_touches s _).within (by decide)).andThen ((deriveDemand_touches _).within (by decide))).andThen
      ((sendRearward_touches _).within (by decide))
  have lost : ChangesOnly demandParts s (enterLost s) := by
    unfold enterLost
    exact ((((((onLink_touches s _).within (by decide)).andThen ((raiseAlert_touches _ _ _ _).within
      (by decide))).andThen ((fillCaptureBlock_touches _ _ _).within (by decide))).andThen
      ((evaluateFailSafe_touches _).within (by decide))).andThen ((deriveDemand_touches _).within (by decide))).andThen
      ((sendRearward_touches _).within (by decide))
  refine ChangesOnly.ite _ ?_ (ChangesOnly.nothing _ s)
  split
  · exact stale
  · exact lost
  · exact lost
  · exact ChangesOnly.nothing _ s

theorem rearwardTimerExpiry_touches : ChangesOnly [.link, .relay] s (rearwardTimerExpiry s) :=
  ChangesOnly.ite _ (((onLink_touches s _).within (by decide)).andThen (sendRearward_touches _)) (ChangesOnly.nothing _ s)

end RelayAndLink

section SamplePort

variable (s : State)

/-- The parts that an accepted sample set may reach through the five blocks. -/
def setParts : List Part := [.load, .arbiter, .valve, .air, .roll, .tyres, .alerts, .mgmt, .store, .free]

theorem handSet_touches : ChangesOnly setParts s (handSet s) := by
  unfold handSet
  refine ChangesOnly.andThen ?_ ((spend_touches _).within (by decide))
  have each : ∀ f ∈ setTakers, ∀ t, ChangesOnly setParts t (f t) := by
    intro f hf t
    simp only [setTakers, List.mem_cons, List.not_mem_nil, or_false] at hf
    rcases hf with rfl | rfl | rfl | rfl | rfl
    · exact (estimatorTakesSet_touches t).within (by decide)
    · exact (arbiterTakesSet_touches t).within (by decide)
    · exact (airTakesSet_touches t).within (by decide)
    · exact (rollTakesSet_touches t).within (by decide)
    · exact (tyresTakeSet_touches t).within (by decide)
  exact foldl_keeps (fun t => ChangesOnly setParts s t) _ _
    (fun t f hf ht => ht.andThen (each f (mem_arrange.mp hf) t)) s (ChangesOnly.nothing _ s)

theorem takeSet_touches (bytes : List Byte) : ChangesOnly (.sample :: setParts) s (takeSet bytes s) := by
  unfold takeSet
  dsimp only
  refine ChangesOnly.andThen ?_ ((handSet_touches _).within (by decide))
  exact ChangesOnly.ite _ (((onSample_touches s _).within (by decide)).andThen ((evaluateFailSafe_touches _).within
    (by decide))) ((onSample_touches s _).within (by decide))

theorem sampleSetArrival_touches (bytes : List Byte) : ChangesOnly (.sample :: setParts) s (sampleSetArrival bytes s) :=
  ChangesOnly.ite _ (ChangesOnly.nothing _ s) (ChangesOnly.ite _ ((onSample_touches s _).within (by decide))
    (ChangesOnly.ite _ ((onSample_touches s _).within (by decide)) (takeSet_touches s bytes)))

theorem lossTimerExpiry_touches :
    ChangesOnly [.sample, .arbiter, .air, .roll, .alerts, .mgmt] s (lossTimerExpiry s) := by
  refine ChangesOnly.ite _ ?_ (ChangesOnly.nothing _ s)
  unfold declareLoss
  dsimp only
  refine ChangesOnly.andThen ?_ ((airTakesLoss_touches _).within (by decide))
  refine ChangesOnly.andThen ?_ ((rollTakesLoss_touches _).within (by decide))
  refine ChangesOnly.andThen ?_ ((evaluateFailSafe_touches _).within (by decide))
  refine ChangesOnly.andThen ?_ ((deriveDemand_touches _).within (by decide))
  refine ChangesOnly.andThen ?_ ((fillCaptureBlock_touches _ _ _).within (by decide))
  refine ChangesOnly.andThen ?_ ((raiseAlert_touches _ _ _ _).within (by decide))
  exact (onSample_touches s _).within (by decide)

theorem portTakesT1_touches : ChangesOnly [.sample] s (portTakesT1 s) := onSample_touches s _

end SamplePort

section Resets

variable (s : State)

/-- The parts that a functional reset may reach: every part but the relay, the clock, the queue and the pins. -/
def resetParts : List Part :=
  [.free, .tables, .sample, .valve, .load, .arbiter, .air, .roll, .rx, .tyres, .link, .alerts, .mgmt, .store]

theorem cancelOperations_touches : ChangesOnly [.arbiter, .tyres, .mgmt] s (cancelOperations s) := by
  have base : ChangesOnly [.arbiter, .tyres, .mgmt] s
      (endSession .cancelled (allChannels.foldl (fun s c => cancelPendingHalt c s) s)) :=
    ChangesOnly.andThen (foldl_touches _ _ (fun t c => (cancelPendingHalt_touches t c).within (by decide)) _)
      ((endSession_touches _ _).within (by decide))
  unfold cancelOperations
  dsimp only
  exact ChangesOnly.ite _ (base.andThen ((completeStore_touches _ _).within (by decide))) base

theorem resetBlocks_touches : ChangesOnly resetParts s (resetBlocks s) := by
  intro p hp; cases p <;> first | rfl | simp [resetParts] at hp

theorem raiseLoad_touches (bs : List Nat) : ChangesOnly [.alerts, .store] s (raiseLoad bs s) :=
  foldl_touches _ _ (fun t b => raiseIncomplete_touches t b) s

theorem functionalReset_touches : ChangesOnly resetParts s (functionalReset s) := by
  unfold functionalReset arbiterAfterReset
  dsimp only
  refine ChangesOnly.andThen ?_ (foldl_touches _ _ (fun t c => (faultByThreshold_touches t c).within (by decide)) _)
  refine ChangesOnly.andThen ?_ ((raiseLoad_touches _ _).within (by decide))
  refine ChangesOnly.andThen ?_ ((deriveDemand_touches _).within (by decide))
  refine ChangesOnly.andThen ?_ ((onArbiter_touches _ _).within (by decide))
  refine ChangesOnly.andThen ?_ (resetBlocks_touches _)
  refine ChangesOnly.andThen ?_ ((cancelOperations_touches _).within (by decide))
  exact (onAlerts_touches s _).within (by decide)

end Resets

section Management

variable (s : State)

/-- The parts that a request may reach: every part but the clock, the queue, the power and the pins. -/
def requestParts : List Part := .relay :: resetParts

/-- The parts that a request other than RESTART may reach. -/
def ownerParts : List Part :=
  [.free, .tables, .sample, .load, .arbiter, .tyres, .relay, .alerts, .mgmt, .store]

/-- An answer alone is within what a request may reach. -/
theorem answer_request (code : Nat) (tag : Byte) (a : Answer) : ChangesOnly ownerParts s (answer code tag a s) :=
  (answer_touches s code tag a).within (by decide)

theorem activateT1_touches (t : Table) : ChangesOnly ownerParts s (activateT1 t s) := by
  have base : ChangesOnly ownerParts s (portTakesT1 (s.onTables fun x => { x with t1 := t })) :=
    ChangesOnly.andThen ((onTables_touches s _).within (by decide)) ((portTakesT1_touches _).within (by decide))
  unfold activateT1
  dsimp only
  refine ChangesOnly.andThen (ChangesOnly.ite _ (base.andThen ?_) (base.andThen ?_)) ((spend_touches _).within (by decide))
  · exact ChangesOnly.andThen ((tyresTakeT1_touches _).within (by decide)) ((arbiterTakesT1_touches _).within (by decide))
  · exact ChangesOnly.andThen ((arbiterTakesT1_touches _).within (by decide)) ((tyresTakeT1_touches _).within (by decide))

theorem installTable_touches (t : Nat) (bytes : Table) : ChangesOnly ownerParts s (installTable t bytes s) := by
  unfold installTable
  split
  · exact activateT1_touches s _
  · exact ((onTables_touches s _).within (by decide)).andThen ((estimatorTakesT2_touches _).within (by decide))
  · exact (onTables_touches s _).within (by decide)
  · exact ((onTables_touches s _).within (by decide)).andThen ((tyresTakeT4_touches _ _).within (by decide))
  · exact (tyresTakeT5_touches s _).within (by decide)
  · exact ((onTables_touches s _).within (by decide)).andThen ((relayTakesT6_touches _).within (by decide))
  · exact ChangesOnly.nothing _ s

theorem passRequest_owner (code : Nat) (tag : Byte) (data : List Byte) (hc : code ≠ 18) :
    ChangesOnly ownerParts s (passRequest code tag data s) := by
  have m : ∀ (t : State) f, ChangesOnly ownerParts t (t.onMgmt f) := fun t f => (onMgmt_touches t f).within (by decide)
  have a : ∀ (t : State) c tg an, ChangesOnly ownerParts t (answer c tg an t) := fun t c tg an => answer_request t c tg an
  have st : ∀ (t : State) f, ChangesOnly ownerParts t (t.onStore f) := fun t f => (onStore_touches t f).within (by decide)
  unfold passRequest
  split
  · unfold readRecord
    split
    · exact ((placeEntry_touches s _).within (by decide)).andThen ((spend_touches _).within (by decide))
    · exact (a s _ _ _).andThen ((spend_touches _).within (by decide))
  · exact ChangesOnly.ite _ ((m s _).andThen (a _ _ _ _)) (a s _ _ _)
  · unfold loadSegment
    split
    · exact a s _ _ _
    · exact ChangesOnly.ite _ ((m s _).andThen (a _ _ _ _)) (a s _ _ _)
  · unfold activateTable
    split
    · exact a s _ _ _
    · exact ((installTable_touches s _ _).andThen (m _ _)).andThen (a _ _ _ _)
  · unfold storeBlock
    split
    · exact ChangesOnly.ite _ (a s _ _ _) (ChangesOnly.ite _ (a s _ _ _)
        ((((startWrite_touches s _).within (by decide)).andThen (m _ _)).andThen (a _ _ _ _)))
    · exact a s _ _ _
  · exact ChangesOnly.ite _ (a s _ _ _) (ChangesOnly.ite _ (a s _ _ _) (((st s _).andThen (m _ _)).andThen (a _ _ _ _)))
  · exact ChangesOnly.ite _ (a s _ _ _) (ChangesOnly.ite _ (a s _ _ _) (ChangesOnly.ite _ (a s _ _ _)
      (((st s _).andThen (m _ _)).andThen (a _ _ _ _))))
  · exact ChangesOnly.ite _ (a s _ _ _) ((st s _).andThen (a _ _ _ _))
  · exact ChangesOnly.ite _ (a s _ _ _) (ChangesOnly.ite _ (a s _ _ _) (ChangesOnly.ite _ (a s _ _ _)
      (((st s _).andThen (m _ _)).andThen (a _ _ _ _))))
  · exact (haltChannel_touches s _ _ _).within (by decide)
  · exact (runChannel_touches s _ _).within (by decide)
  · exact (clearChannel_touches s _ _).within (by decide)
  · exact ((emptyCapture_touches s).within (by decide)).andThen (a _ _ _ _)
  · exact (learnPosition_touches s _ _ _).within (by decide)
  · exact (cancelLearn_touches s _).within (by decide)
  · exact (isolateRear_touches s _).within (by decide)
  · exact (resumeRear_touches s _).within (by decide)
  · exact absurd rfl hc
  · exact ChangesOnly.nothing _ s

theorem restart_touches (tag : Byte) : ChangesOnly requestParts s (restart tag s) := by
  have a : ∀ an, ChangesOnly requestParts s (answer codeRestart tag an s) := fun an =>
    (answer_touches s _ _ an).within (by decide)
  exact ChangesOnly.ite _ (a _) ((a _).andThen ((functionalReset_touches _).within (by decide)))

theorem passRequest_touches (code : Nat) (tag : Byte) (data : List Byte) :
    ChangesOnly requestParts s (passRequest code tag data s) := by
  by_cases hc : code = 18
  · subst hc
    exact restart_touches s tag
  · exact (passRequest_owner s code tag data hc).within (by decide)

theorem engineTakes_touches (f : CanFrame) : ChangesOnly requestParts s (engineTakes f s) := by
  have m : ∀ (t : State) f, ChangesOnly requestParts t (t.onMgmt f) := fun t f => (onMgmt_touches t f).within (by decide)
  unfold engineTakes
  extract_lets s1
  refine ChangesOnly.andThen (t := s1) (m s _) ?_
  split
  · unfold judgeRequest
    dsimp only
    exact ChangesOnly.ite _ ((m _ _).andThen ((answer_request _ _ _ _).within (by decide))) (ChangesOnly.ite _ ((m _ _).andThen
      ((answer_request _ _ _ _).within (by decide))) (ChangesOnly.ite _ ((answer_request _ _ _ _).within (by decide)) (passRequest_touches _ _ _ _)))
  · exact m _ _

theorem countArrival_touches (p : Port) : ChangesOnly [.relay] s (countArrival p s) := onRelay_touches s _

theorem handleRequest_touches (f : CanFrame) : ChangesOnly requestParts s (handleRequest f s) := by
  have r : ∀ (t : State) f, ChangesOnly requestParts t (t.onRelay f) := fun t f => (onRelay_touches t f).within (by decide)
  exact ChangesOnly.ite _ ((engineTakes_touches s f).andThen (r _ _)) (ChangesOnly.ite _ (engineTakes_touches s f)
    (ChangesOnly.ite _ (r s _) (r s _)))

theorem requestArrival_touches (code : Nat) (q : ReqFrame) : ChangesOnly requestParts s (requestArrival code q s) :=
  ((countArrival_touches s _).within (by decide)).andThen (handleRequest_touches _ _)

theorem frameArrival_touches (p : Port) (f : CanFrame) : ChangesOnly requestParts s (frameArrival p f s) := by
  have r : ∀ (t : State) f, ChangesOnly requestParts t (t.onRelay f) := fun t f => (onRelay_touches t f).within (by decide)
  unfold frameArrival
  split
  · refine ChangesOnly.andThen (t := countArrival .front s) (r s _) (ChangesOnly.ite _ ?_ (r _ _))
    unfold handleFront
    split
    · exact r _ _
    · exact (takeDemand_touches _ _).within (by decide)
    · exact (takePosition_touches _ _).within (by decide)
    · exact r _ _
    · exact r _ _
    · exact handleRequest_touches _ _
    · exact r _ _
    · exact r _ _
  · refine ChangesOnly.andThen (t := countArrival .rear s) (r s _) (ChangesOnly.ite _ (r _ _) (ChangesOnly.ite _ ?_ (r _ _)))
    unfold handleRear
    split <;> exact r _ _

end Management

end Sys2Proof.Machine
end

