-- ==== Sys2Proof/Laws/Commands.lean ====
section
/-! SUPPORT. Commands as effects on a powered part, what any command may change, and the cases of a step. -/

namespace Sys2Proof.Machine

open Sys2Proof

/-- The effect on a powered part of a command that a part without supply does not take. -/
def effectOf : Instr → Option (State → State)
  | .powerOnReset => none
  | .powerLoss => none
  | .resetLineAsserted => none
  | .resetLineReleased => none
  | .carrierChange _ => none
  | .sampleSetArrival b => some (sampleSetArrival b)
  | .lossTimerExpiry => some lossTimerExpiry
  | .valveRecordSent => some valveRecordSent
  | .pendingRecordTransmit => some pendingRecordTransmit
  | .refreshDue => some refreshDue
  | .driverStatusRecord b => some (driverStatusRecord b)
  | .holdTimerExpiry c => some (holdTimerExpiry c)
  | .rollTimerExpiry => some rollTimerExpiry
  | .syncMatch b => some (takeBit b)
  | .telegramComplete b => some (takeBit b)
  | .telegramEntryTaken => some telegramEntryTaken
  | .checkTimerExpiry => some checkTimerExpiry
  | .learnTimerExpiry => some learnTimerExpiry
  | .frameArrival p f => some (frameArrival p f)
  | .demandFrame f => some fun s => takeDemand f.data (countArrival .front s)
  | .positionFrame f => some fun s => takePosition f.data (countArrival .front s)
  | .demandTimerExpiry => some demandTimerExpiry
  | .rearwardTimerExpiry => some rearwardTimerExpiry
  | .frontHandover => some frontHandover
  | .frontHandoverOutcome a => some (frontHandoverOutcome a)
  | .rearHandover => some rearHandover
  | .rearHandoverOutcome a => some (rearHandoverOutcome a)
  | .statusTimerExpiry => some statusTimerExpiry
  | .readRecord q => some (requestArrival codeReadRecord q)
  | .openTable q => some (requestArrival codeOpenTable q)
  | .loadSegment q => some (requestArrival codeLoadSegment q)
  | .activateTable q => some (requestArrival codeActivateTable q)
  | .storeBlock q => some (requestArrival codeStoreBlock q)
  | .blockWriteComplete => some blockWriteComplete
  | .eraseTallies q => some (requestArrival codeEraseTallies q)
  | .tallyEraseComplete => some tallyEraseComplete
  | .tallyBitProgrammed => some tallyBitProgrammed
  | .pendingTallyStart => some pendingTallyStart
  | .waitingBlock3StoreStart => some waitingBlock3StoreStart
  | .setProtection q => some (requestArrival codeSetProtection q)
  | .refreshProtection q => some (requestArrival codeRefreshProtection q)
  | .lockCalibration q => some (requestArrival codeLockCalibration q)
  | .protectionWordProgrammed => some protectionWordProgrammed
  | .haltChannel q => some (requestArrival codeHaltChannel q)
  | .runChannel q => some (requestArrival codeRunChannel q)
  | .clearChannel q => some (requestArrival codeClearChannel q)
  | .clearCapture q => some (requestArrival codeClearCapture q)
  | .learnPosition q => some (requestArrival codeLearnPosition q)
  | .cancelLearn q => some (requestArrival codeCancelLearn q)
  | .isolateRear q => some (requestArrival codeIsolateRear q)
  | .resumeRear q => some (requestArrival codeResumeRear q)
  | .restart q => some (requestArrival codeRestart q)
  | .bitTaken b => some (takeBit b)

theorem exec_effect {c : Instr} {f : State → State} (h : effectOf c = some f) (s : State) : exec c s = live f s := by
  cases c <;> simp [effectOf] at h <;> subst h <;> rfl

theorem exec_powered {c : Instr} {f : State → State} (h : effectOf c = some f) {s : State} (hp : s.powered = true) :
    exec c s = .next (f s) := by
  rw [exec_effect h]; simp [live, hp]

theorem exec_unpowered {c : Instr} {f : State → State} (h : effectOf c = some f) {s : State} (hp : s.powered = false) :
    exec c s = .next s := by
  rw [exec_effect h]; simp [live, hp]

/-- Everything a command can answer. -/
theorem exec_cases {c : Instr} {s t : State} (h : exec c s = .next t) :
    (c = .powerOnReset ∧ t = powerOn s) ∨ (c = .powerLoss ∧ t = losePower s) ∨
    (c = .resetLineAsserted ∧ t = if s.powered then assertResetLine s else { s with resetLine := true }) ∨
    (c = .resetLineReleased ∧ t = if s.powered then releaseResetLine s else { s with resetLine := false }) ∨
    (∃ b, c = .carrierChange b ∧
      t = if s.powered then carrierChange b s else s.onRx fun r => { r with carrier := b }) ∨
    ∃ f, effectOf c = some f ∧ t = if s.powered then f s else s := by
  cases hf : effectOf c with
  | some f =>
    rw [exec_effect hf] at h
    refine .inr (.inr (.inr (.inr (.inr ⟨f, rfl, ?_⟩))))
    unfold live at h
    split at h <;> rename_i hp <;> simp only [hp] <;> injection h with h <;> exact h.symm
  | none =>
    cases c <;> simp [effectOf] at hf
    · injection h with h; exact .inl ⟨rfl, h.symm⟩
    · injection h with h; exact .inr (.inl ⟨rfl, h.symm⟩)
    · refine .inr (.inr (.inl ⟨rfl, ?_⟩))
      simp only [exec, execResetLineAsserted] at h
      split at h <;> rename_i hp <;> injection h with h <;> simp [hp, ← h]
    · refine .inr (.inr (.inr (.inl ⟨rfl, ?_⟩)))
      simp only [exec, execResetLineReleased] at h
      split at h <;> rename_i hp <;> injection h with h <;> simp [hp, ← h]
    · rename_i b
      refine .inr (.inr (.inr (.inr (.inl ⟨b, rfl, ?_⟩))))
      simp only [exec, execCarrierChange] at h
      split at h <;> rename_i hp <;> injection h with h <;> simp [hp, ← h]

/-- The parts that no effect reaches: the supply, the two lines' levels, the straps, the clock and the queue. -/
def effectParts : List Part := .valve :: requestParts

theorem effect_touches {c : Instr} {f : State → State} (h : effectOf c = some f) (s : State) :
    ChangesOnly effectParts s (f s) := by
  cases c <;> simp only [effectOf, reduceCtorEq, Option.some.injEq] at h <;> subst h
  · exact (sampleSetArrival_touches s _).within (by decide)
  · exact (lossTimerExpiry_touches s).within (by decide)
  · exact (valveRecordSent_touches s).within (by decide)
  · exact (pendingRecordTransmit_touches s).within (by decide)
  · exact (refreshDue_touches s).within (by decide)
  · exact (driverStatusRecord_touches s _).within (by decide)
  · exact (holdTimerExpiry_touches s _).within (by decide)
  · exact (rollTimerExpiry_touches s).within (by decide)
  · exact (takeBit_touches s _).within (by decide)
  · exact (takeBit_touches s _).within (by decide)
  · exact (telegramEntryTaken_touches s).within (by decide)
  · exact (checkTimerExpiry_touches s).within (by decide)
  · exact (learnTimerExpiry_touches s).within (by decide)
  · exact (frameArrival_touches s _ _).within (by decide)
  · exact ((countArrival_touches s _).within (by decide)).andThen ((takeDemand_touches _ _).within (by decide))
  · exact ((countArrival_touches s _).within (by decide)).andThen ((takePosition_touches _ _).within (by decide))
  · exact (demandTimerExpiry_touches s).within (by decide)
  · exact (rearwardTimerExpiry_touches s).within (by decide)
  · exact (frontHandover_touches s).within (by decide)
  · exact (frontHandoverOutcome_touches s _).within (by decide)
  · exact (rearHandover_touches s).within (by decide)
  · exact (rearHandoverOutcome_touches s _).within (by decide)
  · exact (statusTimerExpiry_touches s).within (by decide)
  · exact (requestArrival_touches s _ _).within (by decide)
  · exact (requestArrival_touches s _ _).within (by decide)
  · exact (requestArrival_touches s _ _).within (by decide)
  · exact (requestArrival_touches s _ _).within (by decide)
  · exact (requestArrival_touches s _ _).within (by decide)
  · exact (blockWriteComplete_touches s).within (by decide)
  · exact (requestArrival_touches s _ _).within (by decide)
  · exact (tallyEraseComplete_touches s).within (by decide)
  · exact (tallyBitProgrammed_touches s).within (by decide)
  · exact (pendingTallyStart_touches s).within (by decide)
  · exact (waitingBlock3StoreStart_touches s).within (by decide)
  · exact (requestArrival_touches s _ _).within (by decide)
  · exact (requestArrival_touches s _ _).within (by decide)
  · exact (requestArrival_touches s _ _).within (by decide)
  · exact (protectionWordProgrammed_touches s).within (by decide)
  all_goals first
    | exact (requestArrival_touches s _ _).within (by decide)
    | exact (takeBit_touches s _).within (by decide)

/-! ### Steps -/

/-- Everything a step can do. -/
theorem step_cases {s t : State} (h : step s = .next t) :
    (s.pending = [] ∧ t = idleTick s) ∨
      ∃ c rest, s.pending = c :: rest ∧ exec c (s.withPending rest) = .next t := by
  unfold step at h
  split at h
  · rename_i c rest hq
    exact .inr ⟨c, rest, hq, h⟩
  · rename_i hq
    injection h with h
    exact .inl ⟨hq, h.symm⟩

/-- A property that no change of the queue and no tick disturbs and every command keeps is kept by every step. -/
theorem step_keeps (P : State → Prop) (hq : ∀ s q, P s → P (s.withPending q)) (ht : ∀ s, P s → P (idleTick s))
    (hc : ∀ c s t, P s → exec c s = .next t → P t) {s t : State} (hs : P s) (h : step s = .next t) : P t := by
  obtain ⟨-, rfl⟩ | ⟨c, rest, -, hx⟩ := step_cases h
  · exact ht s hs
  · exact hc c _ t (hq s rest hs) hx

theorem idleTick_touches (s : State) : ChangesOnly [.clock, .free, .queue] s (idleTick s) := by
  unfold idleTick
  split
  · intro p hp; cases p <;> first | rfl | simp at hp
  · exact ChangesOnly.nothing _ s

theorem withPending_touches (s : State) (q : List Instr) : ChangesOnly [.queue] s (s.withPending q) := by
  intro p hp; cases p <;> first | rfl | simp at hp

/-! ### Requests -/

theorem requestFrame_class (code : Nat) (q : ReqFrame) : frameClass (requestFrame code q) = 5 := by
  simp only [frameClass, requestFrame, classRequest]
  have : ∀ (p : BitVec 3) (d so : BitVec 4) (h : BitVec 8) (c : BitVec 5),
      BitVec.extractLsb' 21 5 (p ++ BitVec.ofNat 5 5 ++ d ++ so ++ h ++ c) = 5#5 := by
    intro p d so h c
    apply BitVec.eq_of_getLsbD_eq
    intro i hi
    rcases i with _ | _ | _ | _ | _ | i
    all_goals first
      | omega
      | (simp only [BitVec.getLsbD_extractLsb', BitVec.getLsbD_append]; simp)
  rw [this]; rfl

theorem requestFrame_dest (code : Nat) (q : ReqFrame) : frameDest (requestFrame code q) = q.dest.toNat := by
  simp only [frameDest, requestFrame]
  congr 1
  apply BitVec.eq_of_getLsbD_eq
  intro i hi
  rcases i with _ | _ | _ | _ | i
  all_goals first
    | omega
    | (simp only [BitVec.getLsbD_extractLsb', BitVec.getLsbD_append]; simp)

theorem requestFrame_code (code : Nat) (q : ReqFrame) (h : code < 32) : frameCode (requestFrame code q) = code := by
  simp only [frameCode, requestFrame]
  have : ∀ (a : BitVec 24) (c : BitVec 5), BitVec.extractLsb' 0 5 (a ++ c) = c := by
    intro a c
    apply BitVec.eq_of_getLsbD_eq
    intro i hi
    simp only [BitVec.getLsbD_extractLsb', BitVec.getLsbD_append]
    simp [hi]
  rw [this]
  simp; omega

theorem requestFrame_data (code : Nat) (q : ReqFrame) : (requestFrame code q).data = q.data := rfl

/-- An addressed request of a known code with the data it needs reaches its owner (R149, R168). -/
theorem request_reaches {s : State} {q : ReqFrame} {n : Nat} {tag : Byte} (h : TakesRequest s q n tag) {code : Nat}
    (hc : 1 ≤ code ∧ code ≤ 18) (hn : requestLength code ≤ n) :
    requestArrival code q s = passRequest code tag q.data (requestTaken s) := by
  obtain ⟨-, hd, h15, hl, ht⟩ := h
  have hdata : q.data = tag :: q.data.tail := by
    cases hq : q.data with
    | nil => simp [hq] at ht
    | cons a l => simp [hq] at ht; simp [ht]
  have hchain : chainPosition (countArrival .front s) = chainPosition s := rfl
  have hcode : frameCode (requestFrame code q) = code := requestFrame_code code q (by omega)
  unfold requestArrival handleRequest
  rw [requestFrame_dest, hchain, if_neg h15, if_pos hd]
  unfold engineTakes
  simp only [requestFrame_data]
  rw [hdata]
  simp only [judgeRequest, hcode, requestFrame_data, requestFrame_dest]
  rw [if_neg (by omega), if_neg (by omega), if_neg (by omega), ← hdata]
  rfl

end Sys2Proof.Machine
end

