-- ==== Sys2Proof/Laws/Conditions.lean ====
section
/-! SUPPORT. What the conditions the blocks judge by say: intervals, runs and timers, validity, speeds, protection, and the
classes of queued frames. -/

namespace Sys2Proof.Machine

open Sys2Proof

/-! ### Intervals -/

theorem reached_iff (now start : Stamp) (d : Nat) : reached now start d = true ↔ d ≤ (now - start).toNat :=
  decide_eq_true_iff

theorem reached_false_iff (now start : Stamp) (d : Nat) : reached now start d = false ↔ (now - start).toNat < d := by
  rw [← Bool.not_eq_true, reached_iff, Nat.not_le]

theorem runLasted_some (now start : Stamp) (d : Nat) : runLasted now (some start) d = reached now start d := rfl

theorem timerExpired_some (now : Stamp) (t : Timer) : timerExpired now (some t) = reached now t.start t.bound := rfl

/-! ### Validity and readings -/

theorem inputValid_iff (s : State) (i : Fin 16) :
    inputValid s i = true ↔ (input s i).status = .valid ∨ (input s i).status = .held := by
  unfold inputValid; cases (input s i).status <;> simp

theorem reading_some {s : State} {i : Fin 16} {v : Nat} :
    reading s i = some v ↔ inputValid s i = true ∧ (input s i).value.toNat = v := by
  unfold reading inputValue; split <;> simp_all

theorem reading_none {s : State} {i : Fin 16} : reading s i = none ↔ inputValid s i = false := by
  unfold reading; split <;> simp_all

theorem below_iff (r : Option Nat) (level : Nat) : below r level = true ↔ ∃ v, r = some v ∧ v < level := by
  cases r <;> simp [below]

theorem atLeast_iff (r : Option Nat) (level : Nat) : atLeast r level = true ↔ ∃ v, r = some v ∧ level ≤ v := by
  cases r <;> simp [atLeast]

theorem stationary_iff (s : State) : stationary s = true ↔ ∀ v, vehicleSpeed s = some v → v < 200 := by
  unfold stationary; cases vehicleSpeed s <;> simp [atLeast]

theorem frontAlive_iff (s : State) :
    frontAlive s = true ↔ ∃ x, s.link.lastFrame = some x ∧ (s.timeBase - x).toNat ≤ 25 := by
  unfold frontAlive; split
  · rename_i x h; rw [decide_eq_true_iff, h]; exact ⟨fun hx => ⟨x, rfl, hx⟩, fun ⟨_, he, hx⟩ => by cases he; exact hx⟩
  · simp_all

/-! ### Queued frames -/

theorem isAlert_iff (f : CanFrame) : isAlert f = true ↔ frameClass f = 3 := by simp [isAlert, classAlert]

theorem isAlert_false_iff (f : CanFrame) : isAlert f = false ↔ frameClass f ≠ 3 := by simp [isAlert, classAlert]

theorem isLinkItem_iff (i : RearItem) :
    isLinkItem i = true ↔ isDemandItem i = true ∨ ∃ f, i = .frame f ∧ frameClass f = 2 := by
  cases i <;> simp [isLinkItem, isDemandItem, classPosition]

end Sys2Proof.Machine
end

