-- ==== Sys2Proof/Laws/Fields.lean ====
section
/-! SUPPORT. The fields of an identifier made of fields (12.1), and the words of a payload made of words. -/

namespace Sys2Proof.Machine

open Sys2Proof

/-! ### Identifiers -/

theorem framePriority_ownFrame (p c d so sub : Nat) (data : List Byte) :
    framePriority (ownFrame p c d so sub data) = p % 8 := by
  simp only [framePriority, ownFrame, identOf]
  rw [show BitVec.extractLsb' 26 3 (BitVec.ofNat 3 p ++ BitVec.ofNat 5 c ++ BitVec.ofNat 4 d ++ BitVec.ofNat 4 so ++
    BitVec.ofNat 13 sub) = BitVec.ofNat 3 p from ?_]
  · simp
  · apply BitVec.eq_of_getLsbD_eq
    intro i hi
    rcases i with _ | _ | _ | i
    all_goals first
      | omega
      | (simp only [BitVec.getLsbD_extractLsb', BitVec.getLsbD_append]; simp)

theorem frameClass_ownFrame (p c d so sub : Nat) (data : List Byte) :
    frameClass (ownFrame p c d so sub data) = c % 32 := by
  simp only [frameClass, ownFrame, identOf]
  rw [show BitVec.extractLsb' 21 5 (BitVec.ofNat 3 p ++ BitVec.ofNat 5 c ++ BitVec.ofNat 4 d ++ BitVec.ofNat 4 so ++
    BitVec.ofNat 13 sub) = BitVec.ofNat 5 c from ?_]
  · simp
  · apply BitVec.eq_of_getLsbD_eq
    intro i hi
    rcases i with _ | _ | _ | _ | _ | i
    all_goals first
      | omega
      | (simp only [BitVec.getLsbD_extractLsb', BitVec.getLsbD_append]; simp)

theorem frameDest_ownFrame (p c d so sub : Nat) (data : List Byte) :
    frameDest (ownFrame p c d so sub data) = d % 16 := by
  simp only [frameDest, ownFrame, identOf]
  rw [show BitVec.extractLsb' 17 4 (BitVec.ofNat 3 p ++ BitVec.ofNat 5 c ++ BitVec.ofNat 4 d ++ BitVec.ofNat 4 so ++
    BitVec.ofNat 13 sub) = BitVec.ofNat 4 d from ?_]
  · simp
  · apply BitVec.eq_of_getLsbD_eq
    intro i hi
    rcases i with _ | _ | _ | _ | i
    all_goals first
      | omega
      | (simp only [BitVec.getLsbD_extractLsb', BitVec.getLsbD_append]; simp)

theorem frameSource_ownFrame (p c d so sub : Nat) (data : List Byte) :
    frameSource (ownFrame p c d so sub data) = so % 16 := by
  simp only [frameSource, ownFrame, identOf]
  rw [show BitVec.extractLsb' 13 4 (BitVec.ofNat 3 p ++ BitVec.ofNat 5 c ++ BitVec.ofNat 4 d ++ BitVec.ofNat 4 so ++
    BitVec.ofNat 13 sub) = BitVec.ofNat 4 so from ?_]
  · simp
  · apply BitVec.eq_of_getLsbD_eq
    intro i hi
    rcases i with _ | _ | _ | _ | i
    all_goals first
      | omega
      | (simp only [BitVec.getLsbD_extractLsb', BitVec.getLsbD_append]; simp)

theorem frameSubcode_ownFrame (p c d so sub : Nat) (data : List Byte) :
    frameSubcode (ownFrame p c d so sub data) = BitVec.ofNat 13 sub := by
  simp only [frameSubcode, ownFrame, identOf]
  have : ∀ (a : BitVec 16) (b : BitVec 13), BitVec.extractLsb' 0 13 (a ++ b) = b := by
    intro a b
    apply BitVec.eq_of_getLsbD_eq
    intro i hi
    simp only [BitVec.getLsbD_extractLsb', BitVec.getLsbD_append]
    simp [hi]
  exact this _ _

/-- A demoted frame changes in its priority field alone (R150). -/
theorem withPriority_fields (f : CanFrame) (p : Nat) :
    framePriority (withPriority f p) = p % 8 ∧ frameClass (withPriority f p) = frameClass f ∧
    frameDest (withPriority f p) = frameDest f ∧ frameSource (withPriority f p) = frameSource f ∧
    frameSubcode (withPriority f p) = frameSubcode f := by
  have low : ∀ a n, a + n ≤ 26 → BitVec.extractLsb' a n (BitVec.ofNat 3 p ++ f.ident.extractLsb' 0 26) =
      BitVec.extractLsb' a n f.ident := by
    intro a n h
    apply BitVec.eq_of_getLsbD_eq
    intro i hi
    simp only [BitVec.getLsbD_extractLsb', BitVec.getLsbD_append, hi, decide_true, Bool.true_and]
    rw [if_pos (by omega)]
    have : a + i < 26 := by omega
    simp [this]
  refine ⟨?_, ?_, ?_, ?_, ?_⟩
  · simp only [framePriority, withPriority]
    rw [show BitVec.extractLsb' 26 3 (BitVec.ofNat 3 p ++ f.ident.extractLsb' 0 26) = BitVec.ofNat 3 p from ?_]
    · simp
    · apply BitVec.eq_of_getLsbD_eq
      intro i hi
      simp only [BitVec.getLsbD_extractLsb', BitVec.getLsbD_append, hi, decide_true, Bool.true_and]
      rw [if_neg (by omega)]
      congr 1; omega
  · simp only [frameClass, withPriority]; rw [low 21 5 (by omega)]
  · simp only [frameDest, withPriority]; rw [low 17 4 (by omega)]
  · simp only [frameSource, withPriority]; rw [low 13 4 (by omega)]
  · simp only [frameSubcode, withPriority]; rw [low 0 13 (by omega)]

/-! ### Words -/

theorem dataWord_wordBytes (n : Nat) (h : n ≤ 65535) (rest : List Byte) : dataWord (wordBytes n ++ rest) 0 = n := by
  simp [dataWord, dataByte, wordBytes, byteOf]; omega

end Sys2Proof.Machine
end

