-- ==== Sys2Proof/Laws/Memory.lean ====
section
/-! SUPPORT. The nonvolatile store as an addressed memory: reading after writing, and the canonical form kept by every
operation. -/

namespace Sys2Proof.Machine

open Sys2Proof

/-- Every listed address of a well-formed memory lies at or above its lower end. -/
theorem memRead_below {m : Memory} {lo a : Nat} (h : memWfFrom lo m = true) (ha : a < lo) : memRead m a = erasedByte := by
  induction m generalizing lo with
  | nil => rfl
  | cons e m ih =>
    obtain ⟨k, v⟩ := e
    simp only [memWfFrom, Bool.and_eq_true, decide_eq_true_eq] at h
    rw [memRead, if_neg (by omega)]
    exact ih h.2 (by omega)

/-- A byte reads as it was written, and every other byte as before. -/
theorem memRead_memWrite {m : Memory} {lo a : Nat} (h : memWfFrom lo m = true) (b : Byte) (c : Nat) :
    memRead (memWrite m a b) c = if c = a then b else memRead m c := by
  induction m generalizing lo with
  | nil =>
    rw [memWrite]
    split <;> rename_i hb
    · split <;> simp_all [memRead]
    · simp only [memRead, eq_comm]
  | cons e m ih =>
    obtain ⟨k, v⟩ := e
    simp only [memWfFrom, Bool.and_eq_true, decide_eq_true_eq] at h
    have below : ∀ d, d ≤ k → memRead m d = erasedByte := fun d hd => memRead_below h.2 (by omega)
    rw [memWrite]
    split
    · rename_i hak
      split <;> rename_i hb
      · split
        · rename_i hc
          rw [memRead, if_neg (by omega), hb, below c (by omega)]
        · rfl
      · rw [memRead]
        simp only [eq_comm]
    · split
      · rename_i hak
        subst hak
        split <;> rename_i hb
        · split
          · rename_i hc
            rw [hc, hb, below a (by omega)]
          · rename_i hc
            rw [memRead, if_neg (Ne.symm hc)]
        · rw [memRead, memRead]
          by_cases hc : a = c
          · simp [hc]
          · rw [if_neg hc, if_neg hc, if_neg (Ne.symm hc)]
      · rename_i h1 h2
        rw [memRead, memRead, ih h.2]
        by_cases hc : k = c
        · rw [if_pos hc, if_pos hc, if_neg (by omega)]
        · rw [if_neg hc, if_neg hc]

/-- A write within the store keeps the canonical form. -/
theorem memWfFrom_memWrite {m : Memory} {lo a : Nat} (h : memWfFrom lo m = true) (hlo : lo ≤ a) (ha : a < memorySize)
    (b : Byte) : memWfFrom lo (memWrite m a b) = true := by
  induction m generalizing lo with
  | nil =>
    rw [memWrite]
    split
    · rfl
    · rename_i hb
      simp [memWfFrom, hlo, ha, hb]
  | cons e m ih =>
    obtain ⟨k, v⟩ := e
    have hm := h
    simp only [memWfFrom, Bool.and_eq_true, decide_eq_true_eq, bne_iff_ne, ne_eq] at h
    have later : ∀ l, l ≤ k → memWfFrom l ((k, v) :: m) = true := by
      intro l hl
      simp [memWfFrom, hl, h.1.1.2, h.1.2, h.2]
    have weaker : memWfFrom lo m = true := by
      cases m with
      | nil => rfl
      | cons e m =>
        obtain ⟨k', v'⟩ := e
        have h2 := h.2
        simp only [memWfFrom, Bool.and_eq_true, decide_eq_true_eq] at h2 ⊢
        refine ⟨⟨⟨by omega, h2.1.1.2⟩, h2.1.2⟩, h2.2⟩
    rw [memWrite]
    split
    · rename_i hak
      split
      · exact hm
      · rename_i hb
        rw [memWfFrom, later (a + 1) (by omega)]
        simp [hlo, ha, hb]
    · split
      · rename_i hak
        subst hak
        split
        · exact weaker
        · rename_i hb
          simp [memWfFrom, hlo, ha, hb, h.2]
      · have := ih h.2 (by omega)
        simp [memWfFrom, h.1.1.1, h.1.1.2, h.1.2, this]

/-- Writing bytes within the store keeps the canonical form. -/
theorem memWf_memWriteBytes {m : Memory} (h : Memory.wf m = true) (a : Nat) (bs : List Byte)
    (ha : a + bs.length ≤ memorySize) : Memory.wf (memWriteBytes m a bs) = true := by
  induction bs generalizing m a with
  | nil => exact h
  | cons b bs ih =>
    simp only [List.length_cons] at ha
    exact ih (memWfFrom_memWrite h (Nat.zero_le _) (by omega) b) (a + 1) (by omega)

/-- What an address reads as after bytes are written: the byte written there, or what it read as before. -/
theorem memRead_memWriteBytes {m : Memory} (h : Memory.wf m = true) (a : Nat) (bs : List Byte)
    (ha : a + bs.length ≤ memorySize) (c : Nat) :
    memRead (memWriteBytes m a bs) c = if a ≤ c ∧ c < a + bs.length then bs.getD (c - a) 0 else memRead m c := by
  induction bs generalizing m a with
  | nil =>
    simp only [memWriteBytes, List.length_nil]
    rw [if_neg (by omega)]
  | cons b bs ih =>
    simp only [List.length_cons] at ha
    rw [memWriteBytes, ih (memWfFrom_memWrite h (Nat.zero_le _) (by omega) b) (a + 1) (by omega), memRead_memWrite h]
    simp only [List.length_cons]
    by_cases h1 : c = a
    · subst h1
      rw [if_neg (by omega), if_pos rfl, if_pos (by omega)]
      simp
    · by_cases h2 : a + 1 ≤ c ∧ c < a + 1 + bs.length
      · rw [if_pos h2, if_pos (by omega)]
        obtain ⟨d, hd⟩ : ∃ d, c = a + 1 + d := ⟨c - (a + 1), by omega⟩
        subst hd
        rw [show a + 1 + d - (a + 1) = d by omega, show a + 1 + d - a = d + 1 by omega, List.getD_cons_succ]
      · rw [if_neg h2, if_neg h1, if_neg (by omega)]

@[simp] theorem memReadBytes_length (m : Memory) (a n : Nat) : (memReadBytes m a n).length = n := by simp [memReadBytes]

/-- Bytes written within the store read back as they were written. -/
theorem memReadBytes_memWriteBytes {m : Memory} (h : Memory.wf m = true) (a : Nat) (bs : List Byte)
    (ha : a + bs.length ≤ memorySize) : memReadBytes (memWriteBytes m a bs) a bs.length = bs := by
  apply List.ext_getElem
  · simp
  · intro i h1 h2
    simp only [memReadBytes, List.getElem_map, List.getElem_range]
    rw [memRead_memWriteBytes h a bs ha, if_pos (by omega)]
    simp [List.getD_eq_getElem?_getD, h2]

/-- Bytes outside those written read as before. -/
theorem memReadBytes_outside {m : Memory} (h : Memory.wf m = true) (a : Nat) (bs : List Byte)
    (ha : a + bs.length ≤ memorySize) (c n : Nat) (hc : c + n ≤ a ∨ a + bs.length ≤ c) :
    memReadBytes (memWriteBytes m a bs) c n = memReadBytes m c n := by
  simp only [memReadBytes]
  apply List.map_congr_left
  intro i hi
  rw [List.mem_range] at hi
  rw [memRead_memWriteBytes h a bs ha, if_neg (by omega)]

end Sys2Proof.Machine
end

