-- ==== Sys2Proof/WellFormed.lean ====
section
/-! DEFINITION. Which terms of `Instr` are commands the part can be given: a CAN frame carries at most 8 data bytes, a
FRAME_ARRIVAL is none of the frames that have a row of their own, and an 11-bit identifier fits its 11 bits. -/

namespace Sys2Proof

/-- The data of a classical CAN frame: at most 8 bytes (12.1). -/
def dataFits (data : List Byte) : Bool := decide (data.length ≤ 8)

/-- The class field, identifier bits 25-21 (12.1), as the well-formedness check reads it. -/
def frameClassBits (f : CanFrame) : Nat := (f.ident.extractLsb' 21 5).toNat

/-- A frame that has a row of its own when it arrives at the front port: DEMAND, POSITION, and a MGMT_REQUEST whose code
is one of the eighteen (12.1). -/
def hasOwnRow (f : CanFrame) : Bool :=
  f.extended &&
    (frameClassBits f == 1 || frameClassBits f == 2 ||
      (frameClassBits f == 5 && decide (1 ≤ (f.ident.extractLsb' 0 5).toNat ∧ (f.ident.extractLsb' 0 5).toNat ≤ 18)))

/-- A frame of FRAME_ARRIVAL: data of a CAN frame, an 11-bit identifier in 11 bits, and none of the frames that have a
row of their own at that port. -/
def arrivalFits (p : Port) (f : CanFrame) : Bool :=
  dataFits f.data && (f.extended || decide (f.ident.toNat < 2048)) &&
    match p with
    | .front => !hasOwnRow f
    | .rear => true

/-- The commands the part can be given. -/
def WellFormed : Instr → Bool
  | .powerOnReset => true
  | .powerLoss => true
  | .resetLineAsserted => true
  | .resetLineReleased => true
  | .sampleSetArrival _ => true
  | .lossTimerExpiry => true
  | .valveRecordSent => true
  | .pendingRecordTransmit => true
  | .refreshDue => true
  | .driverStatusRecord _ => true
  | .holdTimerExpiry _ => true
  | .rollTimerExpiry => true
  | .carrierChange _ => true
  | .syncMatch _ => true
  | .telegramComplete _ => true
  | .telegramEntryTaken => true
  | .checkTimerExpiry => true
  | .learnTimerExpiry => true
  | .frameArrival p f => arrivalFits p f
  | .demandFrame f => dataFits f.data
  | .positionFrame f => dataFits f.data
  | .demandTimerExpiry => true
  | .rearwardTimerExpiry => true
  | .frontHandover => true
  | .frontHandoverOutcome _ => true
  | .rearHandover => true
  | .rearHandoverOutcome _ => true
  | .statusTimerExpiry => true
  | .readRecord r => dataFits r.data
  | .openTable r => dataFits r.data
  | .loadSegment r => dataFits r.data
  | .activateTable r => dataFits r.data
  | .storeBlock r => dataFits r.data
  | .blockWriteComplete => true
  | .eraseTallies r => dataFits r.data
  | .tallyEraseComplete => true
  | .tallyBitProgrammed => true
  | .pendingTallyStart => true
  | .waitingBlock3StoreStart => true
  | .setProtection r => dataFits r.data
  | .refreshProtection r => dataFits r.data
  | .lockCalibration r => dataFits r.data
  | .protectionWordProgrammed => true
  | .haltChannel r => dataFits r.data
  | .runChannel r => dataFits r.data
  | .clearChannel r => dataFits r.data
  | .clearCapture r => dataFits r.data
  | .learnPosition r => dataFits r.data
  | .cancelLearn r => dataFits r.data
  | .isolateRear r => dataFits r.data
  | .resumeRear r => dataFits r.data
  | .restart r => dataFits r.data
  | .bitTaken _ => true

end Sys2Proof
end

