-- ==== Sys2Proof/Tests/Slice0.lean ====
section
/-! SUPPORT. The model's own tests: the well-formedness smoke, the spec's worked examples (each names its section), and one
witness of the hypotheses of every statement that has any. -/

-- One theorem is checked at a time, so that few threads stand waiting for the kernel.
set_option Elab.async false
set_option maxRecDepth 20000

namespace Sys2Proof.Tests

open Sys2Proof Sys2Proof.Machine

/-! ### Builders -/

/-- The state a command leaves. -/
def after (c : Instr) (s : State) : State :=
  match exec c s with
  | .next t => t
  | .fault _ => s
  | .refused _ => s

/-- The part at a time, right after reset otherwise. -/
def at' (ms : Nat) : State := { State.reset with timeBase := BitVec.ofNat 32 ms }

/-- The part at a time, PLACED at position 1. -/
def placedAt (ms : Nat) : State := { at' ms with link := linkReset 1 0, relay := relayReset true false }

/-- A request addressed to position 1. -/
def req (data : List Byte) : ReqFrame := { priority := 5, dest := 1, source := 0, subHigh := 0, data := data }

/-- A DEMAND or POSITION frame from the front. -/
def lnk (data : List Byte) : LinkFrame := { priority := 1, dest := 15, source := 0, subcode := 0, data := data }

/-- A sample set of sixteen words with its check byte. -/
def sampleSet (seq : Nat) (words : List Nat) : List Byte :=
  let body := byteOf seq :: words.flatMap wordBytes
  body ++ [crc8 body]

/-- A set of zeros. -/
def quietSet (seq : Nat) : List Byte := sampleSet seq (List.replicate 16 0)

/-- The state with an input VALID at a value. -/
def withInput (i : Fin 16) (v : Int) (s : State) : State :=
  s.onSample fun p => { p with inputs := gridSet p.inputs i ⟨.valid, v, some v, none⟩ }

/-- The T2 of the worked figures for both groups (1.10). -/
def workedGroup : List Byte :=
  [3, 0] ++ [40, 200, 480, 0, 0, 0, 0, 0].flatMap wordBytes ++ [350, 1800, 2400, 0, 0, 0, 0, 0].flatMap wordBytes ++
    [450, 1800, 4096, 30, 150, 50, 1434].flatMap wordBytes ++ List.replicate 12 0

def workedT2 : Table := workedGroup ++ workedGroup

/-- The part with the worked T2 and the worked load ratios, group A at 3711 and group B at 2048 (4.11). -/
def worked (ms : Nat) : State :=
  let s := placedAt ms
  { s with
    tables := { s.tables with t2 := workedT2 }
    load := ⟨{ s.load.a with ratio := 3711 }, { s.load.b with ratio := 2048 }⟩ }

theorem takes_request {s : State} (hp : s.powered = true) (hc : chainPosition s = 1) (tag : Byte) (rest : List Byte) (n : Nat)
    (h : n ≤ (tag :: rest).length) : TakesRequest s (req (tag :: rest)) n tag := by
  unfold TakesRequest req
  exact ⟨hp, by rw [hc]; rfl, by simp, h, rfl⟩

/-! ### Well-formedness: each check refuses an ill-formed term -/

/-- Nine data bytes are no CAN frame's (12.1). -/
theorem test_wf_refuses_nine_data_bytes :
    let d : List Byte := List.replicate 9 0
    ([.demandFrame (lnk d), .positionFrame (lnk d), .readRecord (req d), .openTable (req d), .loadSegment (req d),
      .activateTable (req d), .storeBlock (req d), .eraseTallies (req d), .setProtection (req d),
      .refreshProtection (req d), .lockCalibration (req d), .haltChannel (req d), .runChannel (req d),
      .clearChannel (req d), .clearCapture (req d), .learnPosition (req d), .cancelLearn (req d), .isolateRear (req d),
      .resumeRear (req d), .restart (req d), .frameArrival .front (ownFrame 6 7 0 1 0 d),
      .frameArrival .rear (ownFrame 6 7 0 1 0 d)] : List Instr).all (fun i => !WellFormed i) = true := by decide

theorem test_wf_takes_eight_data_bytes :
    let d : List Byte := List.replicate 8 0
    ([.demandFrame (lnk d), .loadSegment (req d), .frameArrival .rear (ownFrame 6 7 0 1 0 d)] : List Instr).all
      WellFormed = true := by decide

/-- An 11-bit identifier has 11 bits. -/
theorem test_wf_short_identifier :
    WellFormed (.frameArrival .front ⟨false, 2048, []⟩) = false ∧
      WellFormed (.frameArrival .front ⟨false, 2047, []⟩) = true := by decide

/-- DEMAND, POSITION and the eighteen requests have rows of their own at the front port, and none at the rear port. -/
theorem test_wf_frames_with_their_own_row :
    WellFormed (.frameArrival .front (ownFrame 1 1 15 0 0 [])) = false ∧
      WellFormed (.frameArrival .front (ownFrame 2 2 15 0 0 [])) = false ∧
      WellFormed (.frameArrival .front (ownFrame 5 5 1 0 18 [])) = false ∧
      WellFormed (.frameArrival .front (ownFrame 5 5 1 0 19 [])) = true ∧
      WellFormed (.frameArrival .rear (ownFrame 1 1 15 0 0 [])) = true := by decide

/-- The table gives no row any bits (98_reader). -/
theorem test_no_word_spells_a_command : decodeTableWord 16 0 = none ∧ (at' 5).withFetchWord 16 0 = at' 5 := ⟨rfl, rfl⟩

/-! ### Tables and reset -/

/-- R170 and R178: the default tables have their sizes and pass their validations. -/
theorem test_default_tables :
    [t1Default, t2Default, t3Default, t4Default, t5Default, t6Default].map List.length = [96, 120, 32, 48, 64, 144] ∧
      ([(1, t1Default), (2, t2Default), (3, t3Default), (4, t4Default), (5, t5Default), (6, t6Default)] :
        List (Nat × Table)).all (fun x => tableCheck x.1 x.2 == none) = true := by decide +kernel

/-- R171: of Ll above Le the failing field is Le, at byte 34 (log 58); an Ll out of its range fails itself; the worked T2 is
valid. -/
theorem test_t2_validation :
    tableCheck 2 workedT2 = none ∧ tableCheck 2 (workedT2.set 34 7 |>.set 35 8) = some 34 ∧
      tableCheck 2 (workedT2.set 36 24) = some 36 := by decide +kernel

/-- R171 by hand: a_l above a_e fails at a_e, v_stop above v_min at v_min, t_l below t_e at t_e, f_vlow above f_low at f_low
(log 58). -/
theorem test_two_field_conditions :
    tableCheck 3 (t3Default.set 3 7) = some 1 ∧ tableCheck 3 (t3Default.set 13 8) = some 11 ∧
      tableCheck 4 (t4Default.set 6 2) = some 2 ∧ tableCheck 4 (t4Default.set 8 2) = some 4 ∧
      tableCheck 4 (t4Default.set 12 15) = some 10 := by decide +kernel

/-- R178: a power-on reset with nothing stored gives the state called reset, but for its queue and counter. -/
theorem test_power_on_of_an_empty_store :
    (exec .powerOnReset State.reset matches .next _) = true ∧
      { after .powerOnReset State.reset with free := 0 } = State.reset := by decide +kernel

/-! ### Worked examples -/

/-- 1.7: k = 3846; 30 kPa passes, 50 kPa is the onset, 600 kPa gives 566 kPa, and the intervention's 450 kPa gives 426. -/
theorem test_characteristic_of_group_a :
    characteristicFactor workedT2 .a 3711 = 3846 ∧
      [30, 50, 450, 600, 2000].map (characteristicAt workedT2 .a 3711) = [30, 50, 426, 566, 942] := by decide

/-- 1.10: 186 kPa gives load 1673 and ratio 3711, 187 kPa 1682 and 3738, 188 kPa 1691 and 3765. -/
theorem test_load_chain :
    [186, 187, 188].map (fun b => (loadOf workedT2 .a b, ratioOf workedT2 .a (loadOf workedT2 .a b))) =
      [(1673, 3711), (1682, 3738), (1691, 3765)] := by decide

/-- Section 1.6: the overload level 1980 lies between the loads of 284 and 285 kPa. -/
theorem test_overload_level :
    overloadLevel workedT2 .a = 1980 ∧ loadOf workedT2 .a 284 = 1980 ∧ loadOf workedT2 .a 285 = 1982 := by decide

/-- 1.8: the ramp from 850 to 680 kPa takes nine sets, and a rise is taken at once. -/
theorem test_ceiling_ramp :
    (List.range 9).map (fun n => (movedCeiling 680)^[n + 1] 850) = [830, 810, 790, 770, 750, 730, 710, 690, 680] ∧
      movedCeiling 850 680 = 850 := by decide

/-- 4.11: thresholds 401, 301 and 251, and the intervention contributions of 426 and 320 kPa. -/
theorem test_roll_thresholds :
    let th := computeThresholds (worked 20000)
    (th.rMax, th.aLim, th.aTest, th.aRelease) = (3711, 401, 301, 251) ∧
      characteristicAt workedT2 .b 2048 450 = 320 := by decide

/-- 7.11: the target of ratio 3711 with its levels, the gauge of 1010 kPa at 40 °C, and the leak rate of 84 kPa/min. -/
theorem test_tyre_figures :
    targetOf t4Default .a 3711 = ⟨881, 792, 660, 1057⟩ ∧ compensatedGauge 1010 40 = 844 ∧
      leakRate [⟨0, 844⟩, ⟨10000, 830⟩, ⟨20000, 816⟩] = 84 := by decide

/-- 6.8: the telegram of 70,309, bytes 1-9 as the section gives them. -/
theorem test_telegram_fields :
    let bytes : List Byte := [0x1A, 0x2B, 0x3C, 0x4D, 0x03, 0x52, 0x50, 0x20, 17, 0]
    telegramEntry bytes 70309 false =
      { id := 0x1A2B3C4D, pressure := 850, temperature := 25, batteryLow := false, fastLeak := false, rolling := true,
        learn := false, counter := 17, time := 70309, overrunBefore := false } := by decide

/-- R104 by hand: one bit 0 into 0xFF gives 0xD1, one bit 1 gives 0xFE. -/
theorem test_crc_steps : crcBit 0xFF false = 0xD1 ∧ crcBit 0xFF true = 0xFE := by decide

/-- 10.6: the own alert queue at 80,014, and the mismatch of 80,020, which displaces UNKNOWN_SENSOR. -/
def alertLoad : Alerts :=
  let raise := fun (ms : Nat) (c : Cause) (x : Subject) (v : Nat) (a : Alerts) =>
    placeAlert (BitVec.ofNat 32 ms) ⟨c, x, v, BitVec.ofNat 32 ms, false, false⟩ a
  raise 80020 .controlLineMismatch ⟨.block, 4⟩ 120 <| raise 80014 .tyreHot ⟨.tyre, 5⟩ 97 <|
    raise 80011 .unknownSensor ⟨.block, 7⟩ 2 <| raise 80005 .reservoirLow ⟨.block, 4⟩ 445 <|
    raise 80002 .tyreLow ⟨.tyre, 5⟩ 790 (alertsReset 0)

theorem test_alert_queue_under_load :
    alertLoad.queue.map (fun e => causeCode e.cause) = [7, 8, 10, 12] ∧ alertLoad.lost = 1 := by decide

/-- 9.7: with R1 in transmission and the queue full, alert A1 displaces R2; a routine frame is dropped before it. -/
def fullRelay : Relay :=
  { relayReset true false with
    relayed := (List.range 16).map fun n => ⟨ownFrame 6 4 0 2 (n + 1) [], n == 0⟩ }

theorem test_relay_overflow :
    let r := placeRelayed (ownFrame 3 3 0 2 101 []) (placeRelayed (ownFrame 6 4 0 2 17 []) fullRelay)
    r.relayed.map (fun e => (frameSubcode e.frame).toNat) = [1, 3, 4, 5, 6, 7, 8, 9, 10, 11, 12, 13, 14, 15, 16, 101] ∧
      r.relayedRoutineFull = 1 ∧ r.displaced = 1 ∧ r.drops = 2 := by decide

/-- 5.10: the emergency contribution of group A at D_em 1000 kPa is 942 kPa. -/
theorem test_emergency_contribution : characteristicAt workedT2 .a 3711 1000 = 942 := by decide

/-! ### Witnesses: states and operands that meet the hypotheses of each statement, clause by clause -/

/-- The same part without supply. -/
def unpowered (s : State) : State := { s with powered := false }

/-- The same part with the RESET line asserted. -/
def held (s : State) : State := { s with resetLine := true }

/-- The part with the store WRITING block 0 since time 0. -/
def storeWriting (ms : Nat) : State :=
  (placedAt ms).onStore fun t => { t with state := .writing, since := 0, writing := some ⟨0, t1Default⟩ }

/-- The part with a capture record still EMPTY. -/
def noCapture (s : State) : State := { s with alerts := alertsReset 0 }

theorem store_writing_inv (ms : Nat) : StoreInv (storeWriting ms) := by
  refine ⟨rfl, (by decide : ∀ k, quadGet (Quad.const 0) k ≤ 255), ?_, by simp [storeWriting, placedAt, at', State.reset,
    storeReset, State.onStore], by simp [storeWriting, placedAt, at', State.reset, storeReset, State.onStore],
    by simp [storeWriting, placedAt, at', State.reset, storeReset, State.onStore], ?_⟩
  · intro w h
    cases h
    decide
  · intro h
    cases h

theorem test_witness_EmptyQueueTicks :
    (at' 7).pending = [] ∧ (at' 7).powered = true ∧ (unpowered (at' 7)).pending = [] ∧
      (unpowered (at' 7)).powered = false := by decide

theorem test_witness_CommandsLeaveClockAndPins :
    exec (.carrierChange true) (at' 7) = .next (after (.carrierChange true) (at' 7)) ∧
      Instr.carrierChange true ≠ .powerOnReset ∧ Instr.carrierChange true ≠ .powerLoss ∧
      Instr.carrierChange true ≠ .resetLineAsserted ∧ Instr.carrierChange true ≠ .resetLineReleased ∧
      exec .refreshDue (at' 7) = .next (after .refreshDue (at' 7)) ∧ ∀ level, Instr.refreshDue ≠ .carrierChange level :=
  ⟨rfl, by decide, by decide, by decide, by decide, rfl, nofun⟩

/-- The store IDLE, and between two operations. -/
theorem test_witness_PowerOnResetStartsEveryBlock :
    (at' 7).store.state = .idle ∧ ((at' 7).onStore fun t => { t with state := .tally, ended := true }).store.ended = true := by
  decide

theorem store_inv_of {s : State} (hm : Memory.wf s.store.nv = true) (hp : ∀ k, quadGet s.store.pendingTally k ≤ 255)
    (hw : s.store.writing = none) (hw' : ¬(s.store.state = .writing ∧ s.store.ended = false))
    (ht : s.store.tally.isSome = true ↔ s.store.state = .tally ∧ s.store.ended = false)
    (hn : s.store.newWord.isSome = true ↔ s.store.state = .protecting ∧ s.store.ended = false)
    (hi : s.store.state ≠ .idle) : StoreInv s :=
  ⟨hm, hp, fun w h => (nomatch hw.symm.trans h), by simpa [hw] using hw', ht, hn,
    fun h => absurd h hi⟩

/-- The store in each of its other operations. -/
def erasing : State := (placedAt 300).onStore fun t => { t with state := .erasing }
def programming (k : Fin 4) : State := (placedAt 300).onStore fun t => { t with state := .tally, tally := some k }
def protecting : State := (placedAt 300).onStore fun t => { t with state := .protecting, newWord := some 0xFFFE }

/-- The store in each of its states. -/
theorem test_witness_PowerLossKeepsTheStore :
    (at' 7).powered = true ∧ (at' 7).store.state = .idle ∧ (storeWriting 7).powered = true ∧ StoreInv (storeWriting 7) ∧
      (storeWriting 7).store.state = .writing ∧ (storeWriting 7).store.writing = some ⟨0, t1Default⟩ ∧
      (programming 3).powered = true ∧ StoreInv (programming 3) ∧ (programming 3).store.state = .tally ∧
      (programming 3).store.tally = some 3 ∧ protecting.powered = true ∧ protecting.store.state = .protecting ∧
      protecting.store.newWord = some 0xFFFE ∧ erasing.powered = true ∧ StoreInv erasing ∧ erasing.store.state = .erasing ∧
      (unpowered (at' 7)).powered = false ∧ Instr.refreshDue ≠ .powerOnReset ∧
      ∀ level, Instr.refreshDue ≠ .carrierChange level :=
  ⟨rfl, rfl, rfl, store_writing_inv 7, rfl, rfl, rfl,
    store_inv_of rfl (by decide) rfl (by decide) (by decide) (by decide) (by decide), rfl, rfl, rfl, rfl, rfl, rfl,
    store_inv_of rfl (by decide) rfl (by decide) (by decide) (by decide) (by decide), rfl, rfl, by decide, nofun⟩

theorem test_witness_ResetLineHoldsThePorts :
    (held (at' 7)).powered = true ∧ (held (at' 7)).resetLine = true ∧ (at' 7).powered = true ∧
      (at' 7).resetLine = false := by decide

theorem reset_line_next (s : State) : exec .resetLineAsserted s = .next (after .resetLineAsserted s) := by
  simp only [after, exec, execResetLineAsserted]
  split <;> simp_all

/-- Blocks 0 to 3 stored whole. -/
def storedBytes : List Byte := [t1Default, t2Default, t3Default, t4Default ++ t5Default].flatMap blockImage
def storedBlocks : Memory := memWriteBytes [] 0 storedBytes

theorem storedBytes_length : storedBytes.length = 1024 := by decide +kernel

theorem stored_read (a : Nat) (h : a < 1024) : memRead storedBlocks a = storedBytes.getD a 0 := by
  rw [storedBlocks, memRead_memWriteBytes rfl 0 storedBytes (by rw [storedBytes_length]; decide), if_pos (by
    rw [storedBytes_length]; omega)]
  rfl

theorem stored_reads (a n : Nat) (h : a + n ≤ 1024) : memReadBytes storedBlocks a n = (storedBytes.drop a).take n := by
  apply List.ext_getElem
  · simp [storedBytes_length]; omega
  · intro i h1 h2
    rw [memReadBytes_length] at h1
    simp only [memReadBytes, List.getElem_map, List.getElem_range, List.getElem_take, List.getElem_drop]
    rw [stored_read _ (by omega), List.getD_eq_getElem?_getD, List.getElem?_eq_getElem (by rw [storedBytes_length]; omega)]
    rfl

theorem stored_blocks_are_good : ∀ b, b < 4 → blockFinding storedBlocks b = none := by
  intro b hb
  obtain rfl | rfl | rfl | rfl : b = 0 ∨ b = 1 ∨ b = 2 ∨ b = 3 := by omega
  all_goals
    simp only [blockFinding, markerPresent, tablesOfBlock, storedTable, blockAddr, List.all_cons, List.all_nil]
    rw [stored_read _ (by decide), stored_reads _ _ (by decide)]
    try rw [stored_reads _ _ (by decide)]
    decide +kernel

/-- A reset by the line and by RESTART; each operation that can be in progress; a capture record; blocks found valid; and a
channel at its threshold, so that the reset is not quiet. -/
theorem test_witness_FunctionalResetTakesEveryBlock :
    let s := fun nv => (at' 7).onStore fun t => { t with nv := nv }
    (at' 7).powered = true ∧ (at' 7).resetLine = false ∧
      exec .resetLineAsserted (at' 7) = .next (after .resetLineAsserted (at' 7)) ∧
      TakesRequest (placedAt 7) (req [9]) 1 9 ∧ (placedAt 7).store.state = .idle ∧
      exec (.restart (req [9])) (placedAt 7) = .next (after (.restart (req [9])) (placedAt 7)) ∧
      (∀ nv, exec .resetLineAsserted (s nv) = .next (after .resetLineAsserted (s nv))) ∧ StoreInv (storeWriting 7) ∧
      (storeWriting 7).store.state = .writing ∧ (storeWriting 7).store.ended = false ∧
      (storeWriting 7).store.writing = some ⟨0, t1Default⟩ ∧ (at' 7).alerts.capture.isSome = true ∧
      (at' 7).mgmt.queue.length ≤ 4 ∧ (∀ c, (chan (at' 7) c).errors < t1Threshold (at' 7).tables.t1) ∧
      (∀ b, b < 4 → blockFinding (s storedBlocks).store.nv b = none) ∧
      (chan ((at' 7).onChannel 0 fun r => { r with errors := 3 }) 0).errors = t1Threshold (at' 7).tables.t1 :=
  ⟨rfl, rfl, rfl, takes_request rfl rfl 9 [] 1 (by decide), rfl, rfl, fun _ => reset_line_next _, store_writing_inv 7, rfl, rfl, rfl,
    by decide, by decide, by decide, stored_blocks_are_good, by decide⟩

/-- R39, R160 and R178 by hand: of a store with nothing programmed four STORE_INCOMPLETE raises fill the queue, CHANNEL_FAULT
of C1 displaces the last of them, and an empty capture record is filled by the first block. -/
theorem test_functional_reset_raises :
    let s := (noCapture (at' 7)).onChannel 0 fun r => { r with errors := 3 }
    let t := after .resetLineAsserted s
    (chan t 0).state = .faulted ∧ (chan t 0).cause = some .counter ∧ t.alerts.lost = s.alerts.lost + 1 ∧
      t.alerts.queue.map (fun e => (e.cause, e.subject.number)) =
        [(.channelFault, 1), (.storeIncomplete, 0), (.storeIncomplete, 1), (.storeIncomplete, 2)] ∧
      t.alerts.capture.map (fun k => k.kind) = some .storeIncomplete := by decide +kernel

theorem test_witness_RestartAndAssertionComplete :
    TakesRequest (placedAt 7) (req [9]) 1 9 ∧ TakesRequest (storeWriting 7) (req [9]) 1 9 ∧
      (storeWriting 7).store.state ≠ .idle ∧ (at' 7).powered = true ∧ (at' 7).resetLine = false :=
  ⟨takes_request rfl rfl 9 [] 1 (by decide), takes_request rfl rfl 9 [] 1 (by decide), by decide, rfl, rfl⟩

/-- The part RUNNING, the last accepted sequence given. -/
def running (ms seq : Nat) : State :=
  (at' ms).onSample fun p => { p with loss := .running, lastSeq := some (byteOf seq) }

theorem test_witness_DiscardedSetsAreOnlyCounted :
    (at' 7).powered = true ∧ (at' 7).resetLine = false ∧ sampleSetOk [] = false ∧
      sampleSetOk (quietSet 4) = true ∧ (running 7 4).sample.loss = .running ∧
      (running 7 4).sample.lastSeq = some (sampleSeq (quietSet 4)) := by decide +kernel

theorem accepts_quiet (s : State) (hp : s.powered = true) (hr : s.resetLine = false) (hl : s.sample.loss = .waiting)
    (bytes : List Byte) (hb : sampleSetOk bytes = true) : AcceptsSet s bytes :=
  ⟨hp, hr, hb, fun h => by simp [hl] at h⟩

/-- The part LOST, with the demand state given. -/
def lostSamples (st : DemandState) : State :=
  ((placedAt 7).onSample fun p => { p with loss := .lost }).onLink fun l => { l with state := st }

/-- From WAITING, and RUNNING with the next sequence and with the previous one, a gap of 254; and at the end of a loss, the
demand state LOST and another. -/
theorem test_witness_AcceptedSetUpdatesThePort :
    AcceptsSet (at' 7) (quietSet 4) ∧ AcceptsSet (running 7 3) (quietSet 4) ∧ AcceptsSet (running 7 5) (quietSet 4) ∧
      (at' 7).sample.loss ≠ .lost ∧ ∀ st, AcceptsSet (lostSamples st) (quietSet 4) ∧ (lostSamples st).sample.loss = .lost := by
  have h : sampleSetOk (quietSet 4) = true := by decide +kernel
  exact ⟨accepts_quiet _ rfl rfl rfl _ h, by unfold AcceptsSet; decide +kernel, by unfold AcceptsSet; decide +kernel,
    by decide, fun st => ⟨⟨rfl, rfl, h, nofun⟩, rfl⟩⟩

/-- Input 0 with a status, its hold begun at time 0. -/
def inputAs (st : InputStatus) (ms : Nat) : State :=
  (at' ms).onSample fun p => { p with inputs := gridSet p.inputs 0 ⟨st, 300, some 300, some 0⟩ }

/-- A set that marks input 0 faulty. -/
def markedSet : List Byte := sampleSet 1 (32768 :: List.replicate 15 0)

theorem test_witness_InputsFollowTheirFaultMarks :
    AcceptsSet (inputAs .held 99) markedSet ∧ AcceptsSet (inputAs .held 100) markedSet ∧
      AcceptsSet (inputAs .valid 7) markedSet ∧ AcceptsSet (inputAs .invalid 7) markedSet ∧
      AcceptsSet (inputAs .disabled 7) markedSet ∧ AcceptsSet (inputAs .held 7) (quietSet 1) ∧
      sampleMark markedSet 0 = true ∧ sampleMark (quietSet 1) 0 = false ∧
      (input (inputAs .held 99) 0).status = .held ∧ (input (inputAs .held 99) 0).holdStart = some 0 ∧
      ((inputAs .held 99).timeBase - 0).toNat < 100 ∧ 100 ≤ ((inputAs .held 100).timeBase - 0).toNat ∧
      (input (inputAs .valid 7) 0).status = .valid ∧ (input (inputAs .invalid 7) 0).status = .invalid ∧
      (input (inputAs .disabled 7) 0).status = .disabled := by
  have h : ∀ st ms, AcceptsSet (inputAs st ms) markedSet := fun st ms =>
    accepts_quiet _ rfl rfl rfl _ (by decide +kernel)
  exact ⟨h _ _, h _ _, h _ _, h _ _, h _ _, accepts_quiet _ rfl rfl rfl _ (by decide +kernel), by decide, by decide,
    rfl, rfl, by decide, by decide, rfl, rfl, rfl⟩

/-- The part at 500 ms with the supply PRESENT, the demand given, the speed given, every delivered pressure VALID at 0, and
channel C1 with a record given. -/
def channelOne (demand speed : Nat) (r : ChannelRec) : State :=
  let s := withInput 7 0 (withInput 8 0 (withInput 12 speed (placedAt 500)))
  ((s.onAir fun a => { a with presence := .present }).onLink fun l => { l with state := .fresh, demand := demand }).onChannel 0
    fun _ => r

/-- The after-reset channel record in a state. -/
def chanAs (st : ChanState) : ChannelRec := { channelReset 800 false with state := st }

/-- An accepted set in each demand state. -/
theorem test_witness_CeilingsMoveOnEachSet :
    AcceptsSet (placedAt 7) (quietSet 4) ∧ (placedAt 7).link.state = .nothing ∧
      (∀ st, AcceptsSet ((placedAt 7).onLink fun l => { l with state := st }) (quietSet 4)) ∧
      reading (withInput 4 300 (placedAt 7)) inputControl = some 300 :=
  have h : sampleSetOk (quietSet 4) = true := by decide +kernel
  ⟨accepts_quiet _ rfl rfl rfl _ h, rfl, fun _ => accepts_quiet _ rfl rfl rfl _ h, by decide⟩

/-- The arbiter's set, clause by clause: START ready, with the strap at 200, at 201 and unassigned; HALTED at demand 30 and 31;
a halt taken at 30 and cancelled at 31 and 201; BACKUP(FAILSAFE) and ACTIVE in FS_A; a delivered pressure not valid; and a
deviation of 60 and 61 kPa at the settle time of 300 ms. -/
theorem test_witness_ArbiterTakesItsSet :
    let s := fun st demand speed => channelOne demand speed (chanAs st)
    let strap := fun speed => channelOne 30 speed { chanAs .start with strapPending := true }
    let waits := fun demand speed => channelOne demand speed { chanAs .active with haltPending := some ⟨100, 8⟩ }
    let off := fun target => channelOne 500 0 { chanAs .active with cmdTarget := target, deviation := some ⟨target, 200⟩ }
    let fsA := fun st => ((s st 0 0).onArbiter fun a => { a with failSafe := .fsA }).onLink fun l => { l with state := .lost }
    let level := fun u => demandLevel (arbiterTakesSet u)
    t1PolicyAll t1Default = false ∧ t1Assigned t1Default 0 = true ∧ t1Assigned t1Default 3 = false ∧
      (∀ u ∈ [s .start 0 0, strap 200, strap 201, waits 31 200], inputValid u (inputDelivered 0) = true ∧
        u.air.presence = .present ∧ u.arbiter.failSafe ≠ .fsB ∧ u.arbiter.backupNext = false ∧ u.link.state = .fresh) ∧
      (arbiterTakesT1 (s .active 500 0)).arbiter.backupNext = true ∧
      (chan (arbiterTakesT1 (s .active 500 0)) 0).state = .start ∧
      (chan (s .start 0 0) 3).state = .start ∧ vehicleSpeed (strap 200) = some 200 ∧ vehicleSpeed (strap 201) = some 201 ∧
      level (s .halted 30 0) = 30 ∧ level (s .halted 31 0) = 31 ∧ (chan (s .halted 31 0) 0).state = .halted ∧
      level (waits 30 200) = 30 ∧ (waits 30 200).roll.state = .idle ∧ level (waits 31 200) = 31 ∧
      (chan (waits 31 200) 0).haltPending = some ⟨100, 8⟩ ∧ (waits 30 200).mgmt.queue.length < 4 ∧
      t1FsaBackup t1Default 0 = false ∧ inputValid (withInput 4 0 (fsA .active)) inputControl = true ∧
      inputValid (fsA .active) inputControl = false ∧ (fsA .active).arbiter.failSafe = .fsA ∧
      (input ((s .active 0 0).onSample fun p => { p with inputs := gridSet p.inputs 7 ⟨.invalid, 0, none, none⟩ })
        (inputDelivered 0)).status = .invalid ∧
      t1Settle t1Default = ((off 60).timeBase - 200).toNat ∧ absDiff 0 60 = t1Band t1Default ∧
      t1Band t1Default < absDiff 0 (chan (off 61) 0).cmdTarget ∧ (chan (off 61) 0).errors + 1 < t1Threshold t1Default ∧
      (s .start 0 0).valve.slot = none ∧ (s .start 0 0).valve.tx = none := by
  decide +kernel

/-- The same states taken: 61 kPa is an error event and 60 kPa is none; the strap halts at 200 and not at 201; a halt is taken
at demand 30, waits at 31 and is cancelled at 201 (R44, R53, R58). -/
theorem test_arbiter_set :
    let c := fun u => chan (arbiterTakesSet u) 0
    let strap := fun speed => channelOne 30 speed { chanAs .start with strapPending := true }
    let waits := fun demand speed => channelOne demand speed { chanAs .active with haltPending := some ⟨100, 8⟩ }
    let off := fun target => channelOne 500 0 { chanAs .active with cmdTarget := target, deviation := some ⟨target, 200⟩ }
    (c (off 60)).errors = 0 ∧ (c (off 61)).errors = 1 ∧ (c (strap 200)).state = .halted ∧ (c (strap 201)).state = .start ∧
      (c (waits 30 200)).state = .halted ∧ (c (waits 31 200)).haltPending = some ⟨100, 8⟩ ∧
      (c (waits 31 201)).haltPending = none ∧ (c (waits 31 201)).state = .active := by
  decide +kernel

/-- R38 (log 53): on the set after a T1 activation a channel that meets every start condition stays in START and its record
commands BACKUP; the set after it takes the channel to ACTIVE. -/
theorem test_record_after_an_activated_t1 :
    let first := arbiterTakesSet (arbiterTakesT1 (channelOne 500 0 (chanAs .active)))
    (chan first 0).state = .start ∧ first.valve.tx.map (fun r => quadGet r.commands 0) = some ⟨false, 0⟩ ∧
      (chan (arbiterTakesSet first) 0).state = .active := by
  decide +kernel

/-- The part with the worked T2, group A with an estimate and its left bellows input at a pressure, or neither VALID. -/
def bellowsAt (pressure : Option Int) (e : Estimate) : State :=
  let s := (worked 20000).onEstimate .a fun _ => e
  match pressure with
  | some p => withInput 0 p s
  | none => s

/-- A VALID estimate at the worked figures, its bellows absent since a time. -/
def validAt (filter : Nat) (absent : Option Stamp) : Estimate :=
  { state := .valid, filter := some filter, bellows := 186, load := 1673, ratio := 3711, freeze := false, overload := false,
    absentSince := absent, invalidSince := 0, fallbackReported := false }

/-- An INVALID estimate since a time. -/
def invalidAt (since : Stamp) : Estimate := { validAt 0 none with state := .invalid, invalidSince := since }

/-- A frozen group; and a set that freezes, seeds at 40, 41 and 480 kPa, moves the filter, is overloaded at 285 kPa, lapses
after 10,000 ms and not after 9,999, and is due for its raise then. -/
theorem test_witness_FrozenEstimateStays :
    let s := (at' 7).onEstimate .a fun e => { e with freeze := true }
    let seed := fun p => bellowsAt (some p) (invalidAt 0)
    let t := fun p => estimate (estimatorTakesSet (seed p)) .a
    exec .statusTimerExpiry s = .next (after .statusTimerExpiry s) ∧
      (estimate (after .statusTimerExpiry s) .a).freeze = true ∧ tableCheck 2 workedT2 = none ∧
      (seed 40).roll.state = .idle ∧ demandLevel (seed 40) ≤ t2FreezeDemand workedT2 .a ∧ lateral (seed 40) = none ∧
      reading (seed 40) (inputBellows .a .left) = some 40 ∧ reading (seed 40) (inputBellows .a .right) = none ∧
      (t 40).bellows = t2B workedT2 .a 0 ∧ (t 41).bellows = 41 ∧ (t 480).bellows = t2B workedT2 .a 2 ∧
      (t 285).load = 1982 ∧ t2Laden workedT2 .a * 4506 / 4096 < 1982 ∧
      (estimate (bellowsAt (some 187) (validAt 2976 none)) .a).state = .valid ∧
      10000 ≤ ((20000 : Stamp) - 10000).toNat ∧ ((20000 : Stamp) - 10001).toNat < 10000 ∧
      (estimate (bellowsAt none (validAt 2976 (some 10000))) .a).absentSince = some 10000 ∧
      (estimate (bellowsAt none (invalidAt 10000)) .a).invalidSince = 10000 ∧
      lateral (withInput 11 151 (seed 40)) = some 151 ∧ t2FreezeAccel workedT2 .a = 150 := by
  refine ⟨rfl, ?_⟩
  decide +kernel

/-- R5, R6, R11 and R12 by hand: a seed of 16 p, a filter step from 186 to 187 kPa, the lapse and the one raise. -/
theorem test_estimator_set :
    let t := fun p e => estimate (estimatorTakesSet (bellowsAt p e)) .a
    let raised := fun e => (estimatorTakesSet (bellowsAt none e)).alerts.queue.map fun a => a.cause
    (t (some 187) (invalidAt 0)).filter = some 2992 ∧ (t (some 187) (validAt 2976 none)).filter = some 2977 ∧
      (t none (validAt 2976 (some 10000))).state = .invalid ∧ (t none (validAt 2976 (some 10001))).state = .valid ∧
      Cause.loadFallback ∈ raised (invalidAt 10000) ∧
      (raised (invalidAt 10000)).count .loadFallback = (raised (invalidAt 10001)).count .loadFallback + 1 := by
  decide +kernel

/-- The onset and the place above it, a factor of 4096, and a ratio above the given one. -/
theorem test_witness_CharacteristicIsBoundedAndMonotone :
    t2Onset workedT2 .a ≤ 200 ∧ t2EmptyRatio workedT2 .a ≤ 4096 ∧ 3711 ≤ 4096 ∧ min 50 1000 ≤ t2Onset workedT2 .a ∧
      t2Onset workedT2 .a < min 51 1000 ∧ characteristicFactor workedT2 .a 4096 = 4096 ∧
      characteristicFactor workedT2 .a 3711 ≤ characteristicFactor workedT2 .a 3712 := by decide

theorem test_witness_SampleLossIsDeclaredWhole :
    (at' 19).powered = true ∧ (at' 19).sample.loss ≠ .lost ∧ (at' 19).sample.lossStart = some 0 ∧
      ((at' 19).timeBase - 0).toNat < 20 ∧ 20 ≤ ((at' 20).timeBase - 0).toNat ∧
      (noCapture (at' 20)).alerts.capture = none ∧ (noCapture (at' 20)).sample.lossStart = some 0 ∧
      (at' 20).alerts.capture.isSome = true ∧ (at' 20).mgmt.queue.length ≤ 4 := by decide

/-! ### Valve command port and channels -/

def aRecord : ValveRecord := ⟨.normal, 3, Quad.const ⟨true, 100⟩⟩

/-- The part with a transmission, a waiting record, or neither. -/
def valveAs (ms : Nat) (tx slot : Option ValveRecord) : State :=
  (at' ms).onValve fun v => { v with tx := tx, slot := slot, normalSent := true, composedAt := some 0 }

theorem test_witness_ValveRecordsAreSentInTurn :
    (valveAs 7 (some aRecord) none).valve.tx = some aRecord ∧ (valveAs 7 none (some aRecord)).valve.tx = none ∧
      (valveAs 7 none (some aRecord)).valve.slot = some aRecord ∧ (valveAs 7 none none).valve.slot = none ∧
      (valveAs 7 none none).powered = true := by decide

/-- Channels in START, ACTIVE, HOLD and HALTED. -/
def fourStates (s : State) : State :=
  ((s.onChannel 1 fun r => { r with state := .active }).onChannel 2 fun r => { r with state := .hold }).onChannel 3
    fun r => { r with state := .halted }

theorem test_witness_RefreshCommandsEveryChannelByItsState :
    let s := fourStates (valveAs 10 none none)
    s.powered = true ∧ s.resetLine = false ∧ s.valve.normalSent = true ∧ s.valve.composedAt = some 0 ∧
      10 ≤ (s.timeBase - 0).toNat ∧ (chan s 0).state = .start ∧ (chan s 1).state = .active ∧ (chan s 2).state = .hold ∧
      (chan s 3).state = .halted ∧ (valveAs 10 (some aRecord) (some aRecord)).valve.slot.isSome = true ∧
      (valveAs 10 (some aRecord) none).valve.tx.isSome = true := by decide

/-- Channel C1 reported COIL_OPEN, and every channel OK. -/
def coilOpenStatus : List Byte := [3, 1, crc8 [3, 1]]
def allOkStatus : List Byte := [3, 0, crc8 [3, 0]]

/-- One channel faulty and the others OK; and the entry into FAULTED with a halt pending, with an EMPTY and a filled capture
record, under policy OTHERS. -/
theorem test_witness_DriverStatusFaultsItsChannel :
    let waits := (placedAt 7).onChannel 0 fun r => { r with haltPending := some ⟨0, 8⟩ }
    (at' 7).powered = true ∧ driverStatusOk [] = false ∧ driverStatusOk coilOpenStatus = true ∧
      t1Assigned (at' 7).tables.t1 0 = true ∧ statusCause (driverStatus coilOpenStatus 0) = some .coilOpen ∧
      (chan (at' 7) 0).state ≠ .faulted ∧ (∀ d, d ≠ 0 → driverStatus coilOpenStatus d = .ok) ∧
      driverStatusOk allOkStatus = true ∧ (∀ c, driverStatus allOkStatus c = .ok) ∧
      (chan ((at' 7).onChannel 0 fun r => { r with state := .faulted }) 0).state = .faulted ∧
      (noCapture (at' 7)).alerts.capture = none ∧ (at' 7).alerts.capture.isSome = true ∧
      (chan waits 0).haltPending = some ⟨0, 8⟩ ∧ t1PolicyAll waits.tables.t1 = false ∧ waits.mgmt.queue.length < 4 := by
  decide +kernel

/-- Channel C1 in HOLD since time 0. -/
def holding (ms : Nat) : State := (at' ms).onChannel 0 fun r => { r with state := .hold, holdTimer := some 0 }

theorem test_witness_HoldEndsAfterHalfASecond :
    (holding 500).powered = true ∧ (chan (holding 500) 0).state = .hold ∧ (chan (holding 500) 0).holdTimer = some 0 ∧
      500 ≤ ((holding 500).timeBase - 0).toNat ∧ ((holding 499).timeBase - 0).toNat < 500 ∧
      (chan (at' 7) 0).state ≠ .hold := by decide

/-- A part on which HALT_CHANNEL(1) is not refused STATE: the supply PRESENT, the speed 200, the delivered pressure valid,
and the driver demand given. -/
def haltable (demand : Nat) : State :=
  let s := withInput 12 200 (withInput 7 0 (placedAt 7))
  (s.onAir fun a => { a with presence := .present }).onArbiter fun a => { a with demand := demand, source := .electric }

theorem test_witness_HaltIsJudgedInOrder :
    (∀ n p, TakesRequest (haltable 30) (req [9, n, p, 0]) 4 9) ∧
      dataByte [9, 0, 0, 0] 1 < 1 ∧ 4 < dataByte [9, 5, 0, 0] 1 ∧ dataWord [9, 1, 3, 232] 2 = 1000 ∧
      dataWord [9, 1, 3, 233] 2 = 1001 ∧ dataByte [9, 1, 0, 0] 1 = (0 : Channel).val + 1 ∧
      dataByte [9, 4, 0, 0] 1 = (3 : Channel).val + 1 ∧ t1Assigned (haltable 30).tables.t1 3 = false ∧
      (let s := haltable 30
       t1Assigned s.tables.t1 0 = true ∧ (chan s 0).state = .start ∧ s.arbiter.failSafe ≠ .fsB ∧
         s.air.presence = .present ∧ vehicleSpeed s = some 200 ∧ inputValid s (inputDelivered 0) = true ∧
         (chan s 0).haltPending = none ∧ s.roll.state = .idle ∧ demandLevel s ≤ 30) ∧
      30 < demandLevel (haltable 31) ∧ vehicleSpeed (withInput 12 201 (haltable 30)) = some 201 ∧
      (chan ((haltable 30).onChannel 0 fun r => { r with state := .halted }) 0).state = .halted ∧
      (chan ((haltable 30).onChannel 0 fun r => { r with haltPending := some ⟨0, 8⟩ }) 0).haltPending = some ⟨0, 8⟩ :=
  ⟨fun n p => takes_request rfl rfl 9 _ 4 (by simp), by decide +kernel⟩

theorem test_witness_RunAndClearChannel :
    let halted := (placedAt 7).onChannel 0 fun r => { r with state := .halted }
    let sympathy := fun (s : State) => (s.onChannel 0 fun r => { r with state := .faulted }).onChannel 1 fun r =>
      { r with state := .backup, reason := some .sympathy }
    let waits := fun (s : State) => s.onChannel 0 fun r => { r with haltPending := some ⟨0, 8⟩ }
    (∀ n, TakesRequest (placedAt 7) (req [9, n]) 2 9) ∧ dataByte [9, 0] 1 < 1 ∧ 4 < dataByte [9, 5] 1 ∧
      dataByte [9, 1] 1 = (0 : Channel).val + 1 ∧
      (chan halted 0).state = .halted ∧ (chan halted 0).haltPending = none ∧
      (chan (waits halted) 0).state = .halted ∧ (chan (waits halted) 0).haltPending = some ⟨0, 8⟩ ∧
      (chan (waits (placedAt 7)) 0).state ≠ .halted ∧ (chan (waits (placedAt 7)) 0).haltPending = some ⟨0, 8⟩ ∧
      (chan (placedAt 7) 0).state ≠ .halted ∧ (chan (placedAt 7) 0).haltPending = none ∧
      vehicleSpeed (withInput 12 200 (placedAt 7)) = some 200 ∧ vehicleSpeed (withInput 12 199 (placedAt 7)) = some 199 ∧
      vehicleSpeed (placedAt 7) = none ∧
      (chan ((placedAt 7).onChannel 0 fun r => { r with state := .faulted }) 0).state = .faulted ∧
      (chan (sympathy (placedAt 7)) 1).state = .backup ∧ (chan (sympathy (placedAt 7)) 1).reason = some .sympathy ∧
      (∀ e, e ≠ 0 → (chan (sympathy (placedAt 7)) e).state ≠ .faulted) :=
  ⟨fun n => takes_request rfl rfl 9 _ 2 (by simp), by decide +kernel⟩

/-- R61 and R51 by hand: CLEAR_CHANNEL(1) sends C1 and a SYMPATHY backup to START, and the backup stays while C3 is FAULTED. -/
theorem test_clear_channel :
    let set := fun (c : Channel) st reason (s : State) => s.onChannel c fun r => { r with state := st, reason := reason }
    let s := set 0 .faulted none (set 1 .backup (some .sympathy) (placedAt 7))
    let t := after (.clearChannel (req [9, 1])) s
    let u := after (.clearChannel (req [9, 1])) (set 2 .faulted none s)
    (chan t 0).state = .start ∧ (chan t 1).state = .start ∧ (chan t 1).reason = none ∧ t.mgmt.queue.length = 1 ∧
      (chan u 0).state = .start ∧ (chan u 1).state = .backup ∧ (chan u 2).state = .faulted := by decide +kernel

/-- The roll monitor in a state with a timer of 120 ms begun at time 0. -/
def rollAs (st : RollState) (ms : Nat) : State := (worked ms).onRoll fun r => { r with state := st, timer := some ⟨0, 120⟩ }

/-- The roll monitor in a state, the lateral acceleration and both wheel speeds given. -/
def tipping (st : RollState) (ms : Nat) (a : Int) (speed : Nat) : State :=
  withInput 11 a (withInput 12 speed (withInput 13 speed (rollAs st ms)))

/-- The expiry one millisecond early and at its bound; with the lateral acceleration valid or not; and in WATCH below, between
and at the thresholds 301 and 401 of the worked ratios, with v_min 2000 and v_stop 500. -/
theorem test_witness_RollMonitorFollowsItsRules :
    let th := computeThresholds (rollAs .watch 120)
    (rollAs .test 119).powered = true ∧ (rollAs .test 119).roll.timer = some ⟨0, 120⟩ ∧
      ((rollAs .test 119).timeBase - 0).toNat < 120 ∧ 120 ≤ ((rollAs .test 120).timeBase - 0).toNat ∧
      tableCheck 3 (rollAs .test 120).tables.t3 = none ∧ th.rMax ≤ 4096 ∧
      lateral (rollAs .test 120) = none ∧ lateral (tipping .test 120 (-300) 0) = some (-300) ∧
      (rollAs .intervene 120).roll.state = .intervene ∧ (rollAs .watch 120).roll.state = .watch ∧
      (rollAs .idle 120).roll.state = .idle ∧ (rollAs .recover 120).roll.state = .recover ∧
      th.aTest = 301 ∧ th.aLim = 401 ∧ th.aRelease = 251 ∧
      vehicleSpeed (tipping .watch 120 401 500) = some (t3VStop t3Default) ∧
      vehicleSpeed (tipping .watch 120 301 2000) = some (t3VMin t3Default) ∧
      vehicleSpeed (tipping .watch 120 301 1999) = some 1999 := by decide +kernel

/-- A set in each state of the roll monitor: enabled, below and at the thresholds; in TEST with lift, with a turned
acceleration, with the supply not READY, and below the release threshold; in INTERVENE below v_stop, and above and below
the release threshold; in RECOVER with the stretch demand at and above the ramp. -/
theorem test_witness_RollMonitorTakesItsSet :
    let test := fun a inner outer => (withInput 13 outer (withInput 12 inner (tipping .test 50 a 2000))).onRoll fun r =>
      { r with testSide := some .left }
    t3Enabled t3Default = true ∧ (∀ a ∈ [0, 300, 301, 401, -401], lateral (tipping .idle 50 a 2000) = some a) ∧
      (test 301 1000 2000).roll.testSide = some .left ∧ innerSpeed (test 301 1000 2000) .left = some 1000 ∧
      outerSpeed (test 301 1000 2000) .left = some 2000 ∧ t3VMin t3Default = 2000 ∧
      1000 * 4096 < 2000 * (4096 - t3LiftSlip t3Default) ∧ ¬2000 * 4096 < 2000 * (4096 - t3LiftSlip t3Default) ∧
      lateral (test (-1) 2000 2000) = some (-1) ∧ (test 301 2000 2000).air.state ≠ .ready ∧
      ((test 250 2000 2000).onAir fun a => { a with state := .ready }).air.state = .ready ∧
      vehicleSpeed (tipping .intervene 50 250 499) = some 499 ∧ t3VStop t3Default = 500 ∧
      lateral (tipping .intervene 50 250 500) = some 250 ∧ lateral (tipping .intervene 50 251 500) = some 251 ∧
      t3Ramp t3Default = 10 ∧ lateral (rollAs .recover 50) = none ∧
      ((tipping .recover 50 0 0).onRoll fun r => { r with stretch := 11 }).roll.stretch = 11 := by decide +kernel

/-- R70 to R80 by hand, the sides' wheels at 2000: 300 stays in IDLE and 401 intervenes; lift intervenes; 250 is below a_release;
INTERVENE below v_stop recovers; and the ramp of 10 ends a stretch demand of 10 and not of 11. WATCH intervenes at its
expiry at 401 and v_stop, withholds a test at 301 and v_min, and idles at 1999. -/
theorem test_roll_rules :
    let st := fun u => (rollTakesSet u).roll.state
    let test := fun a inner => ((withInput 12 inner (tipping .test 50 a 2000)).onRoll fun r =>
      { r with testSide := some .left }).onAir fun x => { x with state := .ready }
    let ended := fun a speed => (after .rollTimerExpiry (tipping .watch 120 a speed)).roll
    st (tipping .idle 50 300 2000) = .idle ∧ st (tipping .idle 50 401 2000) = .intervene ∧
      st (test 301 1000) = .intervene ∧ st (tipping .intervene 50 300 499) = .recover ∧
      st ((tipping .recover 50 0 0).onRoll fun r => { r with stretch := 10 }) = .idle ∧
      st ((tipping .recover 50 0 0).onRoll fun r => { r with stretch := 11 }) = .recover ∧
      (ended 401 500).state = .intervene ∧ (ended 401 499).state = .idle ∧ (ended 301 2000).withheld = 1 ∧
      (ended 301 1999).withheld = 0 ∧ (ended 300 2000).withheld = 0 := by
  decide +kernel

/-- The demand and the control line apart by 80 kPa and by 81; the reservoir with 340 and 341 kPa above its floor. -/
theorem test_witness_SupplyFollowsItsRows :
    let s := fun p => (at' 7).onAir fun a => { a with presence := p }
    let apart := fun (p : Int) => (withInput 4 p (at' 500)).onLink fun l => { l with state := .fresh, demand := 51 }
    let ready := (withInput 6 700 (at' 7)).onAir fun a => { a with state := .ready }
    (∀ p, AcceptsSet (s p) (quietSet 4)) ∧ (s .unknown).air.presence = .unknown ∧
      (s .present).air.presence = .present ∧ (s .lost).air.presence = .lost ∧
      AcceptsSet (apart 132) (sampleSet 4 ([0, 0, 0, 0, 132] ++ List.replicate 11 0)) ∧
      reading (apart 132) inputControl = some 132 ∧ (apart 132).link.demand + 80 < 132 ∧
      ¬(apart 131).link.demand + 80 < 131 ∧ (apart 132).air.mismatchReported = false ∧
      500 ≤ ((apart 132).timeBase - 0).toNat ∧ (s .lost).air.state ≠ .supplyLost ∧
      (airTakesSet (s .lost)).air.state = .supplyLost ∧ (noCapture (s .lost)).alerts.capture = none ∧
      (s .lost).alerts.capture.isSome = true ∧ ready.air.state = .ready ∧ ready.air.commitment = none ∧
      (at' 7).air.state ≠ .ready ∧ (input ready inputReservoir).value.toNat = 700 ∧
      (ready.onAir fun a => { a with commitment := some ⟨9, .left, [0], 0⟩ }).air.commitment ≠ none :=
  ⟨fun _ => accepts_quiet _ rfl rfl rfl _ (by decide +kernel), rfl, rfl, rfl,
    accepts_quiet _ rfl rfl rfl _ (by decide +kernel), by decide +kernel⟩

/-- R95: of two channels' 15 kPa (150 kPa by 10 l, rounded) each, a reservoir at the floor plus 4 grants, one less refuses. -/
theorem test_commitment :
    let need := (t3TestPressure t3Default * 10 + 500) / 1000
    let at_ := fun (p : Int) => (withInput 6 p (at' 7)).onAir fun a => { a with state := .ready }
    let level := (t3Floor t3Default + need : Int)
    (requestCommitment .left [0] (at_ level)).2 = some need ∧ (requestCommitment .left [0] (at_ (level - 1))).2 = none ∧
      (requestCommitment .left [0] (at_ (level - 1))).1.air.refusedFloor = 1 := by
  decide +kernel

/-- The supply state READY is left at 579 kPa and kept at 580 kPa. -/
theorem test_supply_state_rows :
    let s := fun (r : Int) => (withInput 6 r (withInput 5 700 (at' 7))).onAir fun a =>
      { a with presence := .present, state := .ready }
    (airTakesSet (s 580)).air.state = .ready ∧ (airTakesSet (s 579)).air.state = .charging ∧
      (airTakesSet (s 199)).air.state = .exhausted ∧ (airTakesSet (at' 7)).air.state = .unknown := by decide +kernel

/-! ### Tyre receiver and tyre table -/

/-- The receiver with its carrier, HUNT and a window. -/
def hunting (carrier : Bool) (window : List Bool) : State :=
  (at' 70001).onRx fun r => { r with carrier := carrier, window := window }

/-- The fifteen bits of 0xB38E before its last, which is 0. -/
def syncStart : List Bool :=
  [true, false, true, true, false, false, true, true, true, false, false, false, true, true, true]

/-- 6.8: the sixteen bits of 0xB38E start an assembly. -/
theorem test_sync_word_starts_an_assembly :
    (after (.syncMatch false) (hunting true syncStart)).rx.state = .assemble ∧
      (after (.bitTaken true) (hunting true syncStart)).rx.state = .hunt := by decide +kernel

theorem test_witness_BitsAreHuntedForTheSyncWord :
    (hunting true []).powered = true ∧ (hunting false []).rx.carrier = false ∧ (hunting true []).rx.carrier = true ∧
      (hunting true []).rx.state = .hunt ∧
      (let w := (syncStart ++ [false]).drop ((syncStart ++ [false]).length - 16)
       w.length = 16 ∧ bitsNat w = t4Sync (hunting true syncStart).tables.t4) ∧
      bitsNat (syncStart ++ [true]) ≠ t4Sync t4Default ∧ ([] ++ [true] : List Bool).length < 16 := by decide +kernel

/-- The receiver one bit before the end of ten bytes, with `n` entries waiting. -/
def assembling (bytes : List Byte) (n : Nat) : State :=
  (at' 70309).onRx fun r => { r with
    carrier := true, state := .assemble, buffer := (bytes.flatMap byteBits).take 79
    queue := List.replicate n (telegramEntry bytes 0 false) }

/-- Nine bytes with their check byte. -/
def telegramOf (body : List Byte) : List Byte := body ++ [crc8 body]

/-- The telegram of 6.8; the same with 1600 and 1601 kPa, with ID 0, and with a wrong check byte. -/
def goodBytes : List Byte := telegramOf [0x1A, 0x2B, 0x3C, 0x4D, 0x03, 0x52, 0x50, 0x20, 17]
def topBytes : List Byte := telegramOf [0x1A, 0x2B, 0x3C, 0x4D, 0x06, 0x40, 0x50, 0x20, 17]
def overBytes : List Byte := telegramOf [0x1A, 0x2B, 0x3C, 0x4D, 0x06, 0x41, 0x50, 0x20, 17]
def zeroIdBytes : List Byte := telegramOf [0, 0, 0, 0, 0x03, 0x52, 0x50, 0x20, 17]
def wrongBytes : List Byte := goodBytes.set 9 (crc8 (goodBytes.take 9) ^^^ 1)

/-- The last bit of ten bytes. -/
def lastBit (bytes : List Byte) : Bool := (bytes.flatMap byteBits).getLastD false

theorem test_witness_TelegramsAreJudgedInOrder :
    let bits := fun (b : List Byte) n => (assembling b n).rx.buffer ++ [lastBit b]
    let bytes := fun (b : List Byte) n => bytesOfBits 10 (bits b n)
    let bad := fun (b : List Byte) => b.getD 9 0 ≠ crc8 (b.take 9)
    (assembling goodBytes 7).powered = true ∧ (assembling goodBytes 7).rx.carrier = true ∧
      (assembling goodBytes 7).rx.state = .assemble ∧
      (List.replicate 78 false ++ [true]).length < 80 ∧ (bits goodBytes 7).length = 80 ∧ bad (bytes wrongBytes 0) ∧
      ¬bad (bytes zeroIdBytes 0) ∧ telegramId (bytes zeroIdBytes 0) = 0 ∧
      ¬bad (bytes overBytes 0) ∧ dataWord (bytes overBytes 0) 4 = 1601 ∧
      ¬bad (bytes topBytes 7) ∧ dataWord (bytes topBytes 7) 4 = 1600 ∧ bytes topBytes 7 = topBytes ∧
      (assembling topBytes 7).rx.queue.length = 7 ∧ (assembling topBytes 8).rx.queue.length = 8 := by decide +kernel

/-- An error in the first eight bits and one in the last eight. -/
theorem test_witness_CheckByteFindsErrorsWithinEightBits :
    let bits := goodBytes.flatMap byteBits
    let first := List.replicate 8 true ++ bits.drop 8
    let last := bits.take 72 ++ List.replicate 8 true
    bits.length = 80 ∧ first.length = 80 ∧ last.length = 80 ∧ first ≠ bits ∧ last ≠ bits ∧
      telegramCrcOk (bytesOfBits 10 bits) = true ∧
      (∀ i, i < 0 ∨ 0 + 8 ≤ i → first[i]? = bits[i]?) ∧ ∀ i, i < 72 ∨ 72 + 8 ≤ i → last[i]? = bits[i]? := by
  intro bits first last
  have hb : bits.length = 80 := by decide
  have hf : first.length = 80 := by decide
  have hl : last.length = 80 := by decide
  refine ⟨hb, hf, hl, by decide +kernel, by decide +kernel, by decide +kernel, fun i h => ?_, fun i h => ?_⟩
  · rw [show bits = bits.take 8 ++ bits.drop 8 from (List.take_append_drop 8 bits).symm,
      List.getElem?_append_right (by rw [List.length_replicate]; omega),
      List.getElem?_append_right (by rw [List.length_take]; omega), List.length_replicate, List.length_take, hb]
    rfl
  · rcases h with h | h
    · rw [List.getElem?_append_left (by rw [List.length_take]; omega), List.getElem?_take_of_lt h]
    · rw [List.getElem?_eq_none (by omega), List.getElem?_eq_none (by omega)]

theorem test_witness_CarrierChangesEmptyTheWindow :
    (hunting true [true]).rx.carrier = true ∧ (hunting true [true]).rx.state = .hunt ∧
      (assembling goodBytes 0).rx.carrier = true ∧ (assembling goodBytes 0).rx.state = .assemble ∧
      (hunting true []).resetLine = false ∧
      exec .powerOnReset (at' 7) = .next (after .powerOnReset (at' 7)) ∧
      exec .resetLineAsserted (at' 7) = .next (after .resetLineAsserted (at' 7)) ∧
      TakesRequest (placedAt 7) (req [9]) 1 9 ∧ (placedAt 7).store.state = .idle ∧
      exec (.restart (req [9])) (placedAt 7) = .next (after (.restart (req [9])) (placedAt 7)) :=
  ⟨rfl, rfl, rfl, rfl, rfl, rfl, rfl, takes_request rfl rfl 9 [] 1 (by decide), rfl, rfl⟩

/-- An entry of sensor 7 taken at a time, with a rolling counter and a learn flag. -/
def entry (ms : Nat) (counter : Byte) (learn : Bool) : Telegram :=
  { id := 7, pressure := 1010, temperature := 40, batteryLow := false, fastLeak := false, rolling := true, learn := learn,
    counter := counter, time := BitVec.ofNat 32 ms, overrunBefore := true }

/-- The part with one entry waiting. -/
def withEntry (e : Telegram) (s : State) : State := { s with timeBase := e.time }.onRx fun r => { r with queue := [e] }

/-- Sensor 7 bound at position 5, its record given. -/
def bound (r : TyreRec) (s : State) : State :=
  s.onTyres fun t => { t with map := gridSet t.map 5 (some 7), records := gridSet t.records 5 r }

/-- The record of a position heard at time 0 with counter 1. -/
def heard (st : TyreState) (history : List Reading) : TyreRec :=
  { tyreFresh st 0 with lastCounter := some 1, history := history }

/-- The unknown sensor list full, its second slot with the lowest count. -/
def fullUnknown (s : State) : State :=
  let u := fun (id : SensorId) (n : Nat) => some (⟨id, n, 0, 0, false⟩ : UnknownEntry)
  s.onTyres fun t => { t with unknown := ⟨u 11 4, u 12 1, u 13 2, u 14 4⟩ }

/-- The unknown sensor list with sensor 7 heard at time 0, its count given. -/
def unknownSeven (count : Nat) (s : State) : State :=
  s.onTyres fun t => { t with unknown := ⟨none, some ⟨7, count, 0, 1, false⟩, none, none⟩ }

/-- A learning session for position 5. -/
def learning (ms : Nat) (s : State) : State :=
  { s with timeBase := BitVec.ofNat 32 ms }.onTyres fun t => { t with session := some ⟨5, 0, 10000, 9⟩ }

/-- A repeat at 2,000 ms, also learn-flagged in the session of its own slot; a miss with an empty slot and with a full list, whose least counts stand in two slots of which the
later was heard less recently; and a miss of a sensor of the list: again at 2,000 ms, and at 2,001 ms with the count at 1
and at 2. -/
theorem test_witness_RepeatsAndMissesAreNotReadings :
    let hit := withEntry (entry 2000 1 false) (bound (heard .ok []) (placedAt 0))
    let miss := withEntry (entry 7 1 false) (placedAt 0)
    let full := withEntry (entry 7 1 false) (fullUnknown (placedAt 0))
    let again := fun ms count => withEntry (entry ms 1 false) (unknownSeven count (placedAt 0))
    (at' 7).powered = true ∧ (at' 7).rx.queue = [] ∧ hit.rx.queue = entry 2000 1 false :: [] ∧
      hit.tyres.session = none ∧ (learning 2000 hit).tyres.session = some ⟨5, 0, 10000, 9⟩ ∧
      gridGet (learning 2000 hit).tyres.map 5 = some (entry 2000 1 true).id ∧ (entry 2000 1 true).learn = true ∧
      positionOf hit.tyres.map 7 = some 5 ∧ (tyre hit 5).lastCounter = some 1 ∧
      (tyre hit 5).state ≠ .lost ∧ ((entry 2000 1 false).time - (tyre hit 5).lastHeard).toNat ≤ 2000 ∧
      miss.rx.queue = entry 7 1 false :: [] ∧ positionOf miss.tyres.map 7 = none ∧
      (∀ k, ∀ u ∈ quadGet miss.tyres.unknown k, u.id ≠ 7) ∧ quadGet miss.tyres.unknown 0 = none ∧
      positionOf full.tyres.map 7 = none ∧ (∀ k, ∀ u ∈ quadGet full.tyres.unknown k, u.id ≠ 7) ∧
      (∀ k, (quadGet full.tyres.unknown k).isSome = true) ∧ positionOf (again 2000 1).tyres.map 7 = none ∧
      quadGet (again 2000 1).tyres.unknown 1 = some ⟨7, 1, 0, 1, false⟩ ∧
      quadGet (again 2001 2).tyres.unknown 1 = some ⟨7, 2, 0, 1, false⟩ ∧
      ((entry 2000 1 false).time - 0).toNat ≤ 2000 ∧ 2000 < ((entry 2001 1 false).time - 0).toNat := by decide +kernel

/-- R125, R126 and R159 by hand: of two least counts the one heard less recently gives way, and UNKNOWN_SENSOR is raised at the
third miss, at the entry's own time. -/
theorem test_unknown_sensor_list :
    let miss := fun s => after .telegramEntryTaken (withEntry (entry 2001 1 false) s)
    let u := fun (id : SensorId) (n : Nat) (ms : Stamp) => some (⟨id, n, ms, 0, false⟩ : UnknownEntry)
    let tied := (placedAt 0).onTyres fun t => { t with unknown := ⟨u 11 4 0, u 12 1 900, u 13 1 800, u 14 1 800⟩ }
    let late := withEntry (entry 2001 1 false) (unknownSeven 2 (noCapture (placedAt 0)))
    let raised := (after .telegramEntryTaken { late with timeBase := 5000 }).alerts.queue
    (quadGet (miss tied).tyres.unknown 2).map (fun x => x.id) = some 7 ∧
      (raised.find? fun a => a.cause == .unknownSensor).map (fun a => a.time) = some 2001 ∧
      (miss (unknownSeven 1 (placedAt 0))).alerts = (placedAt 0).alerts := by decide +kernel

/-- A reading at 2,001 ms with the same counter, also learn-flagged in the session of its own slot, at 9,999 and 10,000 ms with a history of four, of a DISABLED and of a LOST
position, and at -55 °C. -/
theorem test_witness_ReadingUpdatesTheRecord :
    let at2001 := withEntry (entry 2001 1 false) (bound (heard .ok []) (placedAt 0))
    let four : List Reading := List.replicate 4 ⟨0, 844⟩
    let late := fun ms => withEntry (entry ms 2 false) (bound (heard .ok four) (placedAt 0))
    (∀ st, ((withEntry (entry 2001 1 false) (bound (heard st []) (placedAt 0))).rx.queue = entry 2001 1 false :: [])) ∧
      at2001.powered = true ∧ at2001.tyres.session = none ∧ positionOf at2001.tyres.map 7 = some 5 ∧
      (learning 2001 at2001).tyres.session = some ⟨5, 0, 10000, 9⟩ ∧
      gridGet (learning 2001 at2001).tyres.map 5 = some (entry 2001 1 true).id ∧ (entry 2001 1 true).learn = true ∧
      (-55 : Int) ≤ (entry 2001 1 false).temperature ∧ (-55 : Int) ≤ ({ entry 2001 1 false with temperature := -55 }).temperature ∧
      2000 < ((entry 2001 1 false).time - (tyre at2001 5).lastHeard).toNat ∧ (tyre at2001 5).history = [] ∧
      (tyre (late 9999) 5).lastCounter ≠ some (entry 9999 2 false).counter ∧
      (tyre (late 9999) 5).history.getLast? = some ⟨0, 844⟩ ∧ ((entry 9999 2 false).time - 0).toNat < 10000 ∧
      10000 ≤ ((entry 10000 2 false).time - 0).toNat ∧ (tyre (late 10000) 5).history.length = 4 :=
  ⟨fun _ => rfl, by decide +kernel⟩

/-- R114 by hand: a learn-flagged entry whose ID stands in the session's own slot is a reading, and the session stays open. -/
theorem test_learn_flag_in_its_own_slot :
    let s := learning 2001 (withEntry (entry 2001 1 true) (bound (heard .ok []) (placedAt 0)))
    let t := after .telegramEntryTaken s
    t.tyres.session = some ⟨5, 0, 10000, 9⟩ ∧ t.tyres.readings = 1 ∧ t.tyres.marks = 1 ∧ t.tyres.unsaved = false ∧
      (tyre t 5).gauge = some 844 := by decide +kernel

/-- 7.11: the reading of 1010 kPa at 40 °C on group A at ratio 3711 is OK, with gauge 844. -/
theorem test_worked_reading :
    let s := withEntry (entry 2001 2 false) (bound (heard .noData []) (worked 0))
    (tyre (after .telegramEntryTaken s) 5).gauge = some 844 ∧ (tyre (after .telegramEntryTaken s) 5).state = .ok := by
  decide +kernel

/-- R117 and R119 by hand: at target 900 the levels are 809, 675 and 1079, and each state is entered on its side of its level; an
entry into LOW raises TYRE_LOW at the entry's time. -/
theorem test_reading_states :
    let taken := fun kPa celsius => after .telegramEntryTaken (withEntry
      { entry 2001 2 false with pressure := kPa, temperature := celsius } (bound (heard .noData []) (noCapture (placedAt 0))))
    let state := fun kPa celsius => (tyre (taken kPa celsius) 5).state
    state 909 20 = .low ∧ state 910 20 = .ok ∧ state 775 20 = .veryLow ∧ state 776 20 = .low ∧ state 1180 20 = .ok ∧
      state 1181 20 = .high ∧ state 1230 95 = .hot ∧
      (taken 909 20).alerts.queue.map (fun a => (a.cause, a.subject, a.value, a.time)) =
        [(.tyreLow, ⟨.tyre, 5⟩, 808, 2001)] := by decide +kernel

/-- Sensor 7 at position 3 and learn-flagged, in a session for position 5. -/
def learnsFromThree (s : State) : State :=
  learning 7 (withEntry (entry 7 1 true) (s.onTyres fun t => { t with map := gridSet t.map 3 (some 7) }))

theorem learns_from_three_inv (s : State) (hm : s.tyres.map = Grid.const none) (hu : s.tyres.unknown = Quad.const none) :
    MapInv (learnsFromThree s) := by
  have hmap : (learnsFromThree s).tyres.map = gridSet (Grid.const none) 3 (some 7) := by rw [← hm]; rfl
  have hunk : (learnsFromThree s).tyres.unknown = Quad.const none := hu
  have h3 : ∀ p, p ≠ 3 → gridGet (gridSet (Grid.const none) 3 (some (7 : SensorId))) p = none := by decide
  refine ⟨fun p q id hp hq => ?_, fun p k u h => ?_⟩
  · rw [hmap] at hp hq
    by_cases h : p = 3 <;> by_cases h' : q = 3 <;> simp_all
  · rw [hunk, (by decide : ∀ k, quadGet (Quad.const (none : Option UnknownEntry)) k = none) k] at h
    cases h

/-- A sensor from another position, with the store IDLE, IDLE with block 3 protected, and busy. -/
theorem test_witness_LearnTelegramIsBound :
    let s := learnsFromThree (placedAt 0)
    let shielded := s.onStore fun t => { t with protForce := 0xFFF7 }
    MapInv s ∧ MapInv shielded ∧ MapInv (learnsFromThree (storeWriting 0)) ∧ s.powered = true ∧
      s.rx.queue = entry 7 1 true :: [] ∧ s.tyres.session = some ⟨5, 0, 10000, 9⟩ ∧ (entry 7 1 true).learn = true ∧
      gridGet s.tyres.map 5 ≠ some 7 ∧ gridGet s.tyres.map 3 = some 7 ∧ s.mgmt.queue.length < 4 ∧
      s.store.state = .idle ∧ protectFlag s.store.protForce 3 = false ∧ protectFlag shielded.store.protForce 3 = true ∧
      (learnsFromThree (storeWriting 0)).store.state ≠ .idle :=
  ⟨learns_from_three_inv _ rfl rfl, learns_from_three_inv (placedAt 0) rfl rfl, learns_from_three_inv _ rfl rfl, rfl, rfl,
    rfl, rfl, by decide, by decide, by decide, rfl, by decide, by decide, by decide⟩

/-- R128 and R129 by hand: position 3 goes ABSENT, position 5 takes the entry as its first reading, and an IDLE store begins
to write block 3, while a busy one leaves the request WAITING. -/
theorem test_learn_bind :
    let t := after .telegramEntryTaken (learnsFromThree (placedAt 0))
    let busy := after .telegramEntryTaken (learnsFromThree (storeWriting 0))
    (tyre t 3).state = .absent ∧ (tyre t 5).state = .ok ∧ (tyre t 5).history = [⟨7, 844⟩] ∧
      t.store.writing.map (fun w => w.block) = some 3 ∧ t.tyres.waiting = false ∧ busy.tyres.waiting = true ∧
      busy.store.writing.map (fun w => w.block) = some 0 := by decide +kernel

/-- Position 5 HOT with its last drag time given, the speed 500, the zero-demand run begun at time 0. -/
def dragging (ms : Nat) (drag : Option Stamp) : State :=
  (bound { heard .hot [] with lastDrag := drag, lastHeard := BitVec.ofNat 32 ms } (withInput 12 500 (at' ms))).onTyres fun t =>
    { t with zeroRun := some 0 }

/-- Sets at no demand and at a fresh demand of 100 kPa; position 5 last heard 600 s before, the default LOST time, and one millisecond less; and a position that drags at 30,000 ms
of zero demand and not at 29,999, again after 60,000 ms and not after 59,999. -/
theorem test_witness_SilentPositionsGoLost :
    let braked := ((at' 7).onArbiter fun a => { a with demand := 100, source := .electric }).onLink fun l =>
      { l with state := .fresh, demand := 100 }
    AcceptsSet (at' 7) (quietSet 4) ∧ AcceptsSet braked (quietSet 4) ∧ demandLevel (at' 7) = 0 ∧
      (at' 7).link.state = .nothing ∧ 0 < demandLevel braked ∧ braked.link.state = .fresh ∧ 0 < braked.link.demand ∧
      ((at' 999).timeBase - (at' 999).tyres.checkStart).toNat < 1000 ∧
      1000 ≤ ((at' 1000).timeBase - (at' 1000).tyres.checkStart).toNat ∧ (at' 1000).powered = true ∧
      (let s := bound (heard .ok []) (at' 600000)
       (tyre s 5).state = .ok ∧ 1000 * t4Lost s.tables.t4 = (s.timeBase - (tyre s 5).lastHeard).toNat) ∧
      (let s := dragging 30000 none
       demandLevel s = 0 ∧ vehicleSpeed s = some 500 ∧ s.tyres.zeroRun = some 0 ∧ (tyre s 5).state = .hot ∧
         t1Assigned s.tables.t1 0 = true ∧ t1Group s.tables.t1 0 = t1AxleGroup s.tables.t1 1 ∧
         t1Side s.tables.t1 0 = .left ∧ t1PolicyAll s.tables.t1 = false) ∧
      (tyre (dragging 90000 (some 30000)) 5).lastDrag = some 30000 ∧
      0 < demandLevel ((dragging 30000 none).onArbiter fun a => { a with demand := 1, source := .electric }) :=
  ⟨accepts_quiet _ rfl rfl rfl _ (by decide +kernel), accepts_quiet _ rfl rfl rfl _ (by decide +kernel), by decide +kernel⟩

/-- R123 by hand: a set without demand starts the run or leaves it running, and a set with demand ends it. -/
theorem test_zero_demand_run :
    let run := fun (start : Option Stamp) demand => (tyresTakeSet
      (((at' 7).onTyres fun t => { t with zeroRun := start }).onArbiter fun a =>
        { a with demand := demand, source := .electric })).tyres.zeroRun
    run none 0 = some 7 ∧ run (some 3) 0 = some 3 ∧ run (some 3) 1 = none := by decide +kernel

/-- R124 by hand: a drag is an error event of C1, at those bounds. -/
theorem test_brake_drag :
    let errors := fun ms drag => (chan (after .checkTimerExpiry (dragging ms drag)) 0).errors
    errors 30000 none = 1 ∧ errors 29999 none = 0 ∧ errors 90000 (some 30000) = 1 ∧ errors 90000 (some 30001) = 0 := by
  decide +kernel

theorem test_silent_position_at_its_bound :
    let s := fun ms => after .checkTimerExpiry (bound (heard .ok []) (at' ms))
    (tyre (s 600000) 5).state = .lost ∧ (tyre (s 599999) 5).state = .ok := by decide +kernel

theorem test_witness_LearnSessionsOpenAndEnd :
    (∀ n x y, TakesRequest (placedAt 7) (req [9, n, x, y]) 4 9) ∧ TakesRequest (placedAt 7) (req [9]) 1 9 ∧
      15 < dataByte [9, 16, 0, 10] 1 ∧ dataWord [9, 15, 0, 9] 2 < 10 ∧ 600 < dataWord [9, 15, 2, 89] 2 ∧
      dataByte [9, 15, 0, 10] 1 = (15 : Position).val ∧ dataWord [9, 15, 0, 10] 2 = 10 ∧
      dataWord [9, 15, 2, 88] 2 = 600 ∧ (placedAt 7).tyres.session = none ∧ (tyre (placedAt 7) 15).state ≠ .disabled ∧
      (tyre (bound (heard .disabled []) (placedAt 7)) 5).state = .disabled ∧
      (learning 9999 (placedAt 0)).tyres.session = some ⟨5, 0, 10000, 9⟩ ∧
      ((learning 9999 (placedAt 0)).timeBase - 0).toNat < 10000 ∧
      10000 ≤ ((learning 10000 (placedAt 0)).timeBase - 0).toNat ∧ (placedAt 7).mgmt.queue.length < 3 :=
  ⟨fun n x y => takes_request rfl rfl 9 _ 4 (by simp), takes_request rfl rfl 9 [] 1 (by decide), by decide +kernel⟩

/-! ### Link engine -/

/-- The link record in a demand state, with its last accepted sequence and demand timer. -/
def linkAs (st : DemandState) (seq : Option Nat) (tm : Option Timer) (ms : Nat) : State :=
  (placedAt ms).onLink fun l => { l with state := st, lastSeq := seq, demandTimer := tm, rearwardTimer := some 0 }

/-- A state in FS_A with channel C1 given. -/
def inFsA (r : ChannelRec) (s : State) : State :=
  (s.onArbiter fun a => { a with failSafe := .fsA }).onChannel 0 fun _ => r

/-- With no last sequence, with another one, and from LOST, a channel held in FS_A. -/
theorem test_witness_FreshDemandIsTaken :
    let f := lnk [1, 44, 7, 6]
    (linkAs .nothing none none 7).powered = true ∧ 4 ≤ f.data.length ∧ dataBit f.data 3 0 = false ∧
      (linkAs .nothing none none 7).link.lastSeq ≠ some (dataByte f.data 2 % 16) ∧
      (linkAs .lost (some 6) none 7).link.lastSeq ≠ some (dataByte f.data 2 % 16) ∧
      (linkAs .lost (some 6) none 7).link.state = .lost ∧ (linkAs .fresh (some 6) none 7).link.state ≠ .lost ∧
      (linkAs .fresh (some 6) none 7).sample.loss ≠ .lost ∧
      (let s := inFsA { chanAs .hold with holdTimer := some 0 } (linkAs .lost (some 6) none 7)
       s.sample.loss ≠ .lost ∧ s.arbiter.failSafe ≠ .normal ∧ (chan s 0).state = .hold) := by decide

theorem test_fresh_demand_of_300 :
    (after (.demandFrame (lnk [1, 44, 7, 0])) (linkAs .nothing none none 7)).link.demand = 300 := by decide +kernel

/-- R47, NORMAL row by hand: a channel in HOLD goes to START with the fresh frame that ends FS_A. -/
theorem test_fresh_demand_ends_fs_a :
    let s := inFsA { chanAs .hold with holdTimer := some 0 } (linkAs .lost (some 6) none 7)
    let t := after (.demandFrame (lnk [1, 44, 7, 0])) s
    t.arbiter.failSafe = .normal ∧ (chan t 0).state = .start ∧ (chan t 0).holdTimer = none := by decide +kernel

theorem test_witness_OtherDemandFramesRefreshNothing :
    (at' 7).powered = true ∧ (lnk [1, 44, 7]).data.length < 4 ∧ 4 ≤ (lnk [1, 44, 7, 1]).data.length ∧
      dataBit (lnk [1, 44, 7, 1]).data 3 0 = true ∧ dataBit (lnk [1, 44, 7, 0]).data 3 0 = false ∧
      (linkAs .fresh (some 7) none 7).link.lastSeq = some (dataByte (lnk [1, 44, 7, 0]).data 2 % 16) ∧
      frontAlive ((at' 25).onLink fun l => { l with lastFrame := some 0 }) = true ∧
      frontAlive ((at' 26).onLink fun l => { l with lastFrame := some 0 }) = false := by decide

/-- A part in LEARN mode at a position, its vehicle speed given. -/
def learnPlaced (position : Option Nat) (speed : Nat) : State :=
  (withInput 12 speed (placedAt 7)).onLink fun l => { l with strapPos := 0, position := position }

theorem test_witness_PositionFramesPlaceThePart :
    (at' 7).powered = true ∧ (lnk []).data = [] ∧ (lnk [3]).data ≠ [] ∧
      (∀ own ∈ (learnPlaced (some 3) 199).link.position, own ≤ 3) ∧ (learnPlaced none 0).link.strapPos = 0 ∧
      (learnPlaced none 0).link.position = none ∧ dataByte (lnk [2]).data 0 % 16 = 2 ∧
      dataByte (lnk [3]).data 0 % 16 = 3 ∧ (learnPlaced (some 3) 199).link.position = some 3 ∧
      vehicleSpeed (learnPlaced (some 3) 199) = some 199 ∧ vehicleSpeed (learnPlaced (some 3) 201) = some 201 ∧
      vehicleSpeed (at' 7) = none ∧ (placedAt 7).link.strapPos = 1 ∧ dataByte (lnk [0]).data 0 % 16 + 1 = 1 := by
  decide +kernel

theorem test_witness_DemandTimerMovesTheState :
    let s := fun st ms => linkAs st (some 6) (some ⟨0, 25⟩) ms
    (s .fresh 24).powered = true ∧ (linkAs .lost none none 7).link.demandTimer = none ∧
      (s .fresh 24).link.demandTimer = some ⟨0, 25⟩ ∧ ((s .fresh 24).timeBase - 0).toNat < 25 ∧
      25 ≤ ((s .fresh 25).timeBase - 0).toNat ∧ (s .fresh 25).link.state = .fresh ∧ (s .stale 25).link.state = .stale ∧
      (s .nothing 25).link.state = .nothing ∧ (noCapture (s .stale 25)).alerts.capture = none ∧
      (s .stale 25).sample.loss ≠ .lost ∧ (s .stale 25).arbiter.failSafe ≠ .fsA ∧
      t1FsaBackup (s .stale 25).tables.t1 0 = false ∧ t1FsaBackup (t1Default.set 11 1) 0 = true := by decide

/-- R47, FS_A rows by hand: at the entry to LOST an ACTIVE channel with FS-A mode BACKUP goes to BACKUP(FAILSAFE), and with
LOAD_CORRECTED it stays ACTIVE. -/
theorem test_lost_demand_moves_channels :
    let s := fun mode => ((linkAs .stale (some 6) (some ⟨0, 25⟩) 25).onChannel 0 fun _ => chanAs .active).onTables fun x =>
      { x with t1 := t1Default.set 11 mode }
    let c := fun mode => chan (after .demandTimerExpiry (s mode)) 0
    (c 1).state = .backup ∧ (c 1).reason = some .failsafe ∧ (c 0).state = .active := by decide +kernel

theorem test_witness_RearwardTimerSendsFillsAndSubstitutes :
    let s := fun st ms => linkAs st (some 6) none ms
    (s .stale 9).powered = true ∧ (placedAt 7).link.rearwardTimer = none ∧ (s .stale 9).link.rearwardTimer = some 0 ∧
      ((s .stale 9).timeBase - 0).toNat < 10 ∧ 10 ≤ ((s .stale 10).timeBase - 0).toNat ∧
      (s .stale 10).link.state = .stale ∧ (s .lost 10).link.state = .lost ∧
      inputValid (withInput 4 200 (s .lost 10)) inputControl = true ∧
      inputValid (s .lost 10) inputControl = false := by decide +kernel

/-! ### Relay -/

/-- The relay in a rear port state, with a rearward queue and what the rear port sends. -/
def relayAs (st : RearState) (queue : List RearItem) (tx : Option RearTx) : State :=
  (placedAt 7).onRelay fun r => { r with rear := st, rearward := queue, rearTx := tx }

def demandItem (seq : Nat) : RearItem := .demand 1 seq false false
def positionItem : RearItem := .frame (ownFrame 2 2 15 1 0 [1])
def genericItem : RearItem := .frame (ownFrame 6 9 0 1 0 [1])

theorem pressure_inv_placed (st : RearState) (q : List RearItem) (tx : Option RearTx) : PressureInv (relayAs st q tx) := by
  refine ⟨(by decide : ∀ c, (chan (placedAt 7) c).cmdTarget ≤ (chan (placedAt 7) c).ceiling ∧
    (chan (placedAt 7) c).ceiling ≤ t1PMax (placedAt 7).tables.t1 c ∧
    ((chan (placedAt 7) c).cmdPressure = false → (chan (placedAt 7) c).cmdTarget = 0)),
    (by decide : (placedAt 7).link.demand ≤ 1000), (by decide : (placedAt 7).arbiter.demand ≤ 1000),
    (by decide : (placedAt 7).roll.stretch ≤ 1000),
    fun i => ⟨(by decide : ∀ i, inputMin i ≤ (input (placedAt 7) i).value ∧ (input (placedAt 7) i).value ≤ inputMax i) i,
      fun v h => ?_⟩⟩
  have hn := (by decide : ∀ i, (input (placedAt 7) i).lastGood = none) i
  exact nomatch hn.symm.trans (h : (input (placedAt 7) i).lastGood = some v)

theorem test_witness_RearHandoverCarriesTheDemand :
    let s := fun st => relayAs st [demandItem 15] none
    (s .forwarding).powered = true ∧ (s .held).relay.rear = .held ∧ (s .isolated).relay.rear = .isolated ∧
      (relayAs .forwarding [] none).relay.rearward = [] ∧ (s .forwarding).relay.rear = .forwarding ∧
      (s .noPartner).relay.rear = .noPartner ∧ (s .forwarding).relay.rearTx = none ∧
      (s .forwarding).relay.isolation = none ∧ (s .forwarding).relay.rearward = demandItem 15 :: [] ∧
      demandItem 15 = .demand 1 15 false false ∧ PressureInv (s .forwarding) :=
  ⟨rfl, rfl, rfl, rfl, rfl, rfl, rfl, rfl, rfl, rfl, pressure_inv_placed _ _ _⟩

/-- Every class below 7 at either port, the destinations around position 1 and 15, and the rear port isolated. -/
theorem test_witness_ArrivalsAreHandledByPortAndClass :
    let f := fun cls dest => ownFrame 5 cls dest 0 1 [9]
    (placedAt 7).powered = true ∧ (⟨false, 5, []⟩ : CanFrame).extended = false ∧ (f 5 1).extended = true ∧
      [0, 1, 2, 3, 4, 5, 6].all (fun k => frameClass (f k 15) == k) = true ∧ frameDest (f 5 15) = 15 ∧
      frameDest (f 5 1) = chainPosition (placedAt 7) ∧ chainPosition (placedAt 7) < frameDest (f 5 2) ∧
      frameDest (f 5 0) < chainPosition (placedAt 7) ∧ (relayAs .held [] none).relay.rear ≠ .isolated ∧
      (relayAs .isolated [] none).relay.rear = .isolated := by decide

/-- A T6 whose last slot alone is in use, for either direction, class ANY and every destination, with an action. -/
def lastSlotT6 (action : Byte) : Table := List.replicate 138 0 ++ [1, 2, 0, 255, action, 7]

def routing (action : Byte) : State := (placedAt 7).onTables fun t => { t with t6 := lastSlotT6 action }

theorem test_witness_GenericFramesFollowTheFirstMatch :
    let f := ownFrame 3 7 4 2 5 [1]
    let hit := fun (t6 : Table) (port : Port) (i : Nat) => t6Used t6 i = true ∧
      (t6Direction t6 i = 2 ∨ (t6Direction t6 i = 0 ∧ port = .front) ∨ (t6Direction t6 i = 1 ∧ port = .rear)) ∧
      (t6Class t6 i = 0 ∨ t6Class t6 i = frameClass f) ∧ (t6Dest t6 i = 255 ∨ t6Dest t6 i = frameDest f)
    (routing 0).powered = true ∧ tableCheck 6 (routing 0).tables.t6 = none ∧ tableCheck 6 (routing 2).tables.t6 = none ∧
      f.extended = true ∧ 7 ≤ frameClass f ∧ frameClass (ownFrame 3 31 4 2 5 [1]) = 31 ∧
      (routing 0).relay.rear ≠ .isolated ∧ hit (lastSlotT6 0) .front 23 ∧ hit (lastSlotT6 2) .rear 23 ∧
      (∀ j, j < 23 → t6Used (lastSlotT6 0) j = false) ∧ t6Action (lastSlotT6 0) 23 = 0 ∧
      t6Action (lastSlotT6 1) 23 = 1 ∧ t6Action (lastSlotT6 2) 23 = 2 ∧
      ∀ j, j < 24 → t6Used t6Default j = false := by decide +kernel

/-- Relayed frames: alert `n`, routine `n`, and one in transmission. -/
def alertNo (n : Nat) : RelayedFrame := ⟨ownFrame 3 3 0 2 n [], false⟩
def routineNo (n : Nat) : RelayedFrame := ⟨ownFrame 6 4 0 2 n [], false⟩

theorem test_witness_RelayedQueueKeepsAlerts :
    let r : Relay := relayReset true false
    let room : Relay := { r with relayed := (List.range 15).map routineNo }
    let older : List RelayedFrame := [⟨ownFrame 6 4 0 2 1 [], true⟩, alertNo 2]
    let newer := (List.range 13).map routineNo
    let full : Relay := { r with relayed := older ++ routineNo 30 :: newer }
    let kept : Relay := { r with relayed := ⟨ownFrame 6 4 0 2 1 [], true⟩ :: (List.range 15).map alertNo }
    room.relayed.length < 16 ∧ 16 ≤ full.relayed.length ∧ frameClass (routineNo 1).frame ≠ 3 ∧
      frameClass (alertNo 1).frame = 3 ∧ full.relayed = older ++ routineNo 30 :: newer ∧ (routineNo 30).inTx = false ∧
      (∀ x ∈ older, frameClass x.frame = 3 ∨ x.inTx = true) ∧ 16 ≤ kept.relayed.length ∧
      (∀ x ∈ kept.relayed, frameClass x.frame = 3 ∨ x.inTx = true) ∧ full.relayed.length ≤ 16 := by decide +kernel

theorem test_witness_RearwardOffersAreJudged :
    let r := fun st q => (relayAs st q none).relay
    let seven := List.replicate 7 genericItem
    (r .held []).rear = .held ∧ (r .noPartner []).rear = .noPartner ∧ isDemandItem (demandItem 1) = true ∧
      positionItem = .frame (ownFrame 2 2 15 1 0 [1]) ∧ frameClass (ownFrame 2 2 15 1 0 [1]) = 2 ∧
      frameClass (ownFrame 6 9 0 1 0 [1]) ≠ 2 ∧
      (r .forwarding ([positionItem] ++ demandItem 0 :: [genericItem])).rearward =
        [positionItem] ++ demandItem 0 :: [genericItem] ∧
      (∀ x ∈ [positionItem] ++ [genericItem], isDemandItem x = false) ∧
      (∀ x ∈ (r .forwarding seven).rearward, isDemandItem x = false) ∧ (r .forwarding seven).rearward.length < 8 ∧
      8 ≤ (r .forwarding (genericItem :: seven)).rearward.length ∧ isDemandItem genericItem = false ∧
      (r .forwarding (demandItem 0 :: seven)).rearward.length ≤ 8 ∧
      (r .forwarding (demandItem 0 :: seven)).rearward.countP isDemandItem ≤ 1 := by decide +kernel

/-- The front port's sources: own alerts, relayed frames, responses and a status pair. -/
def frontAs (alerts : List Alert) (relayed : List RelayedFrame) (responses : List (List CanFrame))
    (slot : Option StatusPair) (tx : Option FrontTx) : State :=
  let s := placedAt 7
  { s with
    alerts := { s.alerts with queue := alerts, slot := slot }
    relay := { s.relay with relayed := relayed, frontTx := tx }
    mgmt := { s.mgmt with queue := responses } }

def anAlert (inTx : Bool) : Alert := ⟨.tyreLow, ⟨.tyre, 5⟩, 790, 2, false, inTx⟩
def aResponse : CanFrame := ownFrame 5 6 0 1 4 [9, 0, 0]
def aPair (sent1 sent2 inTx : Bool) : StatusPair := ⟨ownFrame 6 4 0 1 1 [], ownFrame 6 4 0 1 2 [], sent1, sent2, inTx⟩

theorem test_witness_FrontPortIsHandedByRank :
    let s := frontAs [anAlert false] [routineNo 1] [[aResponse]] (some (aPair false false false)) none
    let relayed := frontAs [] ([routineNo 1] ++ alertNo 2 :: [routineNo 3]) [] none none
    s.powered = true ∧ (∀ e ∈ s.mgmt.queue, e ≠ []) ∧ s.relay.frontTx = none ∧ s.alerts.queue = anAlert false :: [] ∧
      (frontAs [] [] [] none (some ⟨.response, aResponse⟩)).relay.frontTx ≠ none ∧ relayed.alerts.queue = [] ∧
      relayed.relay.relayed = [routineNo 1] ++ alertNo 2 :: [routineNo 3] ∧ frameClass (alertNo 2).frame = 3 ∧
      (∀ x ∈ [routineNo 1], frameClass x.frame ≠ 3) ∧ s.mgmt.queue = (aResponse :: []) :: [] ∧
      (frontAs [] [routineNo 1] [] none none).relay.relayed = routineNo 1 :: [] ∧
      (frontAs [] [] [] none none).alerts.slot = none ∧
      (frontAs [] [] [] (some (aPair false false false)) none).alerts.slot = some (aPair false false false) ∧
      (aPair true false false).sent1 = true ∧ (aPair true false false).sent2 = false ∧
      (aPair true true false).sent2 = true := by decide +kernel

theorem test_witness_FrontOutcomesRemoveOrKeep :
    let tx := fun src => some (⟨src, aResponse⟩ : FrontTx)
    let own := frontAs ([] ++ anAlert true :: [anAlert false]) [] [] none (tx .ownAlert)
    let rel := frontAs [] ([routineNo 1] ++ ⟨(alertNo 2).frame, true⟩ :: [routineNo 3]) [] none (tx .relayed)
    let rsp := frontAs [] [] [[aResponse, aResponse]] none (tx .response)
    let st := fun src => frontAs [] [] [] (some (aPair false false true)) (tx src)
    own.powered = true ∧ (placedAt 7).relay.frontTx = none ∧ own.relay.frontTx = tx .ownAlert ∧
      own.alerts.queue = [] ++ anAlert true :: [anAlert false] ∧ (anAlert true).inTx = true ∧
      (∀ x ∈ [] ++ [anAlert false], x.inTx = false) ∧
      (∀ x ∈ (frontAs [anAlert false] [] [] none (tx .ownAlert)).alerts.queue, x.inTx = false) ∧
      rel.relay.relayed = [routineNo 1] ++ ⟨(alertNo 2).frame, true⟩ :: [routineNo 3] ∧
      rel.relay.frontTx = tx .relayed ∧ rsp.relay.frontTx = tx .response ∧
      rsp.mgmt.queue = (aResponse :: [aResponse]) :: [] ∧ (st .status1).alerts.slot = some (aPair false false true) ∧
      (st .status2).relay.frontTx = tx .status2 := by decide +kernel

/-- The rear port sending an item, with its run. -/
def rearSending (st : RearState) (item : RearItem) (queue : List RearItem) (run : Nat) (left : Bool := false) : State :=
  (relayAs st queue (some ⟨item, ownFrame 1 1 15 1 0 [0, 0, 0, 0], left⟩)).onRelay fun r => { r with run := run }

theorem test_witness_RearOutcomesFollowTheRun :
    let s := rearSending .forwarding (demandItem 3) [demandItem 4] 1
    let full := rearSending .forwarding genericItem (List.replicate 8 positionItem) 1
    s.powered = true ∧ (placedAt 7).relay.rearTx = none ∧ s.relay.rearTx.isSome = true ∧ s.relay.isolation = none ∧
      s.relay.rear = .forwarding ∧ s.relay.run ≤ 1 ∧ s.relay.rearward.any isDemandItem = true ∧
      isDemandItem genericItem = false ∧ (rearSending .forwarding genericItem [] 0).relay.rearward.length < 8 ∧
      8 ≤ full.relay.rearward.length ∧ (rearSending .forwarding genericItem [] 2).relay.run = 2 ∧
      (rearSending .noPartner genericItem [] 3).relay.rear = .noPartner ∧
      (rearSending .held genericItem [] 0).relay.rear = .held ∧
      (rearSending .isolated genericItem [] 0).relay.rear = .isolated ∧ s.relay.rearTx.map RearTx.left = some false ∧
      (rearSending .forwarding genericItem [] 1 true).relay.rearTx.map RearTx.left = some true := by decide +kernel

/-- R155 by hand: a frame whose port went to HELD and back to FORWARDING during its hand-over is discarded when it is not
acknowledged, and one whose port stayed in FORWARDING returns. -/
theorem test_rear_port_left_and_came_back :
    let s := rearSending .forwarding genericItem [] 0
    let r := fun u => (after (.rearHandoverOutcome false) u).relay
    let back := s.onRelay fun x => relayPlaced (relayUnplaced x)
    back.relay.rear = .forwarding ∧ (r back).rearward = [] ∧ (r back).rearDiscard = 1 ∧ (r s).rearward = [genericItem] ∧
      (r s).rearDiscard = 0 := by decide +kernel

/-- An isolation pending, with a hand-over in progress and without one. -/
def isolating (s : State) : State := s.onRelay fun r => { r with isolation := some 8 }

theorem test_witness_IsolationCutsTheRearOff :
    let s := rearSending .forwarding genericItem [genericItem] 0
    TakesRequest (relayAs .isolated [] none) (req [9]) 1 9 ∧ TakesRequest (relayAs .forwarding [genericItem] none) (req [9]) 1 9 ∧
      TakesRequest s (req [9]) 1 9 ∧ TakesRequest (isolating s) (req [9]) 1 9 ∧
      (requestTaken (relayAs .isolated [] none)).relay.rear = .isolated ∧
      (requestTaken s).relay.rear ≠ .isolated ∧ (requestTaken s).relay.isolation = none ∧
      (requestTaken s).relay.rearTx ≠ none ∧ (requestTaken (relayAs .forwarding [genericItem] none)).relay.rearTx = none ∧
      (requestTaken (isolating s)).relay.isolation = some 8 ∧ (isolating s).powered = true ∧
      (isolating s).relay.rearTx.isSome = true ∧ (isolating s).relay.isolation = some 8 ∧ s.mgmt.queue.length < 4 :=
  ⟨takes_request rfl rfl 9 [] 1 (by decide), takes_request rfl rfl 9 [] 1 (by decide),
    takes_request rfl rfl 9 [] 1 (by decide), takes_request rfl rfl 9 [] 1 (by decide), by decide +kernel⟩

/-! ### Alert composer -/

/-- The queue of `alertLoad`: a repeat of its head, room in an empty queue, the full queue with its lowest candidate last,
and a full queue all of which is in transmission. -/
theorem test_witness_RaisesArePlacedByPriority :
    let now : Stamp := 80030
    let first : Alert → Alert → Prop := fun x y => causeCode x.cause < causeCode y.cause ∨
      (causeCode x.cause = causeCode y.cause ∧ (now - y.time).toNat ≤ (now - x.time).toNat)
    let q := alertLoad.queue
    let e : Alert := ⟨.tyreLow, ⟨.tyre, 5⟩, 790, 80002, false, false⟩
    let low : Alert := ⟨.reservoirLow, ⟨.block, 4⟩, 445, 80005, false, false⟩
    let new := fun c => (⟨c, ⟨.block, 8⟩, 3, now, false, false⟩ : Alert)
    q.Pairwise first ∧ q.Pairwise (fun x y => ¬(x.cause = y.cause ∧ x.subject = y.subject)) ∧ q.length = 4 ∧
      q = [] ++ low :: q.drop 1 ∧ (alertsReset 0).queue.length < 4 ∧ q = q.take 3 ++ e :: [] ∧ e.inTx = false ∧
      (∀ x ∈ q.take 3, x.inTx = true ∨ causeCode x.cause ≤ causeCode e.cause) ∧
      (∀ x ∈ q, ¬(x.cause = .positionMismatch ∧ x.subject = (new .positionMismatch).subject)) ∧
      causeCode (new .supplyLost).cause < causeCode e.cause ∧
      causeCode e.cause ≤ causeCode (new .positionMismatch).cause ∧
      ∀ x ∈ q.map fun x => { x with inTx := true }, x.inTx = true := by decide +kernel

/-- 10.6 at 80,030 and 80,040: POSITION_MISMATCH is dropped, SUPPLY_LOST displaces TYRE_LOW and stands first. -/
theorem test_alert_displacement :
    let new := fun c => (⟨c, ⟨.block, 8⟩, 3, 80030, false, false⟩ : Alert)
    (placeAlert 80030 (new .positionMismatch) alertLoad).queue = alertLoad.queue ∧
      (placeAlert 80040 (new .supplyLost) alertLoad).queue.map (fun e => causeCode e.cause) = [0, 7, 8, 10] := by
  decide +kernel

theorem test_witness_StatusPairIsComposedEvery100Ms :
    (placedAt 99).powered = true ∧ ((placedAt 99).timeBase - (placedAt 99).alerts.statusStart).toNat < 100 ∧
      100 ≤ ((placedAt 100).timeBase - (placedAt 100).alerts.statusStart).toNat ∧ chainPosition (placedAt 100) ≤ 15 ∧
      (∀ j, (tyre (placedAt 100) j).state = .absent) ∧ (tyre (bound (heard .lost []) (placedAt 100)) 5).state = .lost ∧
      PressureInv (relayAs .forwarding [] none) :=
  ⟨rfl, by decide, by decide, by decide, by decide, by decide, pressure_inv_placed _ _ _⟩

/-- R131 by hand: LOW ranks before LOST, and of two LOW positions the lower one is shown. -/
theorem test_worst_tyre :
    let at5 := fun st => bound (heard st []) (placedAt 100)
    let s := (at5 .lost).onTyres fun t => { t with
      records := gridSet (gridSet t.records 9 (heard .low [])) 7 (heard .low []) }
    worstTyre s = (.low, 7) ∧ worstTyre (at5 .ok) = (.ok, 5) ∧ worstTyre (at5 .disabled) = (.absent, 0) := by decide

theorem test_witness_CaptureChangesOnlyWhenCleared :
    (∃ k, (placedAt 7).alerts.capture = some k) ∧
      exec .statusTimerExpiry (placedAt 7) = .next (after .statusTimerExpiry (placedAt 7)) ∧
      Instr.statusTimerExpiry ≠ .powerOnReset ∧ Instr.statusTimerExpiry ≠ .powerLoss ∧
      requestCodeOf .statusTimerExpiry ≠ some 13 ∧ TakesRequest (placedAt 7) (req [9]) 1 9 ∧
      (noCapture (placedAt 7)).alerts.capture = none :=
  ⟨⟨_, rfl⟩, rfl, by decide, by decide, by decide, takes_request rfl rfl 9 [] 1 (by decide), rfl⟩

/-! ### Management engine -/

/-- A management request frame to a position. -/
def mgmtFrame (dest code : Nat) (data : List Byte) : CanFrame := ownFrame 5 5 dest 0 code data

theorem test_witness_RequestsAreJudgedInOrder :
    (placedAt 7).powered = true ∧ (mgmtFrame 1 2 []).extended = true ∧ frameClass (mgmtFrame 1 2 []) = 5 ∧
      frameDest (mgmtFrame 1 2 []) = chainPosition (placedAt 7) ∧ frameDest (mgmtFrame 15 2 []) = 15 ∧
      (mgmtFrame 1 2 []).data = [] ∧ (mgmtFrame 1 2 [9]).data = 9 :: [] ∧ frameCode (mgmtFrame 1 0 [9]) = 0 ∧
      18 < frameCode (mgmtFrame 1 19 [9]) ∧ frameCode (mgmtFrame 1 1 [9]) = 1 ∧ frameCode (mgmtFrame 1 18 [9]) = 18 ∧
      (mgmtFrame 1 2 [9]).data.length < 2 ∧ 2 ≤ (mgmtFrame 15 2 [9, 1]).data.length ∧ 1 < 32 := by decide

theorem test_witness_RecordsAreReadByPage :
    (placedAt 7).powered = true ∧ (req [9, 14, 3, 0]).dest.toNat = chainPosition (placedAt 7) ∧
      ({ req [9, 14, 3, 0] with dest := 15 }).dest.toNat = 15 ∧ chainPosition (at' 7) = 15 ∧
      (req [9, 14, 3, 0]).data.length = 4 ∧ (req [9, 14, 3, 0]).data.head? = some 9 ∧ 14 < dataByte [9, 15, 0, 0] 1 ∧
      dataByte [9, 14, 3, 0] 1 = 14 ∧ dataByte [9, 14, 3, 0] 2 = 3 ∧ dataByte [9, 14, 7, 0] 2 = 7 ∧
      dataByte [9, 1, 5, 0] 2 = 5 ∧ dataByte [9, 2, 2, 0] 2 = 2 ∧ dataByte [9, 5, 16, 0] 2 = 16 ∧
      dataByte [9, 9, 24, 0] 2 = 24 ∧
      ((recordOfSelector (requestTaken (placedAt 7)) 14 3).map List.length = some 32) ∧
      ((recordOfSelector (requestTaken (placedAt 7)) 14 1).map List.length = some 96) ∧
      (placedAt 7).mgmt.queue.length < 4 := by decide +kernel

/-- R149 and R168 by hand: a broadcast READ_RECORD is answered and offered rearward, and an UNPLACED part answers it too. -/
theorem test_broadcast_read :
    let read := fun s => after (.readRecord { req [9, 11, 0, 0] with dest := 15 }) s
    let part := relayAs .forwarding [] none
    (read part).mgmt.queue.length = part.mgmt.queue.length + 1 ∧ (read part).relay.rearward.length = 1 ∧
      (read (at' 7)).mgmt.queue.length = 1 ∧ (read (at' 7)).relay.rearward = [] := by decide +kernel

/-- A table open, with segments received and a buffer. -/
def opened (n : Nat) (segments : List Nat) (buffer : Table) : State :=
  (placedAt 7).onMgmt fun m => { m with openTable := some n, segments := segments, buffer := buffer }

theorem test_witness_SegmentsAreLoadedIntoTheBuffer :
    (∀ n, TakesRequest (placedAt 7) (req [9, n]) 2 9) ∧ dataByte [9, 0] 1 < 1 ∧ 6 < dataByte [9, 7] 1 ∧
      dataByte [9, 1] 1 = 1 ∧ dataByte [9, 6] 1 = 6 ∧
      (∀ i, TakesRequest (opened 3 [] (List.replicate 144 0)) (req [9, i, 1, 2, 3, 4, 5, 6]) 8 9) ∧
      (placedAt 7).mgmt.openTable = none ∧ (opened 3 [] []).mgmt.openTable = some 3 ∧
      [16, 20, 6, 8, 11, 24].getD (3 - 1) 0 ≤ dataByte [9, 6, 1, 2, 3, 4, 5, 6] 1 ∧
      dataByte [9, 5, 1, 2, 3, 4, 5, 6] 1 < [16, 20, 6, 8, 11, 24].getD (3 - 1) 0 :=
  ⟨fun n => takes_request rfl rfl 9 _ 2 (by simp), by decide, by decide, by decide, by decide,
    fun i => takes_request rfl rfl 9 _ 8 (by simp), rfl, rfl, by decide, by decide⟩

/-- A table open with every segment and the buffer holding it. -/
def loadedWith (n : Nat) (table : Table) : State :=
  opened n (List.range 24) (table ++ List.replicate (144 - table.length) 0)

/-- T3 open with every segment and a valid buffer; with a segment missing; with the roll monitor at work; with a field out of
range; and T2 under the calibration lock. -/
theorem test_witness_ActivationIsJudgedInOrder :
    let buffer := t3Default ++ List.replicate 112 0
    let s := opened 3 [0, 1, 2, 3, 4, 5] buffer
    let locked := (loadedWith 2 t2Default).onStore fun t => { t with protForce := 0x7FFF }
    (∀ n, TakesRequest s (req [9, n]) 2 9) ∧ dataByte [9, 3] 1 = 3 ∧ dataByte [9, 0] 1 < 1 ∧ 6 < dataByte [9, 7] 1 ∧
      s.mgmt.openTable = some 3 ∧ s.mgmt.openTable ≠ some 2 ∧
      (∀ i, i < [16, 20, 6, 8, 11, 24].getD (3 - 1) 0 → i ∈ s.mgmt.segments) ∧
      5 ∉ (opened 3 [0, 1, 2, 3, 4] buffer).mgmt.segments ∧ locked.mgmt.openTable = some 2 ∧
      (∀ i, i < [16, 20, 6, 8, 11, 24].getD (2 - 1) 0 → i ∈ locked.mgmt.segments) ∧ lockInForce locked = true ∧
      s.roll.state = .idle ∧ (s.onRoll fun r => { r with state := .intervene }).roll.state ≠ .idle ∧
      tableCheck 3 (s.mgmt.buffer.take 32) = none ∧ tableCheck 3 ((t3Default.set 0 2).take 32) = some 0 :=
  ⟨fun n => takes_request rfl rfl 9 _ 2 (by simp), by decide +kernel⟩

/-- T1, T2, T4, T5 and T6 loaded valid and allowed; a session at a position that T4 disables; a channel with a halt pending whose
count is below the threshold; and a channel at it. -/
theorem test_witness_ActivationsTakeEffect :
    let off := t4Default.set 22 0 |>.set 23 0
    let s := learning 7 (loadedWith 4 off)
    ((loadedWith 1 t1Default).mgmt.buffer.take 96 = t1Default ∧ (loadedWith 2 workedT2).mgmt.buffer.take 120 = workedT2 ∧
      (loadedWith 4 off).mgmt.buffer.take 48 = off ∧ (loadedWith 5 (t5Default.set 3 1)).mgmt.buffer.take 64 = t5Default.set 3 1 ∧
      (loadedWith 6 t6Default).mgmt.buffer.take 144 = t6Default) ∧ tableCheck 4 off = none ∧
      s.tyres.session.isSome = true ∧ t4PositionEnabled off 5 = false ∧ s.mgmt.queue.length ≤ 4 ∧
      (chan (loadedWith 1 t1Default) 0).haltPending = none ∧
      (chan ((loadedWith 1 t1Default).onChannel 0 fun r => { r with haltPending := some ⟨0, 8⟩ }) 0).errors <
        t1Threshold t1Default := by decide +kernel

/-- R38, R120 and R16 by hand: an activated T1 leaves its channels in START or FAULTED; a T4 disables a position and cancels a
session there; and a T2 gives an INVALID estimate its fallback ratio. -/
theorem test_activations :
    let go := fun (n : Byte) s => after (.activateTable (req [9, n])) s
    let one := fun e => chan (arbiterTakesT1 ((placedAt 7).onChannel 0 fun r => { r with state := .active, errors := e })) 0
    let four := go 4 (learning 7 (loadedWith 4 (t4Default.set 22 0 |>.set 23 0)))
    (one 2).state = .start ∧ (one 3).state = .faulted ∧ (tyre four 5).state = .disabled ∧ four.tyres.session = none ∧
      four.mgmt.queue.length = 2 ∧ (estimate (go 2 (loadedWith 2 workedT2)) .a).ratio = 4096 := by decide +kernel

/-- The last column of the requests' checks, at once: T1, T2, T4, T5 and T6 may be activated at rest. -/
theorem test_activation_conditions_at_rest :
    vehicleSpeed (placedAt 7) = none ∧ demandLevel (placedAt 7) ≤ 30 ∧ (placedAt 7).load.a.freeze = false ∧
      (placedAt 7).load.b.freeze = false ∧ (placedAt 7).tyres.session = none ∧
      tableCheck 5 (t5Default.set 3 1) = none := by decide +kernel

/-! ### Table store -/

/-- The part with a protection word in force and stored. -/
def protectedBy (w : BitVec 16) (s : State) : State := s.onStore fun t => { t with protForce := w, protStored := w }

theorem test_witness_StoreRequestsAreJudgedInOrder :
    (∀ n, TakesRequest (placedAt 7) (req [9, n]) 2 9) ∧ TakesRequest (placedAt 7) (req [9]) 1 9 ∧
      (∀ x y, TakesRequest (placedAt 7) (req [9, x, y]) 3 9) ∧ TakesRequest (storeWriting 7) (req [9]) 1 9 ∧
      4 < dataByte [9, 5] 1 ∧ dataByte [9, 4] 1 = (4 : Fin 5).val ∧ (storeWriting 7).store.state ≠ .idle ∧
      (placedAt 7).store.state = .idle ∧ blockProtected (protectedBy 0xFFEF (placedAt 7)) 4 = true ∧
      blockProtected (placedAt 7) 4 = false ∧ blockProtected (protectedBy 0xFFDF (placedAt 7)) 5 = true ∧
      lockInForce (protectedBy 0x7FFF (placedAt 7)) = true ∧ lockInForce (placedAt 7) = false ∧
      vehicleSpeed (withInput 12 200 (placedAt 7)) = some 200 ∧ vehicleSpeed (withInput 12 199 (placedAt 7)) = some 199 ∧
      (placedAt 7).store.protStored.getLsbD 15 = true ∧
      (protectedBy 0x7FFF (placedAt 7)).store.protStored.getLsbD 15 = false ∧ 64 ≤ dataWord [9, 0, 64] 1 ∧
      dataWord [9, 0, 63] 1 < 64 :=
  ⟨fun n => takes_request rfl rfl 9 _ 2 (by simp), takes_request rfl rfl 9 _ 1 (by simp),
    fun x y => takes_request rfl rfl 9 _ 3 (by simp), takes_request rfl rfl 9 _ 1 (by simp), by decide +kernel⟩

/-- The store after an operation with work waiting. -/
def endedWith (pending : Quad Nat) (waiting : Bool) : State :=
  ((placedAt 300).onStore fun t => { t with state := .writing, ended := true, pendingTally := pending }).onTyres fun t =>
    { t with waiting := waiting }

theorem test_witness_StoreOperationsEndAndWaitingWorkStarts :
    StoreInv (storeWriting 300) ∧ StoreInv erasing ∧ StoreInv (programming 3) ∧ StoreInv protecting ∧
      StoreInv (endedWith ⟨0, 0, 255, 1⟩ false) ∧ StoreInv (endedWith ⟨0, 0, 0, 0⟩ true) ∧
      erasing.store.state = .erasing ∧ erasing.store.ended = false ∧ (programming 3).store.tally = some 3 ∧
      protecting.store.newWord = some 0xFFFE ∧ (endedWith ⟨0, 0, 255, 1⟩ false).store.ended = true ∧
      quadGet (endedWith ⟨0, 0, 255, 1⟩ false).store.pendingTally 2 ≠ 0 ∧
      (∀ j, j < (2 : Fin 4) → quadGet (endedWith ⟨0, 0, 255, 1⟩ false).store.pendingTally j = 0) ∧
      tallyValue (endedWith ⟨0, 0, 255, 1⟩ false).store.nv 2 < 512 ∧
      (endedWith ⟨0, 0, 0, 0⟩ true).tyres.waiting = true ∧
      (∀ k, quadGet (endedWith ⟨0, 0, 0, 0⟩ true).store.pendingTally k = 0) ∧
      blockProtected (endedWith ⟨0, 0, 0, 0⟩ true) 3 = false ∧
      blockProtected (protectedBy 0xFFF7 (endedWith ⟨0, 0, 0, 0⟩ true)) 3 = true :=
  ⟨store_writing_inv 300, store_inv_of rfl (by decide) rfl (by decide) (by decide) (by decide) (by decide),
    store_inv_of rfl (by decide) rfl (by decide) (by decide) (by decide) (by decide),
    store_inv_of rfl (by decide) rfl (by decide) (by decide) (by decide) (by decide),
    store_inv_of rfl (by decide) rfl (by decide) (by decide) (by decide) (by decide),
    store_inv_of rfl (by decide) rfl (by decide) (by decide) (by decide) (by decide), by decide +kernel⟩

/-- A request with the store IDLE and with it busy, and an erase in progress; and, with the lock in force, a tally bit being
programmed (R177). -/
theorem test_witness_TalliesAndTheLockAreKept :
    let s := (protectedBy 0x7FFF (programming 0)).withPending [.tallyBitProgrammed]
    StoreInv s ∧ s.store.state ≠ .erasing ∧ LockHolds s ∧
      exec .tallyBitProgrammed s = .next (after .tallyBitProgrammed s) ∧
      step s = .next (after .tallyBitProgrammed (s.withPending [])) ∧ (placedAt 7).store.state = .idle ∧
      tallyValue (placedAt 7).store.nv 0 < 512 ∧ (programming 0).store.state ≠ .idle ∧ erasing.store.state = .erasing :=
  ⟨store_inv_of rfl (by decide) rfl (by decide) (by decide) (by decide) (by decide), by decide,
    ⟨by decide, by decide, nofun, nofun, by decide⟩, rfl, rfl, by decide +kernel⟩

/-- R176 and log 23: a request for a tally of 512 is discarded, and waits while an erase runs. -/
theorem test_full_tally :
    let full := fun (s : State) => s.onStore fun t =>
      { t with nv := (List.range 64).map fun k => (1280 + k, 0) }
    tallyValue (full (placedAt 7)).store.nv 0 = 512 ∧ (requestTally 0 (full (placedAt 7))).store.discarded = 1 ∧
      quadGet (requestTally 0 (full erasing)).store.pendingTally 0 = 1 := by decide +kernel

/-! ### Invariants -/

/-- The part with one command waiting. -/
def waitingOne (s : State) : State := s.withPending [.statusTimerExpiry]

theorem test_witness_StepsKeepTheTablesAndTheStore :
    TablesInv (waitingOne (storeWriting 300)) ∧ StoreInv (waitingOne (storeWriting 300)) ∧
      step (waitingOne (storeWriting 300)) = .next (after .statusTimerExpiry (storeWriting 300)) :=
  ⟨by unfold TablesInv; decide +kernel, store_writing_inv 300, rfl⟩

theorem test_witness_StepsKeepTheQueuesAndTheMap :
    QueueInv (waitingOne (placedAt 300)) ∧ MapInv (waitingOne (placedAt 300)) ∧
      step (waitingOne (placedAt 300)) = .next (after .statusTimerExpiry (placedAt 300)) := by
  refine ⟨by unfold QueueInv; decide +kernel, ⟨fun p q id h => ?_, fun p k u h => ?_⟩, rfl⟩
  · exact nomatch ((by decide : ∀ p, gridGet (placedAt 300).tyres.map p = none) p).symm.trans
      (h : gridGet (placedAt 300).tyres.map p = some id)
  · exact nomatch ((by decide : ∀ k, quadGet (placedAt 300).tyres.unknown k = none) k).symm.trans
      (h : quadGet (placedAt 300).tyres.unknown k = some u)

/-- Group A VALID at the worked figures. -/
def loaded : State :=
  (worked 300).onLoad fun l =>
    { l with
      a := { l.a with state := .valid, filter := some 2976, bellows := 186, load := 1673, ratio := 3711 }
      b := { l.b with ratio := 4096 } }

theorem test_witness_StepsKeepPressuresRollAndLoads :
    TablesInv loaded ∧ PressureInv (relayAs .held [] none) ∧ TablesInv (relayAs .held [] none) ∧ RollInv loaded ∧
      LoadInv loaded ∧ PressureInv loaded ∧ step (waitingOne loaded) = .next (after .statusTimerExpiry loaded) := by
  refine ⟨by unfold TablesInv; decide +kernel, pressure_inv_placed _ _ _, by unfold TablesInv; decide +kernel,
    by unfold RollInv; decide +kernel, fun g => ?_, pressure_inv_placed .held [] none, rfl⟩
  cases g
  · exact ⟨fun _ => ⟨2976, rfl, by decide, rfl, by decide, by decide⟩, nofun, by decide⟩
  · exact ⟨nofun, fun _ => by decide, by decide⟩

end Sys2Proof.Tests
end

section
/-! The braking characteristic (R17, R18): its factor, its value on either side of the onset, its bounds and its
monotonicity. -/

namespace Sys2Proof.Machine

open Sys2Proof

/-! ### Rounded products over 4096 -/

/-- A rounded product by at most 4096 / 4096 is at most what is multiplied. -/
theorem scaled_le {x k : Nat} (hk : k ≤ 4096) : (x * k + 2048) / 4096 ≤ x := by
  have : x * k ≤ x * 4096 := Nat.mul_le_mul_left x hk
  omega

theorem scaled_mono {x y k m : Nat} (hxy : x ≤ y) (hkm : k ≤ m) : (x * k + 2048) / 4096 ≤ (y * m + 2048) / 4096 := by
  have : x * k ≤ y * m := Nat.mul_le_mul hxy hkm
  omega

theorem scaled_full (x : Nat) : (x * 4096 + 2048) / 4096 = x := by omega

section Characteristic

variable (t : Table) (g : Group)

/-! ### The factor k (R17) -/

theorem characteristicFactor_ge (r : Nat) : t2EmptyRatio t g ≤ characteristicFactor t g r := Nat.le_add_right _ _

theorem characteristicFactor_le (hk : t2EmptyRatio t g ≤ 4096) {r : Nat} (hr : r ≤ 4096) :
    characteristicFactor t g r ≤ 4096 := by
  have := scaled_le (x := 4096 - t2EmptyRatio t g) hr
  unfold characteristicFactor
  omega

theorem characteristicFactor_mono {r r' : Nat} (h : r ≤ r') : characteristicFactor t g r ≤ characteristicFactor t g r' :=
  Nat.add_le_add_left (scaled_mono le_rfl h) _

/-! ### The pressure (R18) -/

theorem characteristicAt_below {r demand : Nat} (h : min demand 1000 ≤ t2Onset t g) :
    characteristicAt t g r demand = min demand 1000 := if_pos h

theorem characteristicAt_above {r demand : Nat} (h : t2Onset t g < min demand 1000) :
    characteristicAt t g r demand =
      t2Onset t g + ((min demand 1000 - t2Onset t g) * characteristicFactor t g r + 2048) / 4096 :=
  if_neg (Nat.not_le.mpr h)

theorem characteristicAt_le {r : Nat} (hk : characteristicFactor t g r ≤ 4096) (demand : Nat) :
    characteristicAt t g r demand ≤ min demand 1000 := by
  by_cases h : min demand 1000 ≤ t2Onset t g
  · exact (characteristicAt_below t g h).le
  · have := scaled_le (x := min demand 1000 - t2Onset t g) hk
    rw [characteristicAt_above t g (by omega)]
    omega

/-- The pressure does not decrease when the demand increases, or the factor, or both. -/
theorem characteristicAt_mono {r r' demand demand' : Nat} (hd : demand ≤ demand')
    (hk : characteristicFactor t g r ≤ characteristicFactor t g r') :
    characteristicAt t g r demand ≤ characteristicAt t g r' demand' := by
  by_cases h : min demand 1000 ≤ t2Onset t g
  · rw [characteristicAt_below t g h]
    by_cases h' : min demand' 1000 ≤ t2Onset t g
    · rw [characteristicAt_below t g h']
      omega
    · rw [characteristicAt_above t g (by omega)]
      omega
  · have step := scaled_mono (x := min demand 1000 - t2Onset t g) (y := min demand' 1000 - t2Onset t g) (by omega) hk
    rw [characteristicAt_above t g (by omega), characteristicAt_above t g (by omega)]
    omega

end Characteristic

/-- Settles O14: from the bounds of the factor, the two branches of the characteristic, and its monotonicity in the demand
and the factor together. -/
theorem characteristicIsBoundedAndMonotone : Obligations.CharacteristicIsBoundedAndMonotone := by
  intro t g _ hke r hr
  have hk := characteristicFactor_le t g hke hr
  refine ⟨⟨characteristicFactor_ge t g r, hk⟩, fun demand => ?_⟩
  have le := characteristicAt_le t g hk demand
  refine ⟨characteristicAt_below t g, characteristicAt_above t g, le.trans (Nat.min_le_right _ _), le, fun h => ?_,
    fun h => ?_, fun _ h => characteristicAt_mono t g h le_rfl,
    fun _ h _ => ⟨characteristicFactor_mono t g h, characteristicAt_mono t g le_rfl (characteristicFactor_mono t g h)⟩,
    fun _ _ h => characteristicAt_mono t g le_rfl h⟩
  · by_cases hb : min demand 1000 ≤ t2Onset t g
    · exact characteristicAt_below t g hb
    · rw [characteristicAt_above t g (by omega), h.resolve_left hb, scaled_full]
      omega
  · rw [characteristicAt_above t g h]
    exact Nat.le_add_right _ _

end Sys2Proof.Machine
end

section
/-! What a step can do, as a rule: a step leads from `P` to `Q` as soon as each operation that reaches beyond the side
parts of the state does. -/

namespace Sys2Proof.Machine

open Sys2Proof

/-! ### Requests by their owners (R168) -/

/-- The parts that a request reaches which is neither RESTART nor for the channels nor an activation. -/
def serviceParts : List Part := [.free, .tyres, .relay, .alerts, .mgmt, .store]

theorem answer_service (s : State) (code : Nat) (tag : Byte) (a : Answer) :
    ChangesOnly serviceParts s (answer code tag a s) :=
  (answer_touches s code tag a).within (by decide)

theorem readRecord_touches (tag : Byte) (kind number page : Nat) (s : State) :
    ChangesOnly serviceParts s (readRecord tag kind number page s) := by
  unfold readRecord
  split
  · exact ((placeEntry_touches s _).within (by decide)).andThen ((spend_touches _).within (by decide))
  · exact (answer_service s _ _ _).andThen ((spend_touches _).within (by decide))

theorem openTable_touches (tag : Byte) (t : Nat) (s : State) : ChangesOnly serviceParts s (openTable tag t s) :=
  ChangesOnly.ite _ (answer_after ((onMgmt_touches s _).within (by decide)) _ _ _ (by decide)) (answer_service s _ _ _)

theorem loadSegment_touches (tag : Byte) (i : Nat) (bytes : List Byte) (s : State) :
    ChangesOnly serviceParts s (loadSegment tag i bytes s) := by
  unfold loadSegment
  split
  · exact answer_service s _ _ _
  · exact ChangesOnly.ite _ (answer_after ((onMgmt_touches s _).within (by decide)) _ _ _ (by decide))
      (answer_service s _ _ _)

/-- A store operation that a request starts: its tag is held and ACCEPTED is answered (R168). -/
theorem startStore_touches {s t : State} (h : ChangesOnly serviceParts s t) (code : Nat) (tag : Byte) :
    ChangesOnly serviceParts s (answer code tag .accepted (holdStoreTag code tag t)) :=
  answer_after (h.andThen ((holdStoreTag_touches t code tag).within (by decide))) _ _ _ (by decide)

theorem storeBlock_touches (tag : Byte) (n : Nat) (s : State) : ChangesOnly serviceParts s (storeBlock tag n s) := by
  unfold storeBlock
  split
  · exact ChangesOnly.ite _ (answer_service s _ _ _) (ChangesOnly.ite _ (answer_service s _ _ _)
      (startStore_touches ((startWrite_touches s _).within (by decide)) _ _))
  · exact answer_service s _ _ _

theorem eraseTallies_touches (tag : Byte) (s : State) : ChangesOnly serviceParts s (eraseTallies tag s) :=
  ChangesOnly.ite _ (answer_service s _ _ _) (ChangesOnly.ite _ (answer_service s _ _ _)
    (startStore_touches ((startErase_touches s).within (by decide)) _ _))

theorem setProtection_touches (tag : Byte) (mask : Nat) (s : State) :
    ChangesOnly serviceParts s (setProtection tag mask s) :=
  ChangesOnly.ite _ (answer_service s _ _ _) (ChangesOnly.ite _ (answer_service s _ _ _)
    (ChangesOnly.ite _ (answer_service s _ _ _) (startStore_touches ((startProtect_touches s _).within (by decide)) _ _)))

theorem refreshProtection_touches (tag : Byte) (s : State) : ChangesOnly serviceParts s (refreshProtection tag s) :=
  ChangesOnly.ite _ (answer_service s _ _ _)
    (answer_after ((onStore_touches s _).within (by decide)) _ _ _ (by decide))

theorem lockCalibration_touches (tag : Byte) (s : State) : ChangesOnly serviceParts s (lockCalibration tag s) :=
  ChangesOnly.ite _ (answer_service s _ _ _) (ChangesOnly.ite _ (answer_service s _ _ _)
    (ChangesOnly.ite _ (answer_service s _ _ _) (startStore_touches ((startProtect_touches s _).within (by decide)) _ _)))

theorem clearCapture_touches (tag : Byte) (s : State) : ChangesOnly serviceParts s (clearCapture tag s) :=
  answer_after ((emptyCapture_touches s).within (by decide)) _ _ _ (by decide)

/-- Everything a request passed to its owner can do: it stays within the service parts, or it is a request to a channel, an
activation or RESTART. -/
theorem passRequest_cases (code : Nat) (tag : Byte) (data : List Byte) (s : State) :
    ChangesOnly serviceParts s (passRequest code tag data s) ∨
    (∃ n p, passRequest code tag data s = haltChannel tag n p s) ∨
    (∃ n, passRequest code tag data s = runChannel tag n s) ∨
    (∃ n, passRequest code tag data s = clearChannel tag n s) ∨
    (∃ n, passRequest code tag data s = activateTable tag n s) ∨ passRequest code tag data s = restart tag s := by
  unfold passRequest
  split
  case h_1 => exact .inl (readRecord_touches _ _ _ _ s)
  case h_2 => exact .inl (openTable_touches _ _ s)
  case h_3 => exact .inl (loadSegment_touches _ _ _ s)
  case h_4 => exact .inr (.inr (.inr (.inr (.inl ⟨_, rfl⟩))))
  case h_5 => exact .inl (storeBlock_touches _ _ s)
  case h_6 => exact .inl (eraseTallies_touches _ s)
  case h_7 => exact .inl (setProtection_touches _ _ s)
  case h_8 => exact .inl (refreshProtection_touches _ s)
  case h_9 => exact .inl (lockCalibration_touches _ s)
  case h_10 => exact .inr (.inl ⟨_, _, rfl⟩)
  case h_11 => exact .inr (.inr (.inl ⟨_, rfl⟩))
  case h_12 => exact .inr (.inr (.inr (.inl ⟨_, rfl⟩)))
  case h_13 => exact .inl (clearCapture_touches _ s)
  case h_14 => exact .inl ((learnPosition_touches s _ _ _).within (by decide))
  case h_15 => exact .inl ((cancelLearn_touches s _).within (by decide))
  case h_16 => exact .inl ((isolateRear_touches s _).within (by decide))
  case h_17 => exact .inl ((resumeRear_touches s _).within (by decide))
  case h_18 => exact .inr (.inr (.inr (.inr (.inr rfl))))
  case h_19 => exact .inl (ChangesOnly.nothing _ s)

/-! ### The rule of a step -/

/-- The parts that any operation may reach without regard to `P` and `Q`: all but the tables in force, the sample port, the
estimator, the arbiter, the air supervisor, the roll monitor and the link record. -/
def sideParts : List Part :=
  [.power, .line, .straps, .clock, .free, .queue, .valve, .rx, .tyres, .relay, .alerts, .mgmt, .store]

/-- A step leads from `P` to `Q`: what each operation that reaches beyond the side parts has to show. -/
structure StepRule (P Q : State → Prop) : Prop where
  weaken : ∀ {s}, P s → Q s
  frameP : ∀ {s t}, ChangesOnly sideParts s t → P s → P t
  frameQ : ∀ {s t}, ChangesOnly sideParts s t → Q s → Q t
  powered : ∀ nv prot s, Q (poweredState nv prot s)
  reset : ∀ {s}, P s → Q (functionalReset s)
  release : ∀ {s}, P s → Q (releaseResetLine s)
  sampleSet : ∀ bytes {s}, P s → Q (takeSet bytes s)
  countSet : ∀ {s}, P s → ∀ f, (∀ p : SamplePort, (f p).inputs = p.inputs) → Q (s.onSample f)
  sampleLoss : ∀ {s}, P s → Q (declareLoss s)
  refresh : ∀ {s}, P s → Q (computeCommands s)
  status : ∀ bytes c {s}, P s → P (examineStatus bytes s c)
  hold : ∀ c {s}, P s → Q (holdTimerExpiry c s)
  rollTimer : ∀ {s}, P s → Q (rollTimerExpiry s)
  error : ∀ c {s}, P s → P (errorEvent c s)
  demandFrame : ∀ data {s}, P s → Q (takeDemand data s)
  positionFrame : ∀ data {s}, P s → Q (takePosition data s)
  demandTimer : ∀ {s}, P s → Q (demandTimerExpiry s)
  rearwardTimer : ∀ {s}, P s → Q (rearwardTimerExpiry s)
  halt : ∀ tag n p {s}, P s → Q (haltChannel tag n p s)
  run : ∀ tag n {s}, P s → Q (runChannel tag n s)
  clear : ∀ tag n {s}, P s → Q (clearChannel tag n s)
  activate : ∀ n {s}, P s → activationRefusal n s = none → Q (installTable n (s.mgmt.buffer.take (tableSize n)) s)

namespace StepRule

variable {P Q : State → Prop} (R : StepRule P Q) {s : State}

include R

theorem side {t : State} {ps : List Part} (h : ChangesOnly ps s t) (hps : ps ⊆ sideParts) (hs : P s) : Q t :=
  R.weaken (R.frameP (h.within hps) hs)

theorem answered (code : Nat) (tag : Byte) (a : Answer) (hs : Q s) : Q (answer code tag a s) :=
  R.frameQ ((answer_touches s code tag a).within (by decide)) hs

theorem activateTable (tag : Byte) (n : Nat) (hs : P s) : Q (activateTable tag n s) := by
  unfold Machine.activateTable
  split
  · exact R.answered _ _ _ (R.weaken hs)
  · next h => exact R.answered _ _ _ (R.frameQ ((onMgmt_touches _ _).within (by decide)) (R.activate n hs h))

theorem restart (tag : Byte) (hs : P s) : Q (restart tag s) := by
  unfold Machine.restart
  split
  · exact R.answered _ _ _ (R.weaken hs)
  · exact R.reset (R.frameP ((answer_touches s _ _ _).within (by decide)) hs)

theorem passRequest (code : Nat) (tag : Byte) (data : List Byte) (hs : P s) : Q (passRequest code tag data s) := by
  obtain h | ⟨n, p, h⟩ | ⟨n, h⟩ | ⟨n, h⟩ | ⟨n, h⟩ | h := passRequest_cases code tag data s
  · exact R.side h (by decide) hs
  · exact h ▸ R.halt tag n p hs
  · exact h ▸ R.run tag n hs
  · exact h ▸ R.clear tag n hs
  · exact h ▸ R.activateTable tag n hs
  · exact h ▸ R.restart tag hs

theorem engineTakes (f : CanFrame) (hs : P s) : Q (engineTakes f s) := by
  have mgmt : ∀ {t : State} (g : Mgmt → Mgmt), P t → P (t.onMgmt g) := fun g =>
    R.frameP ((onMgmt_touches _ g).within (by decide))
  unfold Machine.engineTakes judgeRequest
  dsimp only
  split
  · split
    · exact R.answered _ _ _ (R.weaken (mgmt _ (mgmt _ hs)))
    · split
      · exact R.answered _ _ _ (R.weaken (mgmt _ (mgmt _ hs)))
      · split
        · exact R.answered _ _ _ (R.weaken (mgmt _ hs))
        · exact R.passRequest _ _ _ (mgmt _ hs)
  · exact R.weaken (mgmt _ (mgmt _ hs))

theorem handleRequest (f : CanFrame) (hs : P s) : Q (handleRequest f s) := by
  unfold Machine.handleRequest
  split
  · exact R.frameQ ((onRelay_touches _ _).within (by decide)) (R.engineTakes f hs)
  · split
    · exact R.engineTakes f hs
    · split
      · exact R.side (onRelay_touches s _) (by decide) hs
      · exact R.side (onRelay_touches s _) (by decide) hs

theorem counted (p : Port) (hs : P s) : P (countArrival p s) :=
  R.frameP ((countArrival_touches s p).within (by decide)) hs

theorem requestArrival (code : Nat) (q : ReqFrame) (hs : P s) : Q (requestArrival code q s) :=
  R.handleRequest _ (R.counted .front hs)

theorem frameArrival (p : Port) (f : CanFrame) (hs : P s) : Q (frameArrival p f s) := by
  have relay : ∀ {t : State} (g : Relay → Relay), P t → Q (t.onRelay g) := fun g =>
    R.side (onRelay_touches _ g) (by decide)
  cases p with
  | front =>
    have hc := R.counted .front hs
    simp only [Machine.frameArrival, arriveFront]
    split
    · unfold handleFront
      split
      case h_2 => exact R.demandFrame _ hc
      case h_3 => exact R.positionFrame _ hc
      case h_6 => exact R.handleRequest _ hc
      all_goals exact relay _ hc
    · exact relay _ hc
  | rear =>
    have hc := R.counted .rear hs
    simp only [Machine.frameArrival, arriveRear]
    split
    · exact relay _ hc
    · split
      · unfold handleRear
        split <;> exact relay _ hc
      · exact relay _ hc

theorem sampleSetArrival (bytes : List Byte) (hs : P s) : Q (sampleSetArrival bytes s) := by
  unfold Machine.sampleSetArrival
  split
  · exact R.weaken hs
  · split
    · exact R.countSet hs _ fun _ => rfl
    · split
      · exact R.countSet hs _ fun _ => rfl
      · exact R.sampleSet bytes hs

theorem lossTimerExpiry (hs : P s) : Q (lossTimerExpiry s) := by
  unfold Machine.lossTimerExpiry
  split
  · exact R.sampleLoss hs
  · exact R.weaken hs

theorem refreshDue (hs : P s) : Q (refreshDue s) := by
  unfold Machine.refreshDue
  split
  · exact R.frameQ ((onValve_touches _ _).within (by decide)) (R.refresh hs)
  · exact R.weaken hs

theorem driverStatusRecord (bytes : List Byte) (hs : P s) : Q (driverStatusRecord bytes s) := by
  have valve : ∀ f, P (s.onValve f) := fun f => R.frameP ((onValve_touches s f).within (by decide)) hs
  unfold Machine.driverStatusRecord
  split
  · exact R.weaken (foldl_keeps P _ _ (fun _ c _ ht => R.status bytes c ht) _ (valve _))
  · exact R.weaken (valve _)

theorem checkTimerExpiry (hs : P s) : Q (checkTimerExpiry s) := by
  have tyres : ∀ {t : State} (f : Tyres → Tyres), P t → P (t.onTyres f) := fun f =>
    R.frameP ((onTyres_touches _ f).within (by decide))
  have raised : ∀ {t : State} (c : Cause) (sub : Subject) (v : Nat), P t → P (raiseAlert c sub v t) := fun c sub v =>
    R.frameP ((raiseAlert_touches _ c sub v).within (by decide))
  have lost : ∀ t p, P t → P (checkLost t p) := by
    intro t p ht
    unfold checkLost
    dsimp only
    split
    · exact tyres _ (raised _ _ _ (tyres _ ht))
    · exact ht
  have drag : ∀ t p, P t → P (checkDrag t p) := by
    intro t p ht
    unfold checkDrag
    split
    · split
      · exact tyres _ (raised _ _ _ (R.error _ ht))
      · exact ht
    · exact ht
  have run : ∀ t, P t → P (endZeroRun t) := by
    intro t ht
    unfold endZeroRun
    split
    · exact tyres _ ht
    · exact ht
  unfold Machine.checkTimerExpiry
  dsimp only
  split
  · refine R.weaken (foldl_keeps P checkDrag _ (fun t p _ => drag t p) _ (tyres _ ?_))
    exact foldl_keeps P checkLost _ (fun t p _ => lost t p) _ (run _ (tyres _ hs))
  · exact R.weaken hs

/-- Every command that a part without supply does not take. -/
theorem effect {c : Instr} {f : State → State} (h : effectOf c = some f) (hs : P s) : Q (f s) := by
  cases c <;> simp only [effectOf, reduceCtorEq, Option.some.injEq] at h <;> subst h
  case sampleSetArrival b => exact R.sampleSetArrival b hs
  case lossTimerExpiry => exact R.lossTimerExpiry hs
  case valveRecordSent => exact R.side (valveRecordSent_touches s) (by decide) hs
  case pendingRecordTransmit => exact R.side (pendingRecordTransmit_touches s) (by decide) hs
  case refreshDue => exact R.refreshDue hs
  case driverStatusRecord b => exact R.driverStatusRecord b hs
  case holdTimerExpiry c => exact R.hold c hs
  case rollTimerExpiry => exact R.rollTimer hs
  case syncMatch b => exact R.side (takeBit_touches s b) (by decide) hs
  case telegramComplete b => exact R.side (takeBit_touches s b) (by decide) hs
  case telegramEntryTaken => exact R.side (telegramEntryTaken_touches s) (by decide) hs
  case checkTimerExpiry => exact R.checkTimerExpiry hs
  case learnTimerExpiry => exact R.side (learnTimerExpiry_touches s) (by decide) hs
  case frameArrival p f => exact R.frameArrival p f hs
  case demandFrame f => exact R.demandFrame _ (R.counted .front hs)
  case positionFrame f => exact R.positionFrame _ (R.counted .front hs)
  case demandTimerExpiry => exact R.demandTimer hs
  case rearwardTimerExpiry => exact R.rearwardTimer hs
  case frontHandover => exact R.side (frontHandover_touches s) (by decide) hs
  case frontHandoverOutcome a => exact R.side (frontHandoverOutcome_touches s a) (by decide) hs
  case rearHandover => exact R.side (rearHandover_touches s) (by decide) hs
  case rearHandoverOutcome a => exact R.side (rearHandoverOutcome_touches s a) (by decide) hs
  case statusTimerExpiry => exact R.side (statusTimerExpiry_touches s) (by decide) hs
  case blockWriteComplete => exact R.side (blockWriteComplete_touches s) (by decide) hs
  case tallyEraseComplete => exact R.side (tallyEraseComplete_touches s) (by decide) hs
  case tallyBitProgrammed => exact R.side (tallyBitProgrammed_touches s) (by decide) hs
  case pendingTallyStart => exact R.side (pendingTallyStart_touches s) (by decide) hs
  case waitingBlock3StoreStart => exact R.side (waitingBlock3StoreStart_touches s) (by decide) hs
  case protectionWordProgrammed => exact R.side (protectionWordProgrammed_touches s) (by decide) hs
  case bitTaken b => exact R.side (takeBit_touches s b) (by decide) hs
  all_goals exact R.requestArrival _ _ hs

theorem powerOn : Q (powerOn s) :=
  R.frameQ ((raiseLoad_touches _ _).within (by decide)) (R.powered _ _ s)

theorem losePower (hs : P s) : Q (losePower s) := by
  unfold Machine.losePower
  split
  · refine R.frameQ (fun p hp => ?_) (R.powered (nvAfterLoss s) (protectionAfterLoss s) s)
    cases p
    case power => exact absurd (by decide) hp
    all_goals rfl
  · exact R.weaken hs

/-- A change of the RESET line's level alone. -/
theorem lineSet (level : Bool) (hs : P s) : P { s with resetLine := level } :=
  R.frameP (fun p hp => by
    cases p
    case line => exact absurd (by decide) hp
    all_goals rfl) hs

theorem assertResetLine (hs : P s) : Q (assertResetLine s) := by
  unfold Machine.assertResetLine
  split
  · exact R.weaken hs
  · exact R.reset (R.lineSet true hs)

/-- Every command. -/
theorem exec {c : Instr} {t : State} (h : exec c s = .next t) (hs : P s) : Q t := by
  obtain ⟨-, ht⟩ | ⟨-, ht⟩ | ⟨-, ht⟩ | ⟨-, ht⟩ | ⟨b, -, ht⟩ | ⟨f, hf, ht⟩ := exec_cases h <;> rw [ht]
  · exact R.powerOn
  · exact R.losePower hs
  · split
    · exact R.assertResetLine hs
    · exact R.weaken (R.lineSet true hs)
  · split
    · exact R.release hs
    · exact R.weaken (R.lineSet false hs)
  · split
    · exact R.side (carrierChange_touches s b) (by decide) hs
    · exact R.side (onRx_touches s _) (by decide) hs
  · split
    · exact R.effect hf hs
    · exact R.weaken hs

/-- Every step. -/
theorem step {t : State} (h : step s = .next t) (hs : P s) : Q t := by
  obtain ⟨-, rfl⟩ | ⟨c, rest, -, hx⟩ := step_cases h
  · exact R.side (idleTick_touches s) (by decide) hs
  · exact R.exec hx (R.frameP ((withPending_touches s rest).within (by decide)) hs)

end StepRule

end Sys2Proof.Machine
end

section
/-! The roll monitor's account (R63 to R82): what its entries leave, and that every step keeps it. -/

namespace Sys2Proof.Machine

open Sys2Proof

/-! ### The account of a roll record -/

/-- `RollInv` of a roll record and the amount that the air supervisor's commitment list holds. -/
def RollAccount (r : Roll) (held : Option Nat) : Prop :=
  (r.state = .idle ∨ r.state = .watch → ∀ c, quadGet r.contributions c = 0) ∧
    (r.state = .idle ∨ r.state = .test ∨ r.state = .watch → r.stretch = 0) ∧
    (r.state = .idle ∨ r.state = .recover → r.timer = none) ∧
    (r.state = .test ∨ r.state = .watch → r.timer.isSome = true) ∧
    (r.testSide.isSome = true ↔ r.state = .test) ∧ (r.commitment.isSome = true ↔ r.state = .test) ∧ held = r.commitment

theorem rollInv_iff (s : State) : RollInv s ↔ RollAccount s.roll (s.air.commitment.map fun e => e.amount) := Iff.rfl

/-- No test is under way: no test side, and no commitment at the roll monitor or the air supervisor. -/
def NoTest (s : State) : Prop := s.roll.testSide = none ∧ s.roll.commitment = none ∧ s.air.commitment = none

theorem RollInv.noTest {s : State} (h : RollInv s) (hs : s.roll.state ≠ .test) : NoTest s := by
  obtain ⟨-, -, -, -, hside, hcommit, hheld⟩ := h
  have hc : s.roll.commitment = none := by simpa using mt hcommit.mp hs
  refine ⟨by simpa using mt hside.mp hs, hc, ?_⟩
  simpa [hc] using hheld

theorem RollInv.frame {s t : State} {ps : List Part} (h : ChangesOnly ps s t) (ha : Part.air ∉ ps) (hr : Part.roll ∉ ps)
    (hs : RollInv s) : RollInv t := by
  have hair : t.air = s.air := h .air ha
  have hroll : t.roll = s.roll := h .roll hr
  rw [rollInv_iff, hair, hroll]
  exact hs

/-- What the monitor notes beside the account: thresholds, the suspension and the counts. -/
theorem RollInv.noted {s : State} (f : Roll → Roll) (hf : ∀ r held, RollAccount r held → RollAccount (f r) held)
    (hs : RollInv s) : RollInv (s.onRoll f) := hf _ _ hs

/-- The account from a state in which no test is under way, for a record outside TEST. -/
theorem rollInv_of_noTest {s : State} (h : NoTest s) (hs : s.roll.state ≠ .test)
    (hzero : s.roll.state = .idle ∨ s.roll.state = .watch →
      (∀ c, quadGet s.roll.contributions c = 0) ∧ s.roll.stretch = 0)
    (htimer : s.roll.state = .idle ∨ s.roll.state = .recover → s.roll.timer = none)
    (hwatch : s.roll.state = .watch → s.roll.timer.isSome = true) : RollInv s := by
  obtain ⟨hside, hcommit, hair⟩ := h
  refine ⟨fun hx => (hzero hx).1, ?_, htimer, ?_, ?_, ?_, ?_⟩
  · rintro (hx | hx | hx)
    · exact (hzero (.inl hx)).2
    · exact absurd hx hs
    · exact (hzero (.inr hx)).2
  · rintro (hx | hx)
    · exact absurd hx hs
    · exact hwatch hx
  · simp [hside, hs]
  · simp [hcommit, hs]
  · simp [hcommit, hair]

/-! ### Entries -/

/-- Leaving the state one is in ends a test and keeps the rest of the record (R76). -/
theorem leaveTest_noTest {s : State} (h : RollInv s) : NoTest (leaveTest s) := by
  unfold leaveTest
  split
  · exact ⟨rfl, rfl, rfl⟩
  · next hs => exact h.noTest hs

theorem goIdle_keeps_roll {s : State} (h : RollInv s) : RollInv (goIdle s) :=
  rollInv_of_noTest (leaveTest_noTest h) nofun (fun _ => ⟨quadGet_const 0, rfl⟩) (fun _ => rfl) nofun

theorem goWatch_keeps_roll {s : State} (h : RollInv s) : RollInv (goWatch s) :=
  rollInv_of_noTest (leaveTest_noTest h) nofun (fun _ => ⟨quadGet_const 0, rfl⟩) nofun (fun _ => rfl)

theorem goIntervene_keeps_roll {s : State} (h : RollInv s) : RollInv (goIntervene s) := by
  unfold goIntervene
  refine RollInv.frame (requestTally_touches _ _) (by decide) (by decide)
    (RollInv.frame (raiseAlert_touches _ _ _ _) (by decide) (by decide) ?_)
  exact rollInv_of_noTest (leaveTest_noTest h) nofun nofun nofun nofun

/-- RECOVER is entered from INTERVENE, in which no test is under way (R79). -/
theorem goRecover_keeps_roll {s : State} (h : RollInv s) (hs : s.roll.state = .intervene) : RollInv (goRecover s) :=
  rollInv_of_noTest (h.noTest (by simp [hs])) nofun nofun (fun _ => rfl) nofun

theorem withholdTest_keeps_roll {s : State} (h : RollInv s) : RollInv (withholdTest s) :=
  (goIdle_keeps_roll h).noted _ fun _ _ hr => hr

theorem abortToIdle_keeps_roll {s : State} (h : RollInv s) : RollInv (abortToIdle s) :=
  goIdle_keeps_roll (h.noted _ fun _ _ hr => hr)

/-! ### Trying a test -/

/-- What a commitment request can answer: refused, the list stays; granted, it was empty and holds the amount (R95). -/
theorem requestCommitment_cases (sd : Side) (cs : List Channel) (s : State) :
    ((requestCommitment sd cs s).2 = none ∧ (requestCommitment sd cs s).1.air.commitment = s.air.commitment) ∨
    ∃ amount, (requestCommitment sd cs s).2 = some amount ∧ s.air.commitment = none ∧
      (requestCommitment sd cs s).1.air.commitment.map (fun e => e.amount) = some amount := by
  unfold requestCommitment
  dsimp only
  split
  · exact .inl ⟨rfl, rfl⟩
  · next hempty =>
    split
    · exact .inl ⟨rfl, rfl⟩
    · split
      · exact .inl ⟨rfl, rfl⟩
      · exact .inr ⟨_, rfl, by simpa using hempty, rfl⟩

theorem goTest_keeps_roll {s : State} {inner : Side} {amount : Nat}
    (h : s.air.commitment.map (fun e => e.amount) = some amount) : RollInv (goTest inner amount s) :=
  ⟨nofun, fun _ => rfl, nofun, fun _ => rfl, ⟨fun _ => rfl, fun _ => rfl⟩, ⟨fun _ => rfl, fun _ => rfl⟩, h⟩

theorem tryTest_keeps_roll {s : State} (h : RollInv s) : RollInv (tryTest s) := by
  unfold tryTest
  split
  · next inner _ =>
    split
    · have hroll : (requestCommitment inner (channelsOfSide s inner) s).1.roll = s.roll :=
        requestCommitment_touches s inner (channelsOfSide s inner) .roll (by decide)
      have hcases := requestCommitment_cases inner (channelsOfSide s inner) s
      generalize requestCommitment inner (channelsOfSide s inner) s = answered at hroll hcases
      obtain ⟨s', _ | amount⟩ := answered
      · obtain ⟨-, hair⟩ | ⟨_, hsome, -⟩ := hcases
        · exact withholdTest_keeps_roll (by rw [rollInv_iff, hroll, hair]; exact h)
        · simp at hsome
      · obtain ⟨hnone, -⟩ | ⟨_, hsome, -, hair⟩ := hcases
        · simp at hnone
        · exact goTest_keeps_roll (hair.trans hsome.symm)
    · exact withholdTest_keeps_roll h
  · exact withholdTest_keeps_roll h

/-! ### The rules of the states -/

theorem idleStep_keeps_roll {s : State} (h : RollInv s) : RollInv (idleStep s) := by
  unfold idleStep
  dsimp only
  split
  · split
    · exact goIntervene_keeps_roll h
    · split
      · exact tryTest_keeps_roll h
      · exact h
  · exact h

theorem testStep_keeps_roll {s : State} (h : RollInv s) : RollInv (testStep s) := by
  unfold testStep
  dsimp only
  split
  · split
    · exact goIntervene_keeps_roll (h.noted _ fun _ _ hr => hr)
    · split
      · exact goIntervene_keeps_roll h
      · split
        · exact goWatch_keeps_roll (h.noted _ fun _ _ hr => hr)
        · split
          · exact goIdle_keeps_roll (h.noted _ fun _ _ hr => hr)
          · exact h
  · exact h

theorem watchStep_keeps_roll {s : State} (h : RollInv s) : RollInv (watchStep s) := by
  unfold watchStep
  split
  · exact goIntervene_keeps_roll h
  · exact h

/-- In INTERVENE the contributions and the timer are free (R63). -/
theorem RollInv.intervening {s : State} (h : RollInv s) (hs : s.roll.state = .intervene) (q : Quad Nat) (tm : Option Timer) :
    RollInv (s.onRoll fun r => { r with contributions := q, timer := tm }) := by
  have hne : s.roll.state ≠ .test := by simp [hs]
  exact rollInv_of_noTest (s := s.onRoll fun r => { r with contributions := q, timer := tm }) (h.noTest hne) hne
    (by simp [hs]) (by simp [hs]) (by simp [hs])

theorem interveneStep_keeps_roll {s : State} (h : RollInv s) (hs : s.roll.state = .intervene) :
    RollInv (interveneStep s) := by
  have hc : RollInv (s.onRoll fun r => { r with contributions := interventionContributions s }) :=
    h.intervening hs (interventionContributions s) s.roll.timer
  unfold interveneStep releaseHold
  dsimp only
  split
  · exact goRecover_keeps_roll hc hs
  · split
    · split
      · exact h.intervening hs (interventionContributions s) (some ⟨s.timeBase, 300⟩)
      · exact hc
    · exact h.intervening hs (interventionContributions s) none

theorem rampStep_keeps_roll {s : State} (h : RollInv s) (hs : s.roll.state = .recover) : RollInv (rampStep s) := by
  unfold rampStep
  dsimp only
  split
  · exact goIdle_keeps_roll h
  · have hne : s.roll.state ≠ .test := by simp [hs]
    have hrest := h.noTest hne
    obtain ⟨-, -, htimer, -⟩ := h
    exact rollInv_of_noTest (s := s.onRoll _) hrest hne (by simp [hs]) htimer (by simp [hs])

theorem recoverStep_keeps_roll {s : State} (h : RollInv s) (hs : s.roll.state = .recover) : RollInv (recoverStep s) := by
  unfold recoverStep
  split
  · exact goIntervene_keeps_roll h
  · exact rampStep_keeps_roll h hs

theorem rollStateStep_keeps_roll {s : State} (h : RollInv s) : RollInv (rollStateStep s) := by
  unfold rollStateStep
  split
  case h_1 => exact idleStep_keeps_roll h
  case h_2 => exact testStep_keeps_roll h
  case h_3 => exact watchStep_keeps_roll h
  case h_4 hs => exact interveneStep_keeps_roll h hs
  case h_5 hs => exact recoverStep_keeps_roll h hs

theorem rollInvalidStep_keeps_roll {s : State} (h : RollInv s) : RollInv (rollInvalidStep s) := by
  unfold rollInvalidStep
  split
  case h_1 => exact h
  case h_2 => exact abortToIdle_keeps_roll h
  case h_3 => exact goIdle_keeps_roll h
  case h_4 hs => exact goRecover_keeps_roll h hs
  case h_5 hs => exact rampStep_keeps_roll h hs

theorem rollTakesSet_keeps_roll {s : State} (h : RollInv s) : RollInv (rollTakesSet s) := by
  have hth : RollInv (updateThresholds s) := h.noted _ fun _ _ hr => hr
  unfold rollTakesSet
  dsimp only
  split
  · exact rollStateStep_keeps_roll (hth.noted _ fun _ _ hr => hr)
  · exact rollInvalidStep_keeps_roll (hth.noted _ fun _ _ hr => hr)

theorem rollTimerExpiry_keeps_roll {s : State} (h : RollInv s) : RollInv (rollTimerExpiry s) := by
  have hth : RollInv (updateThresholds s) := h.noted _ fun _ _ hr => hr
  unfold rollTimerExpiry
  dsimp only
  split
  · split
    case h_1 =>
      unfold testExpiry
      split
      · exact abortToIdle_keeps_roll hth
      · exact goWatch_keeps_roll (hth.noted _ fun _ _ hr => hr)
    case h_2 =>
      unfold watchExpiry
      dsimp only
      split
      · exact goIdle_keeps_roll hth
      · split
        · exact goIntervene_keeps_roll hth
        · split
          · exact tryTest_keeps_roll hth
          · exact goIdle_keeps_roll hth
    case h_3 hs => exact goRecover_keeps_roll hth hs
    all_goals exact hth
  · exact h

theorem rollTakesLoss_keeps_roll {s : State} (h : RollInv s) : RollInv (rollTakesLoss s) := by
  unfold rollTakesLoss
  refine RollInv.noted _ (fun _ _ hr => hr) ?_
  split
  · exact abortToIdle_keeps_roll h
  · exact goIdle_keeps_roll h

/-! ### The air supervisor's part -/

/-- A supply state's evaluation leaves the commitment list (R90 to R93). -/
theorem evaluateSupply_commitment (s : State) : (evaluateSupply s).air.commitment = s.air.commitment := by
  have tally : ∀ (t : State) k, (requestTally k t).air = t.air := fun t k => requestTally_touches t k .air (by decide)
  have capture : ∀ (t : State) k sub, (fillCaptureBlock k sub t).air = t.air := fun t k sub =>
    fillCaptureBlock_touches t k sub .air (by decide)
  unfold evaluateSupply enterSupplyLost
  dsimp only
  split
  · rfl
  · split
    case h_1 => rw [tally, capture]; rfl
    case h_3 => split <;> rfl
    all_goals rfl

theorem controlLinePlausibility_commitment (s : State) :
    (controlLinePlausibility s).air.commitment = s.air.commitment := by
  unfold controlLinePlausibility
  split
  · split
    · rfl
    · split <;> rfl
  · rfl

theorem airTakesSet_commitment (s : State) : (airTakesSet s).air.commitment = s.air.commitment := by
  unfold airTakesSet
  rw [controlLinePlausibility_commitment, evaluateSupply_commitment]
  rfl

theorem airTakesSet_keeps_roll {s : State} (h : RollInv s) : RollInv (airTakesSet s) := by
  have hroll : (airTakesSet s).roll = s.roll := airTakesSet_touches s .roll (by decide)
  rw [rollInv_iff, airTakesSet_commitment, hroll]
  exact h

/-! ### Every step -/

/-- What every set taker keeps, the handing of a set keeps (R25). -/
theorem handSet_keeps (P : State → Prop) (hfree : ∀ s, P s → P s.spend) (hload : ∀ s, P s → P (estimatorTakesSet s))
    (harbiter : ∀ s, P s → P (arbiterTakesSet s)) (hair : ∀ s, P s → P (airTakesSet s))
    (hroll : ∀ s, P s → P (rollTakesSet s)) (htyres : ∀ s, P s → P (tyresTakeSet s)) {s : State} (h : P s) :
    P (handSet s) := by
  refine hfree _ (foldl_keeps P _ _ (fun t take htake ht => ?_) s h)
  have hmem := mem_arrange.mp htake
  simp only [setTakers, List.mem_cons, List.not_mem_nil, or_false] at hmem
  rcases hmem with rfl | rfl | rfl | rfl | rfl
  · exact hload t ht
  · exact harbiter t ht
  · exact hair t ht
  · exact hroll t ht
  · exact htyres t ht

/-- A functional reset is the reset of the blocks between changes that stay within the arbiter, the tyre table, the alerts
and the answers before, and within the arbiter, the alerts, the answers and the table store after. -/
theorem functionalReset_around (s : State) : ∃ u, ChangesOnly [.arbiter, .tyres, .alerts, .mgmt] s u ∧
    ChangesOnly [.arbiter, .alerts, .mgmt, .store] (resetBlocks u) (functionalReset s) := by
  refine ⟨cancelOperations (s.onAlerts fun a => { a with queue := [] }), ?_, ?_⟩
  · exact ChangesOnly.andThen ((onAlerts_touches s _).within (by decide)) ((cancelOperations_touches _).within (by decide))
  · unfold functionalReset arbiterAfterReset
    refine ChangesOnly.andThen ?_ (foldl_touches _ _ faultByThreshold_touches _)
    refine ChangesOnly.andThen ?_ ((raiseLoad_touches _ _).within (by decide))
    exact ChangesOnly.andThen ((onArbiter_touches _ _).within (by decide)) ((deriveDemand_touches _).within (by decide))

/-- The roll monitor and the air supervisor as a reset leaves them. -/
theorem rollInv_at_rest {s : State} (hr : ∃ r, s.roll = rollAtReset r) (ha : s.air = airReset) : RollInv s := by
  obtain ⟨r, hr⟩ := hr
  have hn : NoTest s := ⟨by rw [hr]; rfl, by rw [hr]; rfl, by rw [ha]; rfl⟩
  refine rollInv_of_noTest hn ?_ (fun _ => ⟨?_, ?_⟩) (fun _ => ?_) ?_ <;> rw [hr]
  · nofun
  · exact quadGet_const 0
  · rfl
  · rfl
  · nofun

theorem functionalReset_meets_roll (s : State) : RollInv (functionalReset s) := by
  obtain ⟨u, -, h⟩ := functionalReset_around s
  exact RollInv.frame h (by decide) (by decide) (rollInv_at_rest ⟨u.roll, rfl⟩ rfl)

theorem rollInv_rule : StepRule RollInv RollInv where
  weaken := id
  frameP h := RollInv.frame h (by decide) (by decide)
  frameQ h := RollInv.frame h (by decide) (by decide)
  powered _ _ _ := rollInv_at_rest ⟨rollReset, rfl⟩ rfl
  reset _ := functionalReset_meets_roll _
  release h := by
    unfold releaseResetLine
    split
    · exact h
    · exact h
  sampleSet bytes s h := by
    unfold takeSet
    refine handSet_keeps RollInv (fun t => RollInv.frame (spend_touches t) (by decide) (by decide))
      (fun t => RollInv.frame (estimatorTakesSet_touches t) (by decide) (by decide))
      (fun t => RollInv.frame (arbiterTakesSet_touches t) (by decide) (by decide)) (fun _ => airTakesSet_keeps_roll)
      (fun _ => rollTakesSet_keeps_roll) (fun t => RollInv.frame (tyresTakeSet_touches t) (by decide) (by decide)) ?_
    split
    · exact RollInv.frame (evaluateFailSafe_touches _) (by decide) (by decide) h
    · exact h
  countSet h _ _ := h
  sampleLoss h := by
    unfold declareLoss
    refine RollInv.noted id (fun _ _ hr => hr) (rollTakesLoss_keeps_roll ?_)
    refine RollInv.frame (evaluateFailSafe_touches _) (by decide) (by decide) ?_
    refine RollInv.frame (deriveDemand_touches _) (by decide) (by decide) ?_
    exact RollInv.frame (fillCaptureBlock_touches _ _ _) (by decide) (by decide) h
  refresh h := h
  status bytes c s h := by
    unfold examineStatus
    split
    · split
      · exact RollInv.frame (hardFault_touches s c _) (by decide) (by decide) h
      · exact h
    · exact h
  hold c s h := RollInv.frame (holdTimerExpiry_touches s c) (by decide) (by decide) h
  rollTimer h := rollTimerExpiry_keeps_roll h
  error c s h := RollInv.frame (errorEvent_touches s c) (by decide) (by decide) h
  demandFrame data s h := RollInv.frame (takeDemand_touches s data) (by decide) (by decide) h
  positionFrame data s h := RollInv.frame (takePosition_touches s data) (by decide) (by decide) h
  demandTimer h := RollInv.frame (demandTimerExpiry_touches _) (by decide) (by decide) h
  rearwardTimer h := RollInv.frame (rearwardTimerExpiry_touches _) (by decide) (by decide) h
  halt _ _ _ s h := RollInv.frame (haltChannel_touches s _ _ _) (by decide) (by decide) h
  run _ _ s h := RollInv.frame (runChannel_touches s _ _) (by decide) (by decide) h
  clear _ _ s h := RollInv.frame (clearChannel_touches s _ _) (by decide) (by decide) h
  activate _ s h _ := RollInv.frame (installTable_touches s _ _) (by decide) (by decide) h

/-- Every step keeps the roll monitor's account. -/
theorem step_keeps_roll {s t : State} (hs : RollInv s) (h : step s = .next t) : RollInv t := rollInv_rule.step h hs

end Sys2Proof.Machine
end

section
/-! The figures of a channel record: what a fault, a halt or a move of a channel leaves as the arbiter computed it. -/

namespace Sys2Proof.Machine

open Sys2Proof

/-! ### Channel records after a change of one -/

@[simp] theorem chan_onChannel_same (c : Channel) (f : ChannelRec → ChannelRec) (s : State) :
    chan (s.onChannel c f) c = f (chan s c) := quadGet_set_same _ _ _

theorem chan_onChannel_other {c d : Channel} (h : d ≠ c) (f : ChannelRec → ChannelRec) (s : State) :
    chan (s.onChannel c f) d = chan s d := quadGet_set_other _ _ h

/-- A part's sameness, spelled as the equation of its field. -/
theorem ChangesOnly.arbiter {ps : List Part} {s t : State} (h : ChangesOnly ps s t) (hp : Part.arbiter ∉ ps) :
    t.arbiter = s.arbiter := h .arbiter hp

/-! ### Figures -/

/-- A channel record with everything that a fault, a halt or a move may change blanked: what stays are its contributions, its
derate, its ceiling, its commanded mode and target and its delivered pressure. -/
def figures (r : ChannelRec) : ChannelRec :=
  { r with
    state := .start, reason := none, haltPressure := 0, deviation := none, holdTimer := none, heldTarget := 0,
    errors := 0, cause := none, haltPending := none, strapPending := false }

/-- The driver demand, its source and every channel's figures are the same in two states. -/
structure SameFigures (s t : State) : Prop where
  demand : t.arbiter.demand = s.arbiter.demand
  source : t.arbiter.source = s.arbiter.source
  channels : ∀ c, figures (chan t c) = figures (chan s c)

namespace SameFigures

variable {s t u : State}

theorem refl (s : State) : SameFigures s s := ⟨rfl, rfl, fun _ => rfl⟩

theorem trans (h : SameFigures s t) (k : SameFigures t u) : SameFigures s u :=
  ⟨k.demand.trans h.demand, k.source.trans h.source, fun c => (k.channels c).trans (h.channels c)⟩

theorem of_frame {ps : List Part} (h : ChangesOnly ps s t) (hp : Part.arbiter ∉ ps) : SameFigures s t := by
  have ha := h.arbiter hp
  exact ⟨by rw [ha], by rw [ha], fun c => by rw [chan, ha, chan]⟩

theorem ite (b : Prop) [Decidable b] (h : SameFigures s t) (k : SameFigures s u) : SameFigures s (if b then t else u) := by
  split <;> assumption

theorem foldl {β : Type} (f : State → β → State) (l : List β) (h : ∀ s b, SameFigures s (f s b)) (s : State) :
    SameFigures s (l.foldl f s) :=
  foldl_keeps (SameFigures s) f l (fun t b _ ht => ht.trans (h t b)) s (refl s)

theorem onChannel (c : Channel) (f : ChannelRec → ChannelRec) (s : State)
    (hf : ∀ r, figures (f r) = figures r := by intro; rfl) : SameFigures s (s.onChannel c f) := by
  refine ⟨rfl, rfl, fun d => ?_⟩
  by_cases hd : d = c
  · rw [hd, chan_onChannel_same, hf]
  · rw [chan_onChannel_other hd]

/-- A change of every channel record that leaves its figures, whatever else of the arbiter changes but the demand. -/
theorem onChannels (f : Fin 4 → ChannelRec → ChannelRec) (hf : ∀ c r, figures (f c r) = figures r)
    (hd : t.arbiter.demand = s.arbiter.demand) (hsrc : t.arbiter.source = s.arbiter.source)
    (hc : t.arbiter.channels = quadMap f s.arbiter.channels) : SameFigures s t :=
  ⟨hd, hsrc, fun c => by rw [chan, hc, quadGet_map, hf, chan]⟩

/-- The ceiling, the derate, the delivered pressure and the command are figures. -/
theorem ceiling (h : SameFigures s t) (c : Channel) : (chan t c).ceiling = (chan s c).ceiling :=
  (congrArg ChannelRec.ceiling (h.channels c) :)

theorem derate (h : SameFigures s t) (c : Channel) : (chan t c).derate = (chan s c).derate :=
  (congrArg ChannelRec.derate (h.channels c) :)

theorem delivered (h : SameFigures s t) (c : Channel) : (chan t c).delivered = (chan s c).delivered :=
  (congrArg ChannelRec.delivered (h.channels c) :)

theorem cmdTarget (h : SameFigures s t) (c : Channel) : (chan t c).cmdTarget = (chan s c).cmdTarget :=
  (congrArg ChannelRec.cmdTarget (h.channels c) :)

theorem cmdPressure (h : SameFigures s t) (c : Channel) : (chan t c).cmdPressure = (chan s c).cmdPressure :=
  (congrArg ChannelRec.cmdPressure (h.channels c) :)

end SameFigures

/-! ### Operations that leave the figures -/

section Operations

variable (s : State)

/-- The moves of a channel between its states leave its figures. -/
@[simp] theorem figures_goTo (st : ChanState) (why : Option BackupReason) (r : ChannelRec) :
    figures (goTo st why r) = figures r := rfl

@[simp] theorem figures_goActive (r : ChannelRec) : figures (goActive r) = figures r := rfl

@[simp] theorem figures_goHalted (p : Nat) (r : ChannelRec) : figures (goHalted p r) = figures r := rfl

@[simp] theorem figures_goHold (held : Nat) (now : Stamp) (r : ChannelRec) : figures (goHold held now r) = figures r := rfl

theorem endPendingHalt_figures (c : Channel) (result : Completion) : SameFigures s (endPendingHalt c result s) := by
  unfold endPendingHalt
  split
  · exact (SameFigures.onChannel c _ s).trans (.of_frame (answer_touches _ _ _ _) (by decide))
  · exact .refl s

theorem cancelPendingHalt_figures (c : Channel) : SameFigures s (cancelPendingHalt c s) := endPendingHalt_figures s c _

theorem raiseAbandoned_figures (c : Channel) : SameFigures s (raiseAbandoned c s) :=
  .of_frame (raiseAlert_touches s _ _ _) (by decide)

theorem sympathyBackup_figures (c : Channel) : SameFigures s (sympathyBackup c s) := by
  have back : ∀ t, SameFigures t (cancelPendingHalt c (t.onChannel c (goTo .backup (some .sympathy)))) := fun t =>
    (SameFigures.onChannel c _ t).trans (cancelPendingHalt_figures _ c)
  unfold sympathyBackup
  dsimp only
  split
  case h_1 => exact back s
  case h_2 => exact back s
  case h_3 => exact (raiseAbandoned_figures s c).trans (back _)
  all_goals exact .refl s

theorem applyPolicy_figures (c : Channel) : SameFigures s (applyPolicy c s) :=
  .ite _ (.foldl _ _ (fun t d => .ite _ (.refl t) (sympathyBackup_figures t d)) s) (.refl s)

theorem enterFaulted_figures (c : Channel) (cause : FaultCause) : SameFigures s (enterFaulted c cause s) := by
  unfold enterFaulted
  dsimp only
  refine .trans ?_ (applyPolicy_figures _ c)
  refine .trans ?_ (cancelPendingHalt_figures _ c)
  refine .trans ?_ (.of_frame (fillCaptureChannel_touches _ _ _) (by decide))
  refine .trans ?_ (.of_frame (requestTally_touches _ _) (by decide))
  exact .trans (.onChannel c _ s) (.of_frame (raiseAlert_touches _ _ _ _) (by decide))

theorem errorEvent_figures (c : Channel) : SameFigures s (errorEvent c s) :=
  .trans (.onChannel c _ s) (.ite _ (enterFaulted_figures _ c _) (.refl _))

theorem hardFault_figures (c : Channel) (cause : FaultCause) : SameFigures s (hardFault c cause s) :=
  .ite _ (.refl s) (.trans (.onChannel c _ s) (enterFaulted_figures _ c cause))

theorem faultByThreshold_figures (c : Channel) : SameFigures s (faultByThreshold s c) :=
  .ite _ (enterFaulted_figures s c _) (.refl s)

theorem examineStatus_figures (bytes : List Byte) (c : Channel) : SameFigures s (examineStatus bytes s c) := by
  unfold examineStatus
  split
  · exact .ite _ (hardFault_figures s c _) (.refl s)
  · exact .refl s

theorem holdTimerExpiry_figures (c : Channel) : SameFigures s (holdTimerExpiry c s) :=
  .ite _ (.onChannel c _ s) (.refl s)

/-! ### The fail-safe state -/

theorem channelEntersFsB_figures (c : Channel) : SameFigures s (channelEntersFsB c s) := by
  have leave : ∀ held (t : State), SameFigures t
      (t.onChannel c (if t1FsbHold t.tables.t1 c then goHold held t.timeBase else goTo .backup (some .failsafe))) :=
    fun held t => .onChannel c _ t fun r => by split <;> rfl
  unfold channelEntersFsB
  refine .trans ?_ (cancelPendingHalt_figures _ c)
  split
  case h_1 => exact leave _ s
  case h_2 => exact (raiseAbandoned_figures s c).trans (leave _ _)
  all_goals exact .refl s

theorem figures_channelEntersFsA (c : Channel) (r : ChannelRec) : figures (channelEntersFsA s c r) = figures r := by
  unfold channelEntersFsA
  split <;> split <;> rfl

theorem figures_channelEntersNormal (r : ChannelRec) : figures (channelEntersNormal r) = figures r := by
  unfold channelEntersNormal
  split <;> rfl

theorem evaluateFailSafe_figures : SameFigures s (evaluateFailSafe s) := by
  unfold evaluateFailSafe
  dsimp only
  refine .ite _ (.refl s) ?_
  split
  case h_1 =>
    exact .trans (t := s.onArbiter fun a => { a with failSafe := failSafeOf s }) ⟨rfl, rfl, fun _ => rfl⟩
      (.foldl _ _ channelEntersFsB_figures _)
  case h_2 => exact .onChannels _ (figures_channelEntersFsA _) rfl rfl rfl
  case h_3 => exact .onChannels _ (fun _ => figures_channelEntersNormal) rfl rfl rfl

/-! ### Taking a sample set -/

theorem deviationCheck_figures (c : Channel) : SameFigures s (deviationCheck c s) := by
  unfold deviationCheck
  dsimp only
  split
  · exact .ite _ (.trans (.onChannel c _ s) (errorEvent_figures _ c)) (.refl s)
  · exact .refl s

theorem superviseChannel_figures (c : Channel) : SameFigures s (superviseChannel s c) := by
  unfold superviseChannel
  refine .ite _ (.ite _ ?_ (deviationCheck_figures s c)) (.refl s)
  split
  case h_5 => exact .refl s
  case h_6 => exact .refl s
  all_goals exact hardFault_figures s c _

theorem figures_controlLineCheck (c : Channel) (r : ChannelRec) : figures (controlLineCheck s c r) = figures r := by
  unfold controlLineCheck
  split
  · split
    · rfl
    · split <;> rfl
  · rfl

theorem controlLineChecks_figures : SameFigures s (controlLineChecks s) :=
  .onChannels _ (figures_controlLineCheck s) rfl rfl rfl

theorem haltedCheck_figures (c : Channel) : SameFigures s (haltedCheck s c) :=
  .ite _ (.trans (raiseAbandoned_figures s c) (.onChannel c _ _)) (.refl s)

theorem pendingHaltCheck_figures (c : Channel) : SameFigures s (pendingHaltCheck s c) := by
  unfold pendingHaltCheck
  split
  · exact .ite _ (.trans (.onChannel c _ s) (endPendingHalt_figures _ c _))
      (.ite _ (cancelPendingHalt_figures s c) (.refl s))
  · exact .refl s

theorem haltStep_figures (c : Channel) : SameFigures s (haltStep s c) :=
  (haltedCheck_figures s c).trans (pendingHaltCheck_figures _ c)

theorem figures_leaveStart (c : Channel) (r : ChannelRec) : figures (leaveStart s c r) = figures r := by
  unfold leaveStart
  split
  · split
    · split
      · split
        · split <;> rfl
        · rfl
      · rfl
    · rfl
  · rfl

theorem leaveStarts_figures : SameFigures s (leaveStarts s) := .onChannels _ (figures_leaveStart s) rfl rfl rfl

theorem figures_updateDeviation (now : Stamp) (r : ChannelRec) : figures (updateDeviation now r) = figures r := by
  unfold updateDeviation
  split
  · split
    · rfl
    · split <;> rfl
  · rfl

theorem updateDeviations_figures : SameFigures s (updateDeviations s) :=
  .onChannels _ (fun _ => figures_updateDeviation _) rfl rfl rfl

/-- The state once the first two steps of R42 are taken: the driver demand, the delivered pressures and the ceilings. -/
def measured (s : State) : State := moveCeilings (storeDelivered (deriveDemand s))

/-- What the arbiter computes on a set before the commands is computed by its first two steps. -/
theorem arbiterJudges_figures : SameFigures (measured s) (arbiterJudges s) := by
  unfold arbiterJudges
  dsimp only
  refine .trans ?_ (leaveStarts_figures _)
  refine .trans ?_ (.foldl haltStep _ haltStep_figures _)
  exact .trans (.foldl superviseChannel _ superviseChannel_figures _) (controlLineChecks_figures _)

/-! ### Requests to a channel -/

theorem answer_figures {s t : State} (h : SameFigures s t) (code : Nat) (tag : Byte) (a : Answer) :
    SameFigures s (answer code tag a t) := h.trans (.of_frame (answer_touches t code tag a) (by decide))

theorem haltChannel_figures (tag : Byte) (n p : Nat) : SameFigures s (haltChannel tag n p s) := by
  have no : ∀ a, SameFigures s (answer codeHaltChannel tag a s) := fun a => answer_figures (.refl s) _ _ a
  have yes : ∀ a c f, (∀ r, figures (f r) = figures r) →
      SameFigures s (answer codeHaltChannel tag a (s.onChannel c f)) := fun a c f hf =>
    answer_figures (.onChannel c f s hf) _ _ a
  unfold haltChannel
  split
  · exact no _
  · exact .ite _ (no _) (.ite _ (no _) (.ite _ (yes _ _ _ fun _ => rfl) (.ite _ (no _)
      (.ite _ (yes _ _ _ fun _ => rfl) (yes _ _ _ fun _ => rfl)))))

theorem runChannel_figures (tag : Byte) (n : Nat) : SameFigures s (runChannel tag n s) := by
  unfold runChannel
  split
  · exact answer_figures (.refl s) _ _ _
  · exact .ite _ (answer_figures (.trans (.onChannel _ _ s) (cancelPendingHalt_figures _ _)) _ _ _)
      (.ite _ (answer_figures (cancelPendingHalt_figures s _) _ _ _) (answer_figures (.refl s) _ _ _))

theorem figures_releaseSympathy (r : ChannelRec) : figures (releaseSympathy r) = figures r := by
  unfold releaseSympathy
  split <;> rfl

theorem figures_clearFault (r : ChannelRec) : figures (clearFault r) = figures r := by
  unfold clearFault
  split <;> rfl

theorem clearChannel_figures (tag : Byte) (n : Nat) : SameFigures s (clearChannel tag n s) := by
  unfold clearChannel
  dsimp only
  split
  · exact answer_figures (.refl s) _ _ _
  · refine .ite _ (answer_figures ?_ _ _ _) (answer_figures (.refl s) _ _ _)
    exact .trans (.onChannel _ _ s figures_clearFault)
      (.ite _ (.refl _) (.onChannels _ (fun _ => figures_releaseSympathy) rfl rfl rfl))

end Operations

end Sys2Proof.Machine
end

section
/-! What a table that passes its validation says of its fields (R15, R64, R113). -/

namespace Sys2Proof.Machine

open Sys2Proof

/-- No check of a list fails exactly when each of them holds. -/
theorem firstFailing_none_iff (l : List (Nat × Bool)) : firstFailing l = none ↔ ∀ c ∈ l, c.2 = true := by
  induction l with
  | nil => simp [firstFailing]
  | cons c l ih =>
    obtain ⟨off, ok⟩ := c
    cases ok <;> simp [firstFailing, ih]

/-- What the validation of T2 gives of one group: a curve of 2 to 8 points whose pressures rise, a laden load above the empty
load, and the bounds of the fields that the braking characteristic reads (R15). -/
structure GroupValid (t : Table) (g : Group) : Prop where
  points : 2 ≤ t2Points t g ∧ t2Points t g ≤ 8
  rising : ∀ i, i + 1 < t2Points t g → t2B t g i < t2B t g (i + 1)
  laden : t2Empty t g < t2Laden t g
  fallback : t2Fallback t g ≤ 4096
  onset : t2Onset t g ≤ 200
  emptyRatio : t2EmptyRatio t g ≤ 4096

theorem groupValid_of_checks {t : Table} {g : Group} (h : ∀ c ∈ t2GroupChecks t g, c.2 = true) : GroupValid t g := by
  simp only [t2GroupChecks, List.mem_append, List.mem_map, List.mem_cons, List.not_mem_nil, or_false] at h
  have field : ∀ off ok, (off, ok) ∈ [(t2Base g + 34, decide (t2Empty t g ≤ 6000)),
      (t2Base g + 36, decide (t2Laden t g ≤ 6000)), (t2Base g + 34, decide (t2Empty t g < t2Laden t g)),
      (t2Base g + 38, decide (t2Fallback t g ≤ 4096)), (t2Base g + 40, decide (t2FreezeDemand t g ≤ 1000)),
      (t2Base g + 42, decide (t2FreezeAccel t g ≤ 2000)), (t2Base g + 44, decide (t2Onset t g ≤ 200)),
      (t2Base g + 46, decide (t2EmptyRatio t g ≤ 4096))] → ok = true := fun off ok hm =>
    h (off, ok) (.inr (by simpa using hm))
  refine ⟨?_, fun i hi => ?_, ?_, ?_, ?_, ?_⟩
  · simpa using h (t2Base g, _) (.inl (.inl (.inl rfl)))
  · have := h _ (.inl (.inl (.inr ⟨i + 1, List.mem_range.mpr hi, rfl⟩)))
    simp only [Nat.add_one_ne_zero, decide_false, Bool.false_or, Nat.add_sub_cancel, Bool.and_eq_true,
      decide_eq_true_eq] at this
    exact this.2
  · simpa using field (t2Base g + 34) (decide (t2Empty t g < t2Laden t g)) (by simp)
  · simpa using field (t2Base g + 38) (decide (t2Fallback t g ≤ 4096)) (by simp)
  · simpa using field (t2Base g + 44) (decide (t2Onset t g ≤ 200)) (by simp)
  · simpa using field (t2Base g + 46) (decide (t2EmptyRatio t g ≤ 4096)) (by simp)

theorem groupValid_of_tableCheck {t : Table} (h : tableCheck 2 t = none) (g : Group) : GroupValid t g := by
  have hall := (firstFailing_none_iff _).mp (h : t2Check t = none)
  refine groupValid_of_checks fun c hc => hall c ?_
  cases g
  · exact List.mem_append_left _ hc
  · exact List.mem_append_right _ hc

theorem intervention_of_tableCheck {t : Table} (h : tableCheck 3 t = none) : t3Intervention t ≤ 1000 := by
  have hall := (firstFailing_none_iff _).mp (h : t3Check t = none)
  simpa using hall (21, decide (t3Intervention t ≤ 1000)) (by simp)

theorem derate_of_tableCheck {t : Table} (h : tableCheck 4 t = none) : t4Derate t ≤ 4096 := by
  have hall := (firstFailing_none_iff _).mp (h : t4Check t = none)
  simpa using hall (20, decide (t4Derate t ≤ 4096)) (by simp)

/-- The bounds that the pressures and the load estimates take from the tables in force. -/
structure TablesBound (s : State) : Prop where
  fallback : ∀ g, t2Fallback s.tables.t2 g ≤ 4096
  intervention : t3Intervention s.tables.t3 ≤ 1000
  derate : t4Derate s.tables.t4 ≤ 4096

theorem TablesInv.bound {s : State} (h : TablesInv s) : TablesBound s := by
  obtain ⟨-, ⟨-, h2⟩, ⟨-, h3⟩, ⟨-, h4⟩, -⟩ := h
  exact ⟨fun g => (groupValid_of_tableCheck h2 g).fallback, intervention_of_tableCheck h3, derate_of_tableCheck h4⟩

theorem TablesBound.frame {s t : State} {ps : List Part} (h : ChangesOnly ps s t) (hp : Part.tables ∉ ps)
    (hs : TablesBound s) : TablesBound t := by
  have ht : t.tables = s.tables := h .tables hp
  obtain ⟨hf, hi, hd⟩ := hs
  exact ⟨by rw [ht]; exact hf, by rw [ht]; exact hi, by rw [ht]; exact hd⟩

/-- An activation that is not refused has passed the table's validation (R171). -/
theorem activation_valid {n : Nat} {s : State} (h : activationRefusal n s = none) :
    tableCheck n (s.mgmt.buffer.take (tableSize n)) = none ∧ activationAllowed s n = true := by
  unfold activationRefusal at h
  repeat' split at h
  case isFalse.isFalse.isFalse.isFalse.isFalse hallowed =>
    exact ⟨Option.map_eq_none_iff.mp h, by simpa using hallowed⟩
  all_goals exact nomatch h

/-- T2 as a start-up load leaves it is valid: the stored table of a good block, or the default (R178). -/
theorem loadedT2_valid (nv : Memory) : tableCheck 2 (loadedTable nv 1 2 t2Default) = none := by
  unfold loadedTable
  split
  · next h =>
    unfold blockFinding at h
    split at h
    · split at h
      · next hall => simpa [tablesOfBlock] using hall
      · simp at h
    · simp at h
  · decide +kernel

end Sys2Proof.Machine
end

section
/-! The pressure bounds (R20 to R22, R26, R32, R40, R41): the inputs, the demands, the ceilings and the commands. -/

namespace Sys2Proof.Machine

open Sys2Proof

/-! ### Inputs in their ranges (R26) -/

/-- A value in use and a last good value within an input's range. -/
def RecordInRange (i : Fin 16) (r : InputRec) : Prop :=
  (inputMin i ≤ r.value ∧ r.value ≤ inputMax i) ∧ ∀ v, r.lastGood = some v → inputMin i ≤ v ∧ v ≤ inputMax i

/-- Every input within its range. -/
def InputsInRange (s : State) : Prop := ∀ i, RecordInRange i (input s i)

theorem inputMin_nonpos (i : Fin 16) : inputMin i ≤ 0 := by
  unfold inputMin
  split <;> decide

theorem inputMax_nonneg (i : Fin 16) : 0 ≤ inputMax i := by
  fin_cases i <;> decide

theorem clampInput_inRange (i : Fin 16) (v : Int) : inputMin i ≤ clampInput i v ∧ clampInput i v ≤ inputMax i := by
  have hmin := inputMin_nonpos i
  have hmax := inputMax_nonneg i
  unfold clampInput
  omega

theorem updateInput_inRange {i : Fin 16} {r : InputRec} (h : RecordInRange i r) (mark : Bool) {v : Int}
    (hv : inputMin i ≤ v ∧ v ≤ inputMax i) (now : Stamp) : RecordInRange i (updateInput mark v now r) := by
  have good : RecordInRange i { status := .valid, value := v, lastGood := some v, holdStart := none } :=
    ⟨hv, fun w hw => by cases hw; exact hv⟩
  unfold updateInput
  dsimp only
  split
  · split
    · refine ⟨?_, h.2⟩
      dsimp only
      cases hg : r.lastGood with
      | none => exact h.1
      | some w => exact h.2 w hg
    · exact good
  · split
    · split
      · exact h
      · exact h
    · exact good
  · split
    · exact h
    · exact good
  · exact h

theorem loseInput_inRange {i : Fin 16} {r : InputRec} (h : RecordInRange i r) : RecordInRange i (loseInput r) := by
  unfold loseInput
  split <;> exact h

theorem takeFlag_inRange {i : Fin 16} {r : InputRec} (h : RecordInRange i r) (enabled : Bool) :
    RecordInRange i (takeFlag enabled r) := by
  unfold takeFlag
  split <;> split
  · exact ⟨h.1, nofun⟩
  all_goals exact h

theorem inputReset_inRange (i : Fin 16) (enabled : Bool) : RecordInRange i (inputReset enabled) :=
  ⟨⟨inputMin_nonpos i, inputMax_nonneg i⟩, nofun⟩

/-- Every input changed by a rule that keeps records in range. -/
theorem InputsInRange.map {s t : State} (hs : InputsInRange s) (f : Fin 16 → InputRec → InputRec)
    (hf : ∀ i r, RecordInRange i r → RecordInRange i (f i r)) (ht : t.sample.inputs = gridMap f s.sample.inputs) :
    InputsInRange t := by
  intro i
  rw [input, ht, gridGet_map]
  exact hf i _ (hs i)

theorem inputsInRange_loaded {s : State} {t1 : Table} {start : Option Stamp} (h : s.sample = samplePortLoaded t1 start) :
    InputsInRange s := by
  intro i
  rw [input, h, samplePortLoaded, gridGet_map]
  exact inputReset_inRange i _

theorem acceptSet_inRange {s : State} (h : InputsInRange s) (bytes : List Byte) :
    InputsInRange (s.onSample (acceptSet bytes s.timeBase)) :=
  h.map (fun i r => updateInput (sampleMark bytes i) (clampInput i (sampleValue bytes i)) s.timeBase r)
    (fun i _ hr => updateInput_inRange hr _ (clampInput_inRange i _) _) rfl

/-- A reading is within its input's range. -/
theorem reading_le {s : State} (h : InputsInRange s) {i : Fin 16} {v : Nat} (hv : reading s i = some v) :
    (v : Int) ≤ inputMax i := by
  obtain ⟨-, rfl⟩ := reading_some.mp hv
  have := (h i).1.2
  have := inputMax_nonneg i
  omega

theorem InputsInRange.frame {s t : State} {ps : List Part} (h : ChangesOnly ps s t) (hp : Part.sample ∉ ps)
    (hs : InputsInRange s) : InputsInRange t := by
  have ht : t.sample = s.sample := h .sample hp
  intro i
  rw [input, ht]
  exact hs i

/-! ### The channels -/

/-- The ceilings within P_max (R22). -/
def CeilingsBound (s : State) : Prop := ∀ c, (chan s c).ceiling ≤ t1PMax s.tables.t1 c

/-- The commands within the ceilings, and backup commanded with target 0 (R32, R40). -/
def CommandsBound (s : State) : Prop :=
  ∀ c, (chan s c).cmdTarget ≤ (chan s c).ceiling ∧ ((chan s c).cmdPressure = false → (chan s c).cmdTarget = 0)

theorem pressureInv_iff (s : State) : PressureInv s ↔ (CommandsBound s ∧ CeilingsBound s) ∧ s.link.demand ≤ 1000 ∧
    s.arbiter.demand ≤ 1000 ∧ s.roll.stretch ≤ 1000 ∧ InputsInRange s := by
  constructor
  · rintro ⟨hc, hl, ha, hr, hi⟩
    exact ⟨⟨fun c => ⟨(hc c).1, (hc c).2.2⟩, fun c => (hc c).2.1⟩, hl, ha, hr, hi⟩
  · rintro ⟨⟨hcmd, hceil⟩, hl, ha, hr, hi⟩
    exact ⟨fun c => ⟨(hcmd c).1, hceil c, (hcmd c).2⟩, hl, ha, hr, hi⟩

theorem SameFigures.commandsBound {s t : State} (h : SameFigures s t) (hs : CommandsBound s) : CommandsBound t := by
  intro c
  rw [h.cmdTarget, h.ceiling, h.cmdPressure]
  exact hs c

theorem SameFigures.ceilingsBound {s t : State} (h : SameFigures s t) (ht : t.tables.t1 = s.tables.t1)
    (hs : CeilingsBound s) : CeilingsBound t := by
  intro c
  rw [h.ceiling, ht]
  exact hs c

/-- The bounds go with the figures, T1, the two other demands and the inputs. -/
theorem PressureInv.of_same {s t : State} (h : PressureInv s) (hf : SameFigures s t) (ht : t.tables.t1 = s.tables.t1)
    (hl : t.link.demand = s.link.demand) (hr : t.roll.stretch = s.roll.stretch) (hi : t.sample = s.sample) :
    PressureInv t := by
  obtain ⟨⟨hcmd, hceil⟩, hlink, harb, hroll, hin⟩ := (pressureInv_iff s).mp h
  refine (pressureInv_iff t).mpr ⟨⟨hf.commandsBound hcmd, hf.ceilingsBound ht hceil⟩, hl ▸ hlink, ?_, hr ▸ hroll, ?_⟩
  · rw [hf.demand]; exact harb
  · intro i; rw [input, hi]; exact hin i

/-- A change that keeps the figures and stays away from the tables, the link, the roll monitor and the inputs. -/
theorem PressureInv.figures {s t : State} {ps : List Part} (h : PressureInv s) (hf : SameFigures s t)
    (hc : ChangesOnly ps s t) (hp : ∀ p ∈ [Part.tables, .link, .roll, .sample], p ∉ ps) : PressureInv t := by
  have htables : t.tables = s.tables := hc .tables (hp _ (by decide))
  have hlink : t.link = s.link := hc .link (hp _ (by decide))
  have hroll : t.roll = s.roll := hc .roll (hp _ (by decide))
  exact h.of_same hf (by rw [htables]) (by rw [hlink]) (by rw [hroll]) (hc .sample (hp _ (by decide)))

theorem PressureInv.frame {s t : State} {ps : List Part} (hc : ChangesOnly ps s t)
    (hp : ∀ p ∈ [Part.tables, .link, .roll, .sample, .arbiter], p ∉ ps) (h : PressureInv s) : PressureInv t :=
  h.figures (.of_frame hc (hp _ (by decide))) hc fun p hm => hp p (by fin_cases hm <;> decide)

/-! ### The driver demand (R41) -/

theorem derivedDemand_le {s : State} (hl : s.link.demand ≤ 1000) (hi : InputsInRange s) : (derivedDemand s).1 ≤ 1000 := by
  unfold derivedDemand
  split
  case h_3 =>
    split
    · next p hp =>
      have := reading_le hi hp
      exact Int.ofNat_le.mp this
    · exact Nat.zero_le _
  case h_4 => exact Nat.zero_le _
  all_goals exact hl

/-- The arbiter's demand apart, deriving it changes no figure. -/
theorem deriveDemand_pressure {s : State} (h : PressureInv s) : PressureInv (deriveDemand s) := by
  obtain ⟨hchan, hl, -, hr, hi⟩ := (pressureInv_iff s).mp h
  exact (pressureInv_iff _).mpr ⟨hchan, hl, derivedDemand_le hl hi, hr, hi⟩

theorem evaluateFailSafe_pressure {s : State} (h : PressureInv s) : PressureInv (evaluateFailSafe s) :=
  h.figures (evaluateFailSafe_figures s) (evaluateFailSafe_touches s) (by decide)

/-! ### Ceilings (R20 to R22) -/

/-- A derate of at most 4096 / 4096 keeps the nominal ceiling within P_max (R20). -/
theorem nominalCeiling_le {s : State} (h : t4Derate s.tables.t4 ≤ 4096) (c : Channel) :
    nominalCeiling s c ≤ t1PMax s.tables.t1 c := by
  have hd : channelDerate s c ≤ 4096 := by
    unfold channelDerate
    split
    · exact h
    · exact le_rfl
  have := Nat.mul_le_mul_left (t1PMax s.tables.t1 c) hd
  unfold nominalCeiling
  omega

theorem movedCeiling_le {n c m : Nat} (hn : n ≤ m) (hc : c ≤ m) : movedCeiling n c ≤ m := by
  unfold movedCeiling
  split <;> omega

theorem chan_measured (s : State) (c : Channel) : chan (measured s) c =
    { chan s c with
      delivered := inputValue s (inputDelivered c), derate := channelDerate s c
      ceiling := movedCeiling (nominalCeiling s c) (chan s c).ceiling } := by
  simp only [measured, moveCeilings, storeDelivered, deriveDemand, chan, onArbiter_arbiter, quadGet_map]
  rfl

theorem measured_ceilings {s : State} (hd : t4Derate s.tables.t4 ≤ 4096) (h : CeilingsBound s) :
    CeilingsBound (measured s) := by
  intro c
  rw [chan_measured]
  exact movedCeiling_le (nominalCeiling_le hd c) (h c)

theorem setCeilings_pressure {s : State} (hd : t4Derate s.tables.t4 ≤ 4096) (hz : ∀ c, (chan s c).cmdTarget = 0)
    (hl : s.link.demand ≤ 1000) (ha : s.arbiter.demand ≤ 1000) (hr : s.roll.stretch ≤ 1000) (hi : InputsInRange s) :
    PressureInv (setCeilings s) := by
  have hchan : ∀ c, chan (setCeilings s) c =
      { chan s c with derate := channelDerate s c, ceiling := nominalCeiling s c } := fun c => by
    simp only [setCeilings, chan, onArbiter_arbiter, quadGet_map]
  refine (pressureInv_iff _).mpr ⟨⟨fun c => ?_, fun c => ?_⟩, hl, ha, hr, hi⟩
  · simp only [hchan, hz, Nat.zero_le, true_and, implies_true]
  · rw [hchan]
    exact nominalCeiling_le hd c

/-! ### Commands (R40) -/

/-- The command computed of a channel is within its ceiling, and backup has target 0. -/
theorem commandOf_bound (r : ChannelRec) :
    (commandOf r).target ≤ r.ceiling ∧ ((commandOf r).pressure = false → (commandOf r).target = 0) := by
  unfold commandOf
  split
  case h_2 => exact ⟨Nat.min_le_left _ _, nofun⟩
  case h_4 => exact ⟨Nat.min_le_right _ _, nofun⟩
  case h_5 => exact ⟨Nat.min_le_right _ _, nofun⟩
  all_goals exact ⟨Nat.zero_le _, fun _ => rfl⟩

theorem withContributions_ceiling (s : State) (c : Channel) (r : ChannelRec) :
    (withContributions s c r).ceiling = r.ceiling := by
  unfold withContributions
  split <;> rfl

theorem chan_computeCommands (s : State) (c : Channel) :
    chan (computeCommands s) c = computeChannel s c (chan s c) := quadGet_map _ _ _

/-- The commands computed meet the bounds whatever they were. -/
theorem computeCommands_pressure {s : State} (hc : CeilingsBound s) (hl : s.link.demand ≤ 1000)
    (ha : s.arbiter.demand ≤ 1000) (hr : s.roll.stretch ≤ 1000) (hi : InputsInRange s) :
    PressureInv (computeCommands s) := by
  refine (pressureInv_iff _).mpr ⟨⟨fun c => ?_, fun c => ?_⟩, hl, ha, hr, hi⟩
  · rw [chan_computeCommands]
    exact commandOf_bound (withContributions s c (chan s c))
  · rw [chan_computeCommands]
    exact (withContributions_ceiling s c (chan s c)).trans_le (hc c)

theorem arbiterTakesSet_pressure {s : State} (hd : t4Derate s.tables.t4 ≤ 4096) (h : PressureInv s) :
    PressureInv (arbiterTakesSet s) := by
  obtain ⟨⟨-, hceil⟩, hl, -, hr, hi⟩ := (pressureInv_iff s).mp h
  have hf := arbiterJudges_figures s
  have hc := arbiterJudges_touches s
  have hceil' := measured_ceilings hd hceil
  have hdemand : (measured s).arbiter.demand ≤ 1000 := derivedDemand_le hl hi
  have ht1 : (measured s).tables.t1 = s.tables.t1 := rfl
  unfold arbiterTakesSet arbiterCommands
  generalize measured s = m at hf hceil' hdemand ht1
  generalize arbiterJudges s = j at hf hc ⊢
  have htables : j.tables = s.tables := hc .tables (by decide)
  have hlink : j.link = s.link := hc .link (by decide)
  have hroll : j.roll = s.roll := hc .roll (by decide)
  have hcmd : PressureInv (computeCommands j) :=
    computeCommands_pressure (hf.ceilingsBound (by rw [htables, ht1]) hceil') (by rw [hlink]; exact hl)
      (by rw [hf.demand]; exact hdemand) (by rw [hroll]; exact hr) (hi.frame hc (by decide))
  exact PressureInv.frame (onValve_touches _ _) (by decide)
    (hcmd.figures (updateDeviations_figures _) (updateDeviations_touches _) (by decide))

/-! ### The stretch demand (R78, R80) -/

theorem leaveTest_stretch (s : State) : (leaveTest s).roll.stretch = s.roll.stretch := by
  unfold leaveTest
  split <;> rfl

/-- What the roll monitor does to the stretch demand on a set or at its timer: it keeps it, lowers it, or sets it to the
intervention demand. -/
def StretchBound (s t : State) : Prop := t.roll.stretch ≤ max s.roll.stretch (t3Intervention s.tables.t3)

namespace StretchBound

variable {s t : State}

theorem of_le (h : t.roll.stretch ≤ s.roll.stretch) : StretchBound s t := h.trans (Nat.le_max_left _ _)

theorem goIdle (s : State) : StretchBound s (goIdle s) := of_le (Nat.zero_le _)

theorem goWatch (s : State) : StretchBound s (goWatch s) := of_le (Nat.zero_le _)

theorem goRecover (s : State) : StretchBound s (goRecover s) := of_le le_rfl

theorem goIntervene (s : State) : StretchBound s (goIntervene s) := by
  unfold Machine.goIntervene
  dsimp only
  rw [StretchBound, show (requestTally _ _).roll = _ from requestTally_touches _ _ .roll (by decide)]
  exact Nat.le_max_right _ _

theorem tryTest (s : State) : StretchBound s (tryTest s) := by
  refine of_le ?_
  unfold Machine.tryTest
  split
  · split
    · split <;> exact Nat.zero_le _
    · exact Nat.zero_le _
  · exact Nat.zero_le _

theorem rampStep (s : State) : StretchBound s (rampStep s) := by
  unfold Machine.rampStep
  dsimp only
  split
  · exact goIdle s
  · exact of_le (Nat.sub_le _ _)

theorem rollStateStep (s : State) : StretchBound s (rollStateStep s) := by
  unfold Machine.rollStateStep
  split
  case h_1 =>
    unfold idleStep
    dsimp only
    split
    · split
      · exact goIntervene s
      · split
        · exact tryTest s
        · exact of_le le_rfl
    · exact of_le le_rfl
  case h_2 =>
    unfold testStep
    dsimp only
    split
    · split
      · exact goIntervene (s.onRoll _)
      · split
        · exact goIntervene s
        · split
          · exact goWatch (s.onRoll _)
          · split
            · exact goIdle (s.onRoll _)
            · exact of_le le_rfl
    · exact of_le le_rfl
  case h_3 =>
    unfold watchStep
    split
    · exact goIntervene s
    · exact of_le le_rfl
  case h_4 =>
    unfold interveneStep releaseHold
    dsimp only
    split
    · exact goRecover (s.onRoll _)
    · split
      · split <;> exact of_le le_rfl
      · exact of_le le_rfl
  case h_5 =>
    unfold recoverStep
    split
    · exact goIntervene s
    · exact rampStep s

theorem rollInvalidStep (s : State) : StretchBound s (rollInvalidStep s) := by
  unfold Machine.rollInvalidStep
  split
  case h_1 => exact of_le le_rfl
  case h_2 => exact goIdle (s.onRoll _)
  case h_3 => exact goIdle s
  case h_4 => exact goRecover s
  case h_5 => exact rampStep s

theorem rollTakesSet (s : State) : StretchBound s (rollTakesSet s) := by
  unfold Machine.rollTakesSet
  dsimp only
  split
  · exact rollStateStep ((updateThresholds s).onRoll _)
  · exact rollInvalidStep ((updateThresholds s).onRoll _)

theorem rollTimerExpiry (s : State) : StretchBound s (rollTimerExpiry s) := by
  unfold Machine.rollTimerExpiry testExpiry watchExpiry
  dsimp only
  split
  · split
    case h_1 =>
      split
      · exact goIdle ((updateThresholds s).onRoll _)
      · exact goWatch ((updateThresholds s).onRoll _)
    case h_2 =>
      split
      · exact goIdle (updateThresholds s)
      · split
        · exact goIntervene (updateThresholds s)
        · split
          · exact tryTest (updateThresholds s)
          · exact goIdle (updateThresholds s)
    case h_3 => exact goRecover (updateThresholds s)
    all_goals exact of_le le_rfl
  · exact of_le le_rfl

end StretchBound

/-- The roll monitor reaches the bounds through the stretch demand alone. -/
theorem PressureInv.stretched {s t : State} (h : PressureInv s) (hi : t3Intervention s.tables.t3 ≤ 1000)
    (hc : ChangesOnly rollParts s t) (hs : StretchBound s t) : PressureInv t := by
  obtain ⟨⟨hcmd, hceil⟩, hl, ha, hr, hin⟩ := (pressureInv_iff s).mp h
  have hf : SameFigures s t := .of_frame hc (by decide)
  have htables : t.tables = s.tables := hc .tables (by decide)
  have hlink : t.link = s.link := hc .link (by decide)
  refine (pressureInv_iff t).mpr ⟨⟨hf.commandsBound hcmd, hf.ceilingsBound (by rw [htables]) hceil⟩, hlink ▸ hl, ?_,
    hs.trans (Nat.max_le.mpr ⟨hr, hi⟩), hin.frame hc (by decide)⟩
  rw [hf.demand]
  exact ha

/-! ### The link's demand (R132) -/

/-- A change of the link record that leaves its demand. -/
theorem PressureInv.onLink {s : State} (h : PressureInv s) (f : Link → Link)
    (hf : ∀ l, (f l).demand = l.demand := by intro; rfl) : PressureInv (s.onLink f) :=
  h.of_same ⟨rfl, rfl, fun _ => rfl⟩ rfl (hf _) rfl rfl

theorem offerDemand_pressure {s : State} (h : PressureInv s) (seq : Nat) (stale substitute : Bool) :
    PressureInv (offerDemand seq stale substitute s) := PressureInv.frame (onRelay_touches s _) (by decide) h

theorem sendRearward_pressure {s : State} (h : PressureInv s) : PressureInv (sendRearward s) := by
  unfold sendRearward
  split
  case h_1 =>
    unfold offerFill
    exact offerDemand_pressure (h.onLink _) _ _ _
  case h_2 =>
    unfold offerSubstitute
    split
    · exact offerDemand_pressure (h.onLink _) _ _ _
    · exact h.onLink _
  all_goals exact h

theorem takeDemand_pressure {s : State} (h : PressureInv s) (data : List Byte) : PressureInv (takeDemand data s) := by
  have hfresh : PressureInv (s.onLink (freshLink data s.timeBase)) := by
    obtain ⟨hchan, -, ha, hr, hi⟩ := (pressureInv_iff s).mp h
    exact (pressureInv_iff _).mpr ⟨hchan, Nat.min_le_right _ _, ha, hr, hi⟩
  unfold takeDemand
  split
  · exact h.onLink _
  · split
    · unfold takeFresh
      dsimp only
      refine offerDemand_pressure (deriveDemand_pressure ?_) _ _ _
      split
      · exact evaluateFailSafe_pressure hfresh
      · exact hfresh
    · exact h.onLink _ fun l => by dsimp only; split <;> rfl

theorem takePosition_pressure {s : State} (h : PressureInv s) (data : List Byte) : PressureInv (takePosition data s) := by
  have relay : ∀ {t : State} (f : Relay → Relay), PressureInv t → PressureInv (t.onRelay f) := fun f =>
    PressureInv.frame (onRelay_touches _ f) (by decide)
  have mismatch : ∀ {t : State} n, PressureInv t → PressureInv (positionMismatch n t) := by
    intro t n ht
    unfold positionMismatch
    dsimp only
    split
    · exact PressureInv.frame (raiseAlert_touches _ _ _ _) (by decide) (ht.onLink _)
    · exact ht.onLink _
  have learn : ∀ {t : State} n, PressureInv t → PressureInv (learnPlacement n t) := by
    intro t n ht
    unfold learnPlacement
    split
    · split
      · exact relay _ (ht.onLink _)
      · exact ht
    · split
      · exact ht.onLink _
      · split
        · split
          · exact (ht.onLink _).onLink _
          · exact relay _ ((ht.onLink _).onLink _)
        · exact mismatch _ ht
  have fixed : ∀ {t : State} n, PressureInv t → PressureInv (fixedPlacement n t) := by
    intro t n ht
    unfold fixedPlacement
    split
    · exact ht.onLink _
    · exact mismatch _ ht
  have offer : ∀ {t : State}, PressureInv t → PressureInv (offerPosition t) := by
    intro t ht
    unfold offerPosition
    split
    · exact relay _ ht
    · exact ht
  have counted : PressureInv (s.onLink fun l => { l with positionFrames := satInc l.positionFrames }) :=
    h.onLink _
  unfold takePosition
  dsimp only
  split
  · exact h.onLink _
  · refine offer ?_
    split
    · exact learn _ counted
    · exact fixed _ counted

theorem demandTimerExpiry_pressure {s : State} (h : PressureInv s) : PressureInv (demandTimerExpiry s) := by
  have stale : PressureInv (enterStale s) := sendRearward_pressure (deriveDemand_pressure (h.onLink _))
  have lost : PressureInv (enterLost s) := by
    unfold enterLost
    refine sendRearward_pressure (deriveDemand_pressure (evaluateFailSafe_pressure ?_))
    refine PressureInv.frame (fillCaptureBlock_touches _ _ _) (by decide) ?_
    exact PressureInv.frame (raiseAlert_touches _ _ _ _) (by decide) (h.onLink _)
  unfold demandTimerExpiry
  split
  · split
    case h_1 => exact stale
    case h_2 => exact lost
    case h_3 => exact lost
    case h_4 => exact h
  · exact h

/-! ### Sample sets and sample loss -/

theorem onSample_pressure {s : State} (h : PressureInv s) (f : SamplePort → SamplePort)
    (hi : InputsInRange (s.onSample f)) : PressureInv (s.onSample f) := by
  obtain ⟨hchan, hl, ha, hr, -⟩ := (pressureInv_iff s).mp h
  exact (pressureInv_iff _).mpr ⟨hchan, hl, ha, hr, hi⟩

theorem PressureInv.inputs {s : State} (h : PressureInv s) : InputsInRange s := ((pressureInv_iff s).mp h).2.2.2.2

/-- An accepted set before it is handed to the blocks. -/
theorem acceptedSet_pressure {s : State} (h : PressureInv s) (bytes : List Byte) :
    PressureInv (if s.sample.loss = .lost then evaluateFailSafe (s.onSample (acceptSet bytes s.timeBase))
      else s.onSample (acceptSet bytes s.timeBase)) := by
  have hset := onSample_pressure h _ (acceptSet_inRange h.inputs bytes)
  split
  · exact evaluateFailSafe_pressure hset
  · exact hset

theorem takeSet_pressure {s : State} (hb : TablesBound s) (h : PressureInv s) (bytes : List Byte) :
    PressureInv (takeSet bytes s) := by
  have keep : ∀ {t u : State}, ChangesOnly setParts t u → TablesBound t → TablesBound u := fun hc =>
    TablesBound.frame hc (by decide)
  have hb' : TablesBound (if s.sample.loss = .lost then evaluateFailSafe (s.onSample (acceptSet bytes s.timeBase))
      else s.onSample (acceptSet bytes s.timeBase)) := by
    split
    · exact TablesBound.frame (evaluateFailSafe_touches _) (by decide)
          (TablesBound.frame (onSample_touches s _) (by decide) hb)
    · exact TablesBound.frame (onSample_touches s _) (by decide) hb
  refine (handSet_keeps (fun t => TablesBound t ∧ PressureInv t) ?_ ?_ ?_ ?_ ?_ ?_
    ⟨hb', acceptedSet_pressure h bytes⟩).2 <;> rintro t ⟨ht, hp⟩
  · exact ⟨ht.frame (spend_touches t) (by decide), PressureInv.frame (spend_touches t) (by decide) hp⟩
  · exact ⟨ht.frame (estimatorTakesSet_touches t) (by decide), PressureInv.frame (estimatorTakesSet_touches t) (by decide) hp⟩
  · exact ⟨ht.frame (arbiterTakesSet_touches t) (by decide), arbiterTakesSet_pressure ht.derate hp⟩
  · exact ⟨ht.frame (airTakesSet_touches t) (by decide), PressureInv.frame (airTakesSet_touches t) (by decide) hp⟩
  · exact ⟨ht.frame (rollTakesSet_touches t) (by decide), hp.stretched ht.intervention (rollTakesSet_touches t) (.rollTakesSet t)⟩
  · exact ⟨ht.frame (tyresTakeSet_touches t) (by decide), PressureInv.frame (tyresTakeSet_touches t) (by decide) hp⟩

/-- Going to rest for a sample loss leaves no stretch demand (R83). -/
theorem rollTakesLoss_stretch (s : State) : (rollTakesLoss s).roll.stretch = 0 := by
  unfold rollTakesLoss abortToIdle
  split <;> rfl

theorem declareLoss_pressure {s : State} (h : PressureInv s) : PressureInv (declareLoss s) := by
  have hlost : PressureInv (s.onSample loseSamples) :=
    onSample_pressure h _ (h.inputs.map (fun _ r => loseInput r) (fun _ _ => loseInput_inRange) rfl)
  unfold declareLoss
  refine PressureInv.frame (airTakesLoss_touches _) (by decide) ?_
  have hroll : ∀ t : State, PressureInv t → PressureInv (rollTakesLoss t) := fun t ht => by
    have hc := rollTakesLoss_touches t
    obtain ⟨⟨hcmd, hceil⟩, hl, ha, -, hi⟩ := (pressureInv_iff t).mp ht
    have hf : SameFigures t (rollTakesLoss t) := .of_frame hc (by decide)
    have htables : (rollTakesLoss t).tables = t.tables := hc .tables (by decide)
    have hlink : (rollTakesLoss t).link = t.link := hc .link (by decide)
    refine (pressureInv_iff _).mpr ⟨⟨hf.commandsBound hcmd, hf.ceilingsBound (by rw [htables]) hceil⟩, hlink ▸ hl, ?_, ?_,
      hi.frame hc (by decide)⟩
    · rw [hf.demand]; exact ha
    · rw [rollTakesLoss_stretch]; exact Nat.zero_le _
  refine hroll _ (evaluateFailSafe_pressure (deriveDemand_pressure ?_))
  refine PressureInv.frame (fillCaptureBlock_touches _ _ _) (by decide) ?_
  exact PressureInv.frame (raiseAlert_touches _ _ _ _) (by decide) hlost

/-! ### Activations (R38) -/

/-- The state once every channel has left its state for an activated T1 (R38). -/
def leftForT1 (s : State) : State :=
  s.onArbiter fun a => { a with channels := quadMap (fun _ r => leaveForT1 s r) a.channels, backupNext := true }

/-- The state once, after that, the counters are judged afresh and the pending halts cancelled. -/
def settledForT1 (s : State) : State :=
  allChannels.foldl (fun s c => cancelPendingHalt c s) (allChannels.foldl faultByThreshold (leftForT1 s))

theorem settledForT1_figures (s : State) : SameFigures (leftForT1 s) (settledForT1 s) :=
  .trans (.foldl _ _ faultByThreshold_figures _) (.foldl _ _ cancelPendingHalt_figures _)

theorem settledForT1_touches (s : State) : ChangesOnly [.arbiter, .alerts, .mgmt, .store] s (settledForT1 s) := by
  refine ChangesOnly.andThen (t := leftForT1 s) ((onArbiter_touches s _).within (by decide)) ?_
  refine ChangesOnly.andThen (foldl_touches _ allChannels faultByThreshold_touches _) ?_
  exact foldl_touches _ _ (fun t c => (cancelPendingHalt_touches t c).within (by decide)) _

theorem arbiterTakesT1_eq (s : State) : arbiterTakesT1 s = setCeilings (settledForT1 s) := rfl

/-- A channel that has left its state for T1 commands backup (R38). -/
theorem settledForT1_target (s : State) (c : Channel) : (chan (settledForT1 s) c).cmdTarget = 0 := by
  have hleft : chan (leftForT1 s) c = leaveForT1 s (chan s c) := quadGet_map _ _ _
  rw [(settledForT1_figures s).cmdTarget, hleft]
  rfl

theorem arbiterTakesT1_pressure {s : State} (hd : t4Derate s.tables.t4 ≤ 4096) (hl : s.link.demand ≤ 1000)
    (ha : s.arbiter.demand ≤ 1000) (hr : s.roll.stretch ≤ 1000) (hi : InputsInRange s) :
    PressureInv (arbiterTakesT1 s) := by
  have hc := settledForT1_touches s
  have htables : (settledForT1 s).tables = s.tables := hc .tables (by decide)
  have hlink : (settledForT1 s).link = s.link := hc .link (by decide)
  have hroll : (settledForT1 s).roll = s.roll := hc .roll (by decide)
  have hdemand : (settledForT1 s).arbiter.demand = s.arbiter.demand := (settledForT1_figures s).demand
  rw [arbiterTakesT1_eq]
  exact setCeilings_pressure (by rw [htables]; exact hd) (settledForT1_target s) (by rw [hlink]; exact hl)
    (by rw [hdemand]; exact ha) (by rw [hroll]; exact hr) (hi.frame hc (by decide))

theorem activateT1_pressure {s : State} (hd : t4Derate s.tables.t4 ≤ 4096) (h : PressureInv s) (t1 : Table) :
    PressureInv (activateT1 t1 s) := by
  obtain ⟨-, hl, ha, hr, hi⟩ := (pressureInv_iff s).mp h
  have hin : InputsInRange (portTakesT1 (s.onTables fun x => { x with t1 := t1 })) :=
    hi.map (fun i r => takeFlag (t1InputEnabled t1 i) r) (fun _ _ hrec => takeFlag_inRange hrec _) rfl
  unfold activateT1
  refine PressureInv.frame (spend_touches _) (by decide) ?_
  split
  · exact arbiterTakesT1_pressure (s := tyresTakeT1 _) hd hl ha hr hin
  · exact PressureInv.frame (tyresTakeT1_touches _) (by decide) (arbiterTakesT1_pressure hd hl ha hr hin)

theorem installTable_pressure {s : State} (hd : t4Derate s.tables.t4 ≤ 4096) (h : PressureInv s) (n : Nat) (bytes : Table) :
    PressureInv (installTable n bytes s) := by
  have tables : ∀ f : Tables → Tables, (∀ x, (f x).t1 = x.t1) → PressureInv (s.onTables f) := fun f hf =>
    h.of_same ⟨rfl, rfl, fun _ => rfl⟩ (hf _) rfl rfl rfl
  unfold installTable
  split
  case h_1 => exact activateT1_pressure hd h bytes
  case h_2 => exact PressureInv.frame (estimatorTakesT2_touches _) (by decide) (tables _ fun _ => rfl)
  case h_3 => exact tables _ fun _ => rfl
  case h_4 => exact PressureInv.frame (tyresTakeT4_touches _ _) (by decide) (tables _ fun _ => rfl)
  case h_5 => exact PressureInv.frame (tyresTakeT5_touches s _) (by decide) h
  case h_6 => exact PressureInv.frame (relayTakesT6_touches _) (by decide) (tables _ fun _ => rfl)
  case h_7 => exact h

/-! ### Resets -/

/-- Channels as a reset leaves them command nothing and have their ceilings at P_max (R39, R22). -/
theorem pressureInv_at_rest {s : State} (hc : ∀ c, ∃ strap, figures (chan s c) = figures (channelReset (t1PMax s.tables.t1 c) strap))
    (hl : s.link.demand ≤ 1000) (ha : s.arbiter.demand ≤ 1000) (hr : s.roll.stretch = 0) (hi : InputsInRange s) :
    PressureInv s := by
  refine (pressureInv_iff s).mpr ⟨⟨fun c => ?_, fun c => ?_⟩, hl, ha, hr ▸ Nat.zero_le _, hi⟩
  · obtain ⟨strap, h⟩ := hc c
    have htarget : (chan s c).cmdTarget = 0 := (congrArg ChannelRec.cmdTarget h :)
    rw [htarget]
    exact ⟨Nat.zero_le _, fun _ => rfl⟩
  · obtain ⟨strap, h⟩ := hc c
    exact (congrArg ChannelRec.ceiling h :).le

theorem functionalReset_pressure {s : State} (h : PressureInv s) : PressureInv (functionalReset s) := by
  obtain ⟨-, hl, -, -, -⟩ := (pressureInv_iff s).mp h
  unfold functionalReset
  dsimp only
  have hkeep := (onAlerts_touches s fun a => { a with queue := [] }).within (qs := [.arbiter, .tyres, .mgmt, .alerts]) (by decide)
  have hops := hkeep.andThen ((cancelOperations_touches _).within (by decide))
  generalize cancelOperations _ = u at hops ⊢
  have hlink : u.link = s.link := hops .link (by decide)
  have hin : InputsInRange (resetBlocks u) := inputsInRange_loaded rfl
  have hdemand : (resetBlocks u).link.demand ≤ 1000 := by
    show (linkAtReset u.timeBase u.link).demand ≤ 1000
    unfold linkAtReset
    split <;> rw [hlink] <;> exact hl
  have hrest : PressureInv (arbiterAfterReset (resetBlocks u)) := by
    refine pressureInv_at_rest (fun c => ⟨u.straps.startHalted, ?_⟩) hdemand (derivedDemand_le hdemand hin) rfl hin
    rw [chan, show (arbiterAfterReset (resetBlocks u)).arbiter.channels = quadMap (channelAtReset
      (resetBlocks u).tables.t1 u.straps.startHalted) u.arbiter.channels from rfl, quadGet_map]
    unfold channelAtReset
    dsimp only
    split <;> rfl
  have hloaded := PressureInv.frame (raiseLoad_touches _ [0, 1, 2, 3]) (by decide) hrest
  exact hloaded.figures (.foldl _ _ faultByThreshold_figures _) (foldl_touches _ _ faultByThreshold_touches _) (by decide)

theorem poweredState_pressure (nv : Memory) (prot : BitVec 16) (s : State) : PressureInv (poweredState nv prot s) := by
  refine pressureInv_at_rest (fun c => ⟨s.straps.startHalted, ?_⟩) (Nat.zero_le _) (Nat.zero_le _) rfl
    (inputsInRange_loaded rfl)
  rw [chan, show (poweredState nv prot s).arbiter.channels = channelsLoaded _ _ from rfl, channelsLoaded, quadGet_map]
  rfl

/-! ### Every step -/

theorem pressureInv_rule : StepRule (fun s => TablesBound s ∧ PressureInv s) PressureInv where
  weaken h := h.2
  frameP hc h := ⟨h.1.frame hc (by decide), PressureInv.frame hc (by decide) h.2⟩
  frameQ hc h := PressureInv.frame hc (by decide) h
  powered := poweredState_pressure
  reset h := functionalReset_pressure h.2
  release h := by
    unfold releaseResetLine
    split
    · exact h.2
    · exact h.2
  sampleSet bytes _ h := takeSet_pressure h.1 h.2 bytes
  countSet {s} h f hf := onSample_pressure h.2 f fun i => by
    rw [input, show (s.onSample f).sample.inputs = s.sample.inputs from hf _]
    exact h.2.inputs i
  sampleLoss h := declareLoss_pressure h.2
  refresh {s} h := by
    obtain ⟨⟨-, hceil⟩, hl, ha, hr, hi⟩ := (pressureInv_iff s).mp h.2
    exact computeCommands_pressure hceil hl ha hr hi
  status bytes c s h := by
    have hc : ChangesOnly [.arbiter, .alerts, .mgmt, .store] s (examineStatus bytes s c) := by
      unfold examineStatus
      split
      · exact ChangesOnly.ite _ (hardFault_touches s c _) (ChangesOnly.nothing _ s)
      · exact ChangesOnly.nothing _ s
    exact ⟨h.1.frame hc (by decide), h.2.figures (examineStatus_figures s bytes c) hc (by decide)⟩
  hold c s h := h.2.figures (holdTimerExpiry_figures s c) (holdTimerExpiry_touches s c) (by decide)
  rollTimer {s} h := h.2.stretched h.1.intervention (rollTimerExpiry_touches s) (.rollTimerExpiry s)
  error c s h := ⟨h.1.frame (errorEvent_touches s c) (by decide),
    h.2.figures (errorEvent_figures s c) (errorEvent_touches s c) (by decide)⟩
  demandFrame data _ h := takeDemand_pressure h.2 data
  positionFrame data _ h := takePosition_pressure h.2 data
  demandTimer h := demandTimerExpiry_pressure h.2
  rearwardTimer h := by
    unfold rearwardTimerExpiry
    split
    · exact sendRearward_pressure (h.2.onLink _)
    · exact h.2
  halt tag n p s h := h.2.figures (haltChannel_figures s tag n p) (haltChannel_touches s tag n p) (by decide)
  run tag n s h := h.2.figures (runChannel_figures s tag n) (runChannel_touches s tag n) (by decide)
  clear tag n s h := h.2.figures (clearChannel_figures s tag n) (clearChannel_touches s tag n) (by decide)
  activate n _ h _ := installTable_pressure h.1.derate h.2 n _

/-- Every step keeps the pressure bounds. -/
theorem step_keeps_pressure {s t : State} (hb : TablesBound s) (hs : PressureInv s) (h : step s = .next t) : PressureInv t :=
  pressureInv_rule.step h ⟨hb, hs⟩

end Sys2Proof.Machine
end

section
/-! The load estimator group by group: what a sample set and an activated T2 make of one estimate (R2 to R16). -/

namespace Sys2Proof.Machine

open Sys2Proof

/-! ### One group's estimate -/

@[simp] theorem estimate_onEstimate_same (g : Group) (f : Estimate → Estimate) (s : State) :
    estimate (s.onEstimate g f) g = f (estimate s g) := by cases g <;> rfl

theorem estimate_onEstimate_other {g g' : Group} (h : g' ≠ g) (f : Estimate → Estimate) (s : State) :
    estimate (s.onEstimate g f) g' = estimate s g' := by
  cases g <;> cases g'
  case a.b => rfl
  case b.a => rfl
  all_goals exact absurd rfl h

theorem estimate_frame {s t : State} {ps : List Part} (h : ChangesOnly ps s t) (hp : Part.load ∉ ps) (g : Group) :
    estimate t g = estimate s g := by
  have ht : t.load = s.load := h .load hp
  rw [estimate, ht, estimate]

@[simp] theorem estimate_requestTally (k : Fin 4) (s : State) (g : Group) :
    estimate (requestTally k s) g = estimate s g := estimate_frame (requestTally_touches s k) (by decide) g

/-! ### The rules on one estimate -/

/-- The freeze flag and the bellows-absent time noted on a set (R2, R4). -/
def notedEstimate (s : State) (g : Group) (e : Estimate) : Estimate :=
  { e with freeze := freezeCondition s g, absentSince := runUpdate (bellowsPressure s g).isNone s.timeBase e.absentSince }

/-- The overload flag judged (R14). -/
def judgedEstimate (t2 : Table) (g : Group) (e : Estimate) : Estimate :=
  { e with overload := decide (overloadLevel t2 g < e.load) }

/-- A seeded estimate (R5). -/
def seededEstimate (t2 : Table) (g : Group) (b : Nat) (e : Estimate) : Estimate :=
  judgedEstimate t2 g { withFilter t2 g (16 * b) e with state := .valid, fallbackReported := false }

/-- A VALID estimate whose filter has moved (R6). -/
def movedEstimate (t2 : Table) (g : Group) (b : Nat) (e : Estimate) : Estimate :=
  judgedEstimate t2 g (withFilter t2 g (e.filter.getD 0 + b - (e.filter.getD 0 + 8) / 16) e)

/-- An estimate that lapses to INVALID (R11). -/
def lapsedEstimate (t2 : Table) (g : Group) (now : Stamp) (e : Estimate) : Estimate :=
  { e with state := .invalid, ratio := t2Fallback t2 g, invalidSince := now, fallbackReported := false }

/-- An estimate after an unfrozen set (R5, R6, R11). -/
def unfrozenEstimate (s : State) (g : Group) (e : Estimate) : Estimate :=
  match e.state, bellowsPressure s g with
  | .invalid, some b => seededEstimate s.tables.t2 g b e
  | .invalid, none => e
  | .valid, some b => movedEstimate s.tables.t2 g b e
  | .valid, none => if runLasted s.timeBase e.absentSince 10000 then lapsedEstimate s.tables.t2 g s.timeBase e else e

/-- Whether LOAD_FALLBACK is due of an estimate (R12). -/
abbrev fallbackDue (now : Stamp) (e : Estimate) : Prop :=
  e.state = .invalid ∧ e.fallbackReported = false ∧ reached now e.invalidSince 10000 = true

/-- An estimate after a set but for the report of its fallback. -/
def estimateOnSet (s : State) (g : Group) (e : Estimate) : Estimate :=
  if freezeCondition s g then notedEstimate s g e else unfrozenEstimate s g (notedEstimate s g e)

/-- An estimate after an activated T2 (R16). -/
def estimateOnT2 (t2 : Table) (g : Group) (e : Estimate) : Estimate :=
  match e.state with
  | .valid => judgedEstimate t2 g { e with load := loadOf t2 g e.bellows, ratio := ratioOf t2 g (loadOf t2 g e.bellows) }
  | .invalid => { e with ratio := t2Fallback t2 g }

/-! ### The model's operations by these rules -/

theorem judgeOverload_estimate (g : Group) (s : State) :
    estimate (judgeOverload g s) g = judgedEstimate s.tables.t2 g (estimate s g) := by
  unfold judgeOverload
  dsimp only
  split
  · rw [estimate_requestTally, estimate_onEstimate_same]; rfl
  · rw [estimate_onEstimate_same]; rfl

theorem judgeOverload_other {g g' : Group} (h : g' ≠ g) (s : State) :
    estimate (judgeOverload g s) g' = estimate s g' := by
  unfold judgeOverload
  dsimp only
  split
  · rw [estimate_requestTally, estimate_onEstimate_other h]
  · rw [estimate_onEstimate_other h]

/-- The table store after a request for a tally's increment: discarded at 512, waiting while the store is busy, started
otherwise (R176). -/
def storeOnRequest (k : Fin 4) (now : Stamp) (t : Store) : Store :=
  if (t.state != .erasing) && decide (512 ≤ tallyValue t.nv k) then { t with discarded := satInc t.discarded }
  else if t.state != .idle then
    { t with pendingTally := quadSet t.pendingTally k (satInc8 (quadGet t.pendingTally k)) }
  else { t with state := .tally, ended := false, since := now, tally := some k }

/-- A request for a tally reads the table store and the clock alone. -/
theorem requestTally_store (k : Fin 4) (s : State) : (requestTally k s).store = storeOnRequest k s.timeBase s.store := by
  unfold requestTally tallyFull storeBusy startTally storeOnRequest
  split
  · rfl
  · split <;> rfl

/-- A rise of the overload flag requests an increment of TL3 (R14). -/
theorem judgeOverload_store (g : Group) (s : State) : (judgeOverload g s).store =
    if overloadLevel s.tables.t2 g < (estimate s g).load ∧ (estimate s g).overload = false then
      (requestTally tallyOverloads s).store else s.store := by
  unfold judgeOverload
  simp only [Bool.and_eq_true, decide_eq_true_eq, Bool.not_eq_true']
  split
  · rw [requestTally_store, requestTally_store]; rfl
  · rfl

theorem unfrozenStep_estimate (g : Group) (s : State) :
    estimate (unfrozenStep g s) g = unfrozenEstimate s g (estimate s g) := by
  unfold unfrozenStep unfrozenEstimate
  cases (estimate s g).state <;> cases bellowsPressure s g
  case invalid.none => rfl
  case invalid.some b => exact (judgeOverload_estimate g _).trans (by rw [estimate_onEstimate_same]; rfl)
  case valid.some b => exact (judgeOverload_estimate g _).trans (by rw [estimate_onEstimate_same]; rfl)
  case valid.none =>
    dsimp only
    split
    · exact estimate_onEstimate_same g _ s
    · rfl

theorem unfrozenStep_other {g g' : Group} (h : g' ≠ g) (s : State) :
    estimate (unfrozenStep g s) g' = estimate s g' := by
  unfold unfrozenStep
  split
  · exact (judgeOverload_other h _).trans (estimate_onEstimate_other h _ s)
  · rfl
  · exact (judgeOverload_other h _).trans (estimate_onEstimate_other h _ s)
  · split
    · exact estimate_onEstimate_other h _ s
    · rfl

theorem reportFallback_of_due {g : Group} {s : State} (h : fallbackDue s.timeBase (estimate s g)) :
    reportFallback g s = raiseAlert .loadFallback (groupSubject g) (t2Fallback s.tables.t2 g)
      (s.onEstimate g fun e => { e with fallbackReported := true }) := if_pos h

theorem reportFallback_of_not_due {g : Group} {s : State} (h : ¬fallbackDue s.timeBase (estimate s g)) :
    reportFallback g s = s := if_neg h

/-- A group's estimate after its report: the report is noted and nothing else. -/
theorem reportFallback_estimate (g : Group) (s : State) : estimate (reportFallback g s) g =
    { estimate s g with
      fallbackReported := (estimate s g).fallbackReported || decide (fallbackDue s.timeBase (estimate s g)) } := by
  by_cases h : fallbackDue s.timeBase (estimate s g)
  · rw [reportFallback_of_due h, estimate_frame (raiseAlert_touches _ _ _ _) (by decide), estimate_onEstimate_same]
    simp [h]
  · rw [reportFallback_of_not_due h]
    simp [h]

theorem reportFallback_other {g g' : Group} (h : g' ≠ g) (s : State) :
    estimate (reportFallback g s) g' = estimate s g' := by
  by_cases hd : fallbackDue s.timeBase (estimate s g)
  · rw [reportFallback_of_due hd, estimate_frame (raiseAlert_touches _ _ _ _) (by decide), estimate_onEstimate_other h]
  · rw [reportFallback_of_not_due hd]

/-- The state of a group's set before the report of its fallback. -/
def estimatedSet (g : Group) (s : State) : State :=
  if freezeCondition s g then noteSet g s else unfrozenStep g (noteSet g s)

theorem estimateTakesSet_eq (g : Group) (s : State) : estimateTakesSet g s = reportFallback g (estimatedSet g s) := rfl

theorem estimatedSet_estimate (g : Group) (s : State) :
    estimate (estimatedSet g s) g = estimateOnSet s g (estimate s g) := by
  have hnote : estimate (noteSet g s) g = notedEstimate s g (estimate s g) := estimate_onEstimate_same g _ s
  unfold estimatedSet estimateOnSet
  split
  · exact hnote
  · rw [unfrozenStep_estimate, hnote]
    rfl

theorem estimatedSet_other {g g' : Group} (h : g' ≠ g) (s : State) :
    estimate (estimatedSet g s) g' = estimate s g' := by
  have hnote : estimate (noteSet g s) g' = estimate s g' := estimate_onEstimate_other h _ s
  unfold estimatedSet
  split
  · exact hnote
  · rw [unfrozenStep_other h, hnote]

theorem estimatedSet_touches (g : Group) (s : State) : ChangesOnly [.load, .store] s (estimatedSet g s) := by
  have note : ChangesOnly [.load, .store] s (noteSet g s) := (onEstimate_touches s _ _).within (by decide)
  unfold estimatedSet unfrozenStep
  refine ChangesOnly.ite _ note (note.andThen ?_)
  split
  · exact ((onEstimate_touches _ _ _).within (by decide)).andThen (judgeOverload_touches _ g)
  · exact ChangesOnly.nothing _ _
  · exact ((onEstimate_touches _ _ _).within (by decide)).andThen (judgeOverload_touches _ g)
  · exact ChangesOnly.ite _ ((onEstimate_touches _ _ _).within (by decide)) (ChangesOnly.nothing _ _)

theorem estimateTakesSet_estimate (g : Group) (s : State) : estimate (estimateTakesSet g s) g =
    { estimateOnSet s g (estimate s g) with
      fallbackReported := (estimateOnSet s g (estimate s g)).fallbackReported ||
        decide (fallbackDue s.timeBase (estimateOnSet s g (estimate s g))) } := by
  have hclock : (estimatedSet g s).timeBase = s.timeBase := estimatedSet_touches g s .clock (by decide)
  rw [estimateTakesSet_eq, reportFallback_estimate, estimatedSet_estimate, hclock]

theorem estimateTakesSet_other {g g' : Group} (h : g' ≠ g) (s : State) :
    estimate (estimateTakesSet g s) g' = estimate s g' := by
  rw [estimateTakesSet_eq, reportFallback_other h, estimatedSet_other h]

/-! ### What the rules read -/

section Reads

variable {s t : State}

theorem reading_congr (h : t.sample = s.sample) (i : Fin 16) : reading t i = reading s i := by
  unfold reading inputValid inputValue input
  rw [h]

theorem bellowsPressure_congr (h : t.sample = s.sample) (g : Group) : bellowsPressure t g = bellowsPressure s g := by
  unfold bellowsPressure
  rw [reading_congr h, reading_congr h]

theorem freezeCondition_congr (hs : t.sample = s.sample) (ht : t.tables = s.tables) (ha : t.arbiter = s.arbiter)
    (hr : t.roll = s.roll) (g : Group) : freezeCondition t g = freezeCondition s g := by
  unfold freezeCondition demandLevel rollIdle lateral inputValid input
  rw [hs, ht, ha, hr]

theorem estimateOnSet_congr (h : ChangesOnly [.load, .store, .alerts] s t) (g : Group) :
    estimateOnSet t g = estimateOnSet s g := by
  have htables : t.tables = s.tables := h .tables (by decide)
  have hclock : t.timeBase = s.timeBase := h .clock (by decide)
  have hbellows := bellowsPressure_congr (h .sample (by decide)) g
  have hfreeze := freezeCondition_congr (h .sample (by decide)) htables (h .arbiter (by decide)) (h .roll (by decide)) g
  funext e
  unfold estimateOnSet notedEstimate unfrozenEstimate
  rw [hbellows, hfreeze, hclock, htables]

end Reads

/-- Each group's estimate after a set: the groups do not read each other (R2 to R14). -/
theorem estimatorTakesSet_estimate (s : State) (g : Group) : estimate (estimatorTakesSet s) g =
    { estimateOnSet s g (estimate s g) with
      fallbackReported := (estimateOnSet s g (estimate s g)).fallbackReported ||
        decide (fallbackDue s.timeBase (estimateOnSet s g (estimate s g))) } := by
  cases g with
  | a => exact (estimateTakesSet_other (by decide) _).trans (estimateTakesSet_estimate .a s)
  | b =>
    have htouch := estimateTakesSet_touches s .a
    have hclock : (estimateTakesSet .a s).timeBase = s.timeBase := htouch .clock (by decide)
    unfold estimatorTakesSet
    rw [estimateTakesSet_estimate, estimateOnSet_congr htouch, hclock, estimateTakesSet_other (by decide)]

theorem estimateOnT2_of_valid {e : Estimate} (h : e.state = .valid) (t2 : Table) (g : Group) : estimateOnT2 t2 g e =
    judgedEstimate t2 g { e with load := loadOf t2 g e.bellows, ratio := ratioOf t2 g (loadOf t2 g e.bellows) } := by
  simp only [estimateOnT2, h]

theorem estimateOnT2_of_invalid {e : Estimate} (h : e.state = .invalid) (t2 : Table) (g : Group) :
    estimateOnT2 t2 g e = { e with ratio := t2Fallback t2 g } := by
  simp only [estimateOnT2, h]

theorem estimateTakesT2_estimate (g : Group) (s : State) :
    estimate (estimateTakesT2 g s) g = estimateOnT2 s.tables.t2 g (estimate s g) := by
  unfold estimateTakesT2
  split
  · next h =>
    rw [estimateOnT2_of_valid h, judgeOverload_estimate, estimate_onEstimate_same]
    rfl
  · next h => rw [estimateOnT2_of_invalid h, estimate_onEstimate_same]

theorem estimateTakesT2_other {g g' : Group} (h : g' ≠ g) (s : State) :
    estimate (estimateTakesT2 g s) g' = estimate s g' := by
  unfold estimateTakesT2
  split
  · exact (judgeOverload_other h _).trans (estimate_onEstimate_other h _ s)
  · exact estimate_onEstimate_other h _ s

theorem estimatorTakesT2_estimate (s : State) (g : Group) :
    estimate (estimatorTakesT2 s) g = estimateOnT2 s.tables.t2 g (estimate s g) := by
  cases g with
  | a => exact (estimateTakesT2_other (by decide) _).trans (estimateTakesT2_estimate .a s)
  | b =>
    have htables : (estimateTakesT2 .a s).tables = s.tables := estimateTakesT2_touches s .a .tables (by decide)
    unfold estimatorTakesT2
    rw [estimateTakesT2_estimate, htables, estimateTakesT2_other (by decide)]

end Sys2Proof.Machine
end

section
/-! The load estimates (R6 to R10), and with them what every step keeps of pressures, roll monitor and loads. -/

namespace Sys2Proof.Machine

open Sys2Proof

/-! ### What an estimate says of its group -/

/-- `LoadInv` of one estimate under a T2. -/
def LoadAccount (t2 : Table) (g : Group) (e : Estimate) : Prop :=
  (e.state = .valid → ∃ f, e.filter = some f ∧ f ≤ 16000 ∧ e.bellows = (f + 8) / 16 ∧ e.load = loadOf t2 g e.bellows ∧
      e.ratio = ratioOf t2 g e.load) ∧
    (e.state = .invalid → e.ratio = t2Fallback t2 g) ∧ e.ratio ≤ 4096

theorem loadInv_iff (s : State) : LoadInv s ↔ ∀ g, LoadAccount s.tables.t2 g (estimate s g) := Iff.rfl

/-- A load ratio is at most 4096 (R9). -/
theorem ratioOf_le (t2 : Table) (g : Group) (load : Nat) : ratioOf t2 g load ≤ 4096 := by
  unfold ratioOf
  dsimp only
  split
  · exact Nat.zero_le _
  · split
    · exact le_rfl
    · have hspan : 0 < t2Laden t2 g - t2Empty t2 g := by omega
      have hlow : load - t2Empty t2 g + 1 ≤ t2Laden t2 g - t2Empty t2 g := by omega
      apply Nat.lt_succ_iff.mp
      rw [Nat.div_lt_iff_lt_mul hspan]
      omega

/-- The filter of a bellows pressure of at most 1000 kPa stays within 16 times that (R5, R6). -/
theorem filter_le {f b : Nat} (hf : f ≤ 16000) (hb : b ≤ 1000) : f + b - (f + 8) / 16 ≤ 16000 := by omega

/-- An estimate with its filter set and the rest computed from it meets the account, whatever it was (R6, R8, R9). -/
theorem withFilter_account (t2 : Table) (g : Group) {f : Nat} (hf : f ≤ 16000) {e : Estimate}
    (h : e.state = .valid ∧ e.filter = some f ∧ e.bellows = (f + 8) / 16 ∧ e.load = loadOf t2 g ((f + 8) / 16) ∧
      e.ratio = ratioOf t2 g (loadOf t2 g ((f + 8) / 16))) : LoadAccount t2 g e := by
  obtain ⟨hstate, hfilter, hbellows, hload, hratio⟩ := h
  refine ⟨fun _ => ⟨f, hfilter, hf, hbellows, ?_, ?_⟩, fun hs => ?_, ?_⟩
  · rw [hload, hbellows]
  · rw [hratio, hload]
  · rw [hstate] at hs
    cases hs
  · rw [hratio]
    exact ratioOf_le _ _ _

/-- The bellows pressure formed of inputs in range is at most 1000 kPa (R4). -/
theorem bellowsPressure_le {s : State} (h : InputsInRange s) {g : Group} {b : Nat} (hb : bellowsPressure s g = some b) :
    b ≤ 1000 := by
  have side : ∀ sd v, reading s (inputBellows g sd) = some v → v ≤ 1000 := fun sd v hv => by
    have hle := reading_le h hv
    have hmax : inputMax (inputBellows g sd) = 1000 := by cases g <;> cases sd <;> rfl
    omega
  unfold bellowsPressure at hb
  split at hb
  · next l r hl hr =>
    have := side _ _ hl
    have := side _ _ hr
    cases hb
    omega
  · next l hl _ =>
    cases hb
    exact side _ _ hl
  · exact side _ _ hb

/-! ### Sample sets -/

theorem unfrozenEstimate_account {s : State} {g : Group} (hb : t2Fallback s.tables.t2 g ≤ 4096)
    (hin : InputsInRange s) {e : Estimate}
    (h : LoadAccount s.tables.t2 g e) : LoadAccount s.tables.t2 g (unfrozenEstimate s g e) := by
  unfold unfrozenEstimate
  split
  · next b _ hbel =>
    have := bellowsPressure_le hin hbel
    exact withFilter_account _ g (f := 16 * b) (by omega) ⟨rfl, rfl, rfl, rfl, rfl⟩
  · exact h
  · next b hstate hbel =>
    obtain ⟨f, hfilter, hf, -⟩ := h.1 hstate
    refine withFilter_account _ g (f := f + b - (f + 8) / 16) (filter_le hf (bellowsPressure_le hin hbel)) ?_
    simp [movedEstimate, judgedEstimate, withFilter, hfilter, hstate]
  · split
    · exact ⟨nofun, fun _ => rfl, hb⟩
    · exact h

theorem estimatorTakesSet_keeps_load {s : State} (hb : TablesBound s) (hin : InputsInRange s) (h : LoadInv s) :
    LoadInv (estimatorTakesSet s) := by
  have htables : (estimatorTakesSet s).tables = s.tables := estimatorTakesSet_touches s .tables (by decide)
  intro g
  rw [estimatorTakesSet_estimate, htables]
  show LoadAccount s.tables.t2 g (estimateOnSet s g (estimate s g))
  unfold estimateOnSet
  split
  · exact h g
  · exact unfrozenEstimate_account (hb.fallback g) hin (h g)

theorem LoadInv.frame {s t : State} {ps : List Part} (hc : ChangesOnly ps s t) (hl : Part.load ∉ ps)
    (ht : Part.tables ∉ ps) (h : LoadInv s) : LoadInv t := by
  have htables : t.tables = s.tables := hc .tables ht
  intro g
  rw [estimate_frame hc hl, htables]
  exact h g

theorem takeSet_keeps_load {s : State} (hb : TablesBound s) (hin : InputsInRange s) (h : LoadInv s) (bytes : List Byte) :
    LoadInv (takeSet bytes s) := by
  have frame : ∀ {t u : State} {ps : List Part}, ChangesOnly ps t u → Part.load ∉ ps → Part.tables ∉ ps → Part.sample ∉ ps →
      TablesBound t ∧ InputsInRange t ∧ LoadInv t → TablesBound u ∧ InputsInRange u ∧ LoadInv u :=
    fun hc hl ht hs ⟨ht0, hi0, hl0⟩ => ⟨ht0.frame hc ht, hi0.frame hc hs, hl0.frame hc hl ht⟩
  have accepted : TablesBound (s.onSample (acceptSet bytes s.timeBase)) ∧
      InputsInRange (s.onSample (acceptSet bytes s.timeBase)) ∧ LoadInv (s.onSample (acceptSet bytes s.timeBase)) :=
    ⟨hb.frame (onSample_touches s _) (by decide), acceptSet_inRange hin bytes, h⟩
  unfold takeSet
  refine (handSet_keeps (fun t => TablesBound t ∧ InputsInRange t ∧ LoadInv t)
    (fun t => frame (spend_touches t) (by decide) (by decide) (by decide)) ?_
    (fun t => frame (arbiterTakesSet_touches t) (by decide) (by decide) (by decide))
    (fun t => frame (airTakesSet_touches t) (by decide) (by decide) (by decide))
    (fun t => frame (rollTakesSet_touches t) (by decide) (by decide) (by decide))
    (fun t => frame (tyresTakeSet_touches t) (by decide) (by decide) (by decide)) ?_).2.2
  · rintro t ⟨htb, hti, htl⟩
    exact ⟨htb.frame (estimatorTakesSet_touches t) (by decide), hti.frame (estimatorTakesSet_touches t) (by decide),
      estimatorTakesSet_keeps_load htb hti htl⟩
  · split
    · exact frame (evaluateFailSafe_touches _) (by decide) (by decide) (by decide) accepted
    · exact accepted

/-! ### Activation and resets -/

/-- An activated T2 keeps the account of an estimate: it is computed again from the filter, or takes the new fallback
(R16). -/
theorem estimateOnT2_account {old t2 : Table} {g : Group} (hb : t2Fallback t2 g ≤ 4096) {e : Estimate}
    (h : LoadAccount old g e) : LoadAccount t2 g (estimateOnT2 t2 g e) := by
  cases hs : e.state with
  | valid =>
    obtain ⟨f, hfilter, hf, hbellows, -⟩ := h.1 hs
    rw [estimateOnT2_of_valid hs]
    exact withFilter_account t2 g hf ⟨hs, hfilter, hbellows, by rw [← hbellows]; rfl, by rw [← hbellows]; rfl⟩
  | invalid =>
    rw [estimateOnT2_of_invalid hs]
    exact ⟨fun hv => absurd (hs.symm.trans hv) (by decide), fun _ => rfl, hb⟩

/-- An activated T1 beyond the table itself (R28, R38, R130). -/
theorem activateT1_rest (s : State) (bytes : Table) :
    ChangesOnly [.sample, .arbiter, .tyres, .alerts, .mgmt, .store, .free] (s.onTables fun x => { x with t1 := bytes })
      (activateT1 bytes s) := by
  have port := (portTakesT1_touches (s.onTables fun x => { x with t1 := bytes })).within
    (qs := [.sample, .arbiter, .tyres, .alerts, .mgmt, .store, .free]) (by decide)
  unfold activateT1
  refine ChangesOnly.andThen (ChangesOnly.ite _ (port.andThen ?_) (port.andThen ?_)) ((spend_touches _).within (by decide))
  · exact ChangesOnly.andThen ((tyresTakeT1_touches _).within (by decide)) ((arbiterTakesT1_touches _).within (by decide))
  · exact ChangesOnly.andThen ((arbiterTakesT1_touches _).within (by decide)) ((tyresTakeT1_touches _).within (by decide))

theorem installTable_keeps_load {n : Nat} {bytes : Table} {s : State} (hv : tableCheck n bytes = none) (h : LoadInv s) :
    LoadInv (installTable n bytes s) := by
  have tables : ∀ f : Tables → Tables, (∀ x, (f x).t2 = x.t2) → LoadInv (s.onTables f) := fun f hf g => by
    show LoadAccount (f s.tables).t2 g (estimate s g)
    rw [hf]
    exact h g
  unfold installTable
  split
  case h_1 =>
    refine LoadInv.frame (activateT1_rest s bytes) (by decide) (by decide) (tables _ fun _ => rfl)
  case h_2 =>
    intro g
    have htables : (estimatorTakesT2 (s.onTables fun x => { x with t2 := bytes })).tables.t2 = bytes :=
      congrArg Tables.t2 (estimatorTakesT2_touches _ .tables (by decide) :)
    rw [estimatorTakesT2_estimate, htables]
    exact estimateOnT2_account (groupValid_of_tableCheck hv g).fallback (h g)
  case h_3 => exact tables _ fun _ => rfl
  case h_4 => exact LoadInv.frame (tyresTakeT4_touches _ _) (by decide) (by decide) (tables _ fun _ => rfl)
  case h_5 => exact LoadInv.frame (tyresTakeT5_touches s _) (by decide) (by decide) h
  case h_6 => exact LoadInv.frame (relayTakesT6_touches _) (by decide) (by decide) (tables _ fun _ => rfl)
  case h_7 => exact h

/-- The estimates as a reset leaves them (R1). -/
theorem loadInv_at_rest {s : State} (hv : tableCheck 2 s.tables.t2 = none)
    (h : ∀ g, ∃ now, estimate s g = estimateReset (t2Fallback s.tables.t2 g) now) : LoadInv s := by
  intro g
  obtain ⟨now, hg⟩ := h g
  rw [hg]
  exact ⟨nofun, fun _ => rfl, (groupValid_of_tableCheck hv g).fallback⟩

theorem functionalReset_meets_load (s : State) : LoadInv (functionalReset s) := by
  obtain ⟨u, -, h⟩ := functionalReset_around s
  refine LoadInv.frame h (by decide) (by decide) (loadInv_at_rest ?_ fun g => ⟨u.timeBase, ?_⟩)
  · exact loadedT2_valid _
  · cases g <;> rfl

theorem poweredState_meets_load (nv : Memory) (prot : BitVec 16) (s : State) : LoadInv (poweredState nv prot s) := by
  refine loadInv_at_rest ?_ fun g => ⟨0, ?_⟩
  · exact loadedT2_valid _
  · cases g <;> rfl

/-! ### Every step -/

theorem loadInv_rule : StepRule (fun s => TablesBound s ∧ InputsInRange s ∧ LoadInv s) LoadInv where
  weaken h := h.2.2
  frameP hc h := ⟨h.1.frame hc (by decide), h.2.1.frame hc (by decide), h.2.2.frame hc (by decide) (by decide)⟩
  frameQ hc h := h.frame hc (by decide) (by decide)
  powered := poweredState_meets_load
  reset _ := functionalReset_meets_load _
  release h := by
    unfold releaseResetLine
    split
    · exact h.2.2
    · exact h.2.2
  sampleSet bytes _ h := takeSet_keeps_load h.1 h.2.1 h.2.2 bytes
  countSet h _ _ := h.2.2
  sampleLoss {s} h := by
    have hlost := h.2.2.frame (onSample_touches s loseSamples) (by decide) (by decide)
    unfold declareLoss
    refine LoadInv.frame (airTakesLoss_touches _) (by decide) (by decide) ?_
    refine LoadInv.frame (rollTakesLoss_touches _) (by decide) (by decide) ?_
    refine LoadInv.frame (evaluateFailSafe_touches _) (by decide) (by decide) ?_
    refine LoadInv.frame (deriveDemand_touches _) (by decide) (by decide) ?_
    refine LoadInv.frame (fillCaptureBlock_touches _ _ _) (by decide) (by decide) ?_
    exact LoadInv.frame (raiseAlert_touches _ _ _ _) (by decide) (by decide) hlost
  refresh h := h.2.2
  status bytes c s h := by
    unfold examineStatus
    split
    · split
      · have hc := hardFault_touches s c ‹_›
        exact ⟨h.1.frame hc (by decide), h.2.1.frame hc (by decide), h.2.2.frame hc (by decide) (by decide)⟩
      · exact h
    · exact h
  hold c s h := h.2.2.frame (holdTimerExpiry_touches s c) (by decide) (by decide)
  rollTimer h := h.2.2.frame (rollTimerExpiry_touches _) (by decide) (by decide)
  error c s h := by
    have hc := errorEvent_touches s c
    exact ⟨h.1.frame hc (by decide), h.2.1.frame hc (by decide), h.2.2.frame hc (by decide) (by decide)⟩
  demandFrame data s h := h.2.2.frame (takeDemand_touches s data) (by decide) (by decide)
  positionFrame data s h := h.2.2.frame (takePosition_touches s data) (by decide) (by decide)
  demandTimer h := h.2.2.frame (demandTimerExpiry_touches _) (by decide) (by decide)
  rearwardTimer h := h.2.2.frame (rearwardTimerExpiry_touches _) (by decide) (by decide)
  halt _ _ _ s h := h.2.2.frame (haltChannel_touches s _ _ _) (by decide) (by decide)
  run _ _ s h := h.2.2.frame (runChannel_touches s _ _) (by decide) (by decide)
  clear _ _ s h := h.2.2.frame (clearChannel_touches s _ _) (by decide) (by decide)
  activate _ _ h hok := installTable_keeps_load (activation_valid hok).1 h.2.2

/-- Every step keeps what the load estimates say of their groups. -/
theorem step_keeps_load {s t : State} (hb : TablesBound s) (hin : InputsInRange s) (hs : LoadInv s)
    (h : step s = .next t) : LoadInv t := loadInv_rule.step h ⟨hb, hin, hs⟩

/-- Settles O59: each of the three invariants is led through a step by its rule. -/
theorem stepsKeepPressuresRollAndLoads : Obligations.StepsKeepPressuresRollAndLoads :=
  ⟨fun _ _ htables hpressure h => step_keeps_pressure htables.bound hpressure h, fun _ _ hroll h => step_keeps_roll hroll h,
    fun _ _ htables hpressure hload h => step_keeps_load htables.bound hpressure.inputs hload h⟩

end Sys2Proof.Machine
end

section
/-! A sample set for one of its takers: the five blocks take it in no fixed order, and each takes it once (R25). -/

namespace Sys2Proof.Machine

open Sys2Proof

/-- A run through a list of functions that holds `f` once, up to a relation that every other function of the list keeps. -/
theorem foldl_once {α : Type} {E : α → α → Prop} (hrefl : ∀ a, E a a) (htrans : ∀ {a b c}, E a b → E b c → E a c)
    {l rest : List (α → α)} {f : α → α} (hperm : l.Perm (f :: rest)) (hrest : ∀ g ∈ rest, ∀ a, E a (g a)) (a : α) :
    ∃ u, E a u ∧ E (f u) (l.foldl (fun a g => g a) a) := by
  have run : ∀ l : List (α → α), (∀ g ∈ l, g ∈ rest) → ∀ a, E a (l.foldl (fun a g => g a) a) := fun l hl a =>
    foldl_keeps (fun b => E a b) _ l (fun b g hg hb => htrans hb (hrest g (hl g hg) b)) a (hrefl a)
  obtain ⟨before, after, rfl⟩ := List.append_of_mem (hperm.mem_iff.mpr List.mem_cons_self)
  have hothers : (before ++ after).Perm rest := (List.perm_middle.symm.trans hperm).cons_inv
  rw [List.foldl_append, List.foldl_cons]
  exact ⟨_, run before (fun g hg => hothers.mem_iff.mp (List.mem_append_left _ hg)) a,
    run after (fun g hg => hothers.mem_iff.mp (List.mem_append_right _ hg)) _⟩

/-- The handing of a set for one of its takers: it acts once, on the state up to what the others and the counter of the
free values change. -/
theorem handSet_once {E : State → State → Prop} (hrefl : ∀ s, E s s) (htrans : ∀ {s t u}, E s t → E t u → E s u)
    {f : State → State} {rest : List (State → State)} (hperm : setTakers.Perm (f :: rest))
    (hrest : ∀ g ∈ rest, ∀ s, E s (g s)) (hspend : ∀ s, E s s.spend) (s : State) :
    ∃ u, E s u ∧ E (f u) (handSet s) := by
  obtain ⟨u, hu, hfu⟩ := foldl_once hrefl htrans ((arrange_perm _ _).trans hperm) hrest s
  exact ⟨u, hu, htrans hfu (hspend _)⟩

end Sys2Proof.Machine
end

section
/-! A frozen load estimate stays (R7): no command changes the estimate of a group that is frozen after it. -/

namespace Sys2Proof.Machine

open Sys2Proof

/-- An estimate held over a command: but for the freeze flag, the bellows-absent time and the report of its fallback
nothing of it changed (R4, R7, R12). -/
def EstimateHeld (e e' : Estimate) : Prop :=
  e' = { e with freeze := e'.freeze, absentSince := e'.absentSince, fallbackReported := e'.fallbackReported }

/-- Every group that is frozen holds the estimate of an earlier load record. -/
def FrozenHold (l : Pair Estimate) (t : State) : Prop :=
  ∀ g, (estimate t g).freeze = true → EstimateHeld (pairGet l g) (estimate t g)

/-- The figures of a held estimate, one by one. -/
theorem EstimateHeld.figures {e e' : Estimate} (h : EstimateHeld e e') : e'.filter = e.filter ∧ e'.bellows = e.bellows ∧
    e'.load = e.load ∧ e'.ratio = e.ratio ∧ e'.state = e.state ∧ e'.overload = e.overload ∧
    e'.invalidSince = e.invalidSince :=
  ⟨(congrArg Estimate.filter h :), (congrArg Estimate.bellows h :), (congrArg Estimate.load h :),
    (congrArg Estimate.ratio h :), (congrArg Estimate.state h :), (congrArg Estimate.overload h :),
    (congrArg Estimate.invalidSince h :)⟩

theorem EstimateHeld.refl (e : Estimate) : EstimateHeld e e := rfl

theorem frozenHold_of_load {l : Pair Estimate} {t : State} (h : t.load = l) : FrozenHold l t := fun g _ => by
  rw [estimate, h]
  exact EstimateHeld.refl _

theorem FrozenHold.frame {l : Pair Estimate} {s t : State} {ps : List Part} (hc : ChangesOnly ps s t) (hp : Part.load ∉ ps)
    (h : FrozenHold l s) : FrozenHold l t := fun g => by
  rw [estimate_frame hc hp]
  exact h g

theorem frozenHold_of_unfrozen (l : Pair Estimate) {t : State} (h : ∀ g, (estimate t g).freeze = false) : FrozenHold l t :=
  fun g hg => absurd (hg.symm.trans (h g)) (by decide)

theorem load_frame {l : Pair Estimate} {s t : State} {ps : List Part} (hc : ChangesOnly ps s t) (hp : Part.load ∉ ps)
    (h : s.load = l) : t.load = l := Eq.trans (hc .load hp) h

/-! ### A sample set -/

/-- The overload judgement, the filter and the lapse leave the freeze flag. -/
theorem unfrozenEstimate_freeze (s : State) (g : Group) (e : Estimate) : (unfrozenEstimate s g e).freeze = e.freeze := by
  unfold unfrozenEstimate
  split
  · rfl
  · rfl
  · rfl
  · split
    · rfl
    · rfl

/-- The freeze flag after a set is the freeze condition of the set (R2). -/
theorem estimateOnSet_freeze (s : State) (g : Group) (e : Estimate) :
    (estimateOnSet s g e).freeze = freezeCondition s g := by
  unfold estimateOnSet
  split
  · rfl
  · exact unfrozenEstimate_freeze s g _

theorem estimateOnSet_of_frozen {s : State} {g : Group} (h : freezeCondition s g = true) (e : Estimate) :
    estimateOnSet s g e = notedEstimate s g e := if_pos h

theorem estimateOnSet_of_unfrozen {s : State} {g : Group} (h : ¬freezeCondition s g = true) (e : Estimate) :
    estimateOnSet s g e = unfrozenEstimate s g (notedEstimate s g e) := if_neg h

theorem estimatorTakesSet_holds (s : State) : FrozenHold s.load (estimatorTakesSet s) := fun g => by
  rw [estimatorTakesSet_estimate]
  intro hfreeze
  have hcond : freezeCondition s g = true := (estimateOnSet_freeze s g _).symm.trans hfreeze
  rw [estimateOnSet_of_frozen hcond]
  rfl

/-- The parts that a taker of a set other than the estimator may change. -/
def besideLoad : List Part := [.sample, .arbiter, .valve, .air, .roll, .tyres, .alerts, .mgmt, .store, .free]

theorem takeSet_holds (bytes : List Byte) (s : State) : FrozenHold s.load (takeSet bytes s) := by
  have reached : ∀ v : State, ChangesOnly besideLoad s v → FrozenHold s.load (handSet v) := fun v hv => by
    obtain ⟨u, hu, hafter⟩ := handSet_once (E := ChangesOnly besideLoad) (f := estimatorTakesSet)
      (rest := [arbiterTakesSet, airTakesSet, rollTakesSet, tyresTakeSet]) (ChangesOnly.nothing _) ChangesOnly.andThen
      (List.Perm.refl _) (by
        simp only [List.mem_cons, List.not_mem_nil, or_false, forall_eq_or_imp, forall_eq]
        exact ⟨fun t => (arbiterTakesSet_touches t).within (by decide), fun t => (airTakesSet_touches t).within (by decide),
          fun t => (rollTakesSet_touches t).within (by decide), fun t => (tyresTakeSet_touches t).within (by decide)⟩)
      (fun t => (spend_touches t).within (by decide)) v
    have hload : u.load = s.load := (hv.andThen hu) .load (by decide)
    exact FrozenHold.frame hafter (by decide) (hload ▸ estimatorTakesSet_holds u)
  have accepted : ChangesOnly besideLoad s (s.onSample (acceptSet bytes s.timeBase)) :=
    (onSample_touches s _).within (by decide)
  unfold takeSet
  exact reached _ (ChangesOnly.ite _ (accepted.andThen ((evaluateFailSafe_touches _).within (by decide))) accepted)

/-! ### Activation -/

theorem estimateOnT2_freeze (t2 : Table) (g : Group) (e : Estimate) : (estimateOnT2 t2 g e).freeze = e.freeze := by
  unfold estimateOnT2
  split
  · rfl
  · rfl

/-- T2 is activated in no group's frozen state (R171), and every other table leaves the estimates. -/
theorem installTable_holds {n : Nat} {s : State} (bytes : Table) (hok : activationAllowed s n = true) :
    FrozenHold s.load (installTable n bytes s) := by
  have tables : ∀ f : Tables → Tables, FrozenHold s.load (s.onTables f) := fun f => frozenHold_of_load rfl
  unfold installTable
  split
  case h_1 => exact FrozenHold.frame (activateT1_rest s bytes) (by decide) (tables _)
  case h_2 =>
    refine frozenHold_of_unfrozen _ fun g => ?_
    rw [estimatorTakesT2_estimate, estimateOnT2_freeze]
    simp only [activationAllowed, Bool.and_eq_true, Bool.not_eq_true'] at hok
    obtain ⟨⟨⟨-, ha⟩, hb⟩, -⟩ := hok
    cases g
    · exact ha
    · exact hb
  case h_3 => exact tables _
  case h_4 => exact FrozenHold.frame (tyresTakeT4_touches _ _) (by decide) (tables _)
  case h_5 => exact FrozenHold.frame (tyresTakeT5_touches s _) (by decide) (frozenHold_of_load rfl)
  case h_6 => exact FrozenHold.frame (relayTakesT6_touches _) (by decide) (tables _)
  case h_7 => exact frozenHold_of_load rfl

/-! ### Every step -/

theorem functionalReset_unfrozen (s : State) (g : Group) : (estimate (functionalReset s) g).freeze = false := by
  obtain ⟨u, -, h⟩ := functionalReset_around s
  rw [estimate_frame h (by decide)]
  cases g
  · rfl
  · rfl

/-- A step changes nothing of an estimate that is frozen after it (R7). -/
theorem frozenHold_rule (l : Pair Estimate) : StepRule (fun s => s.load = l) (FrozenHold l) where
  weaken h := frozenHold_of_load h
  frameP hc h := load_frame hc (by decide) h
  frameQ hc h := h.frame hc (by decide)
  powered nv prot s := frozenHold_of_unfrozen l fun g => by
    cases g
    · rfl
    · rfl
  reset _ := frozenHold_of_unfrozen l (functionalReset_unfrozen _)
  release h := by
    unfold releaseResetLine
    split
    · exact frozenHold_of_load h
    · exact frozenHold_of_load h
  sampleSet bytes _ h := h ▸ takeSet_holds bytes _
  countSet h _ _ := frozenHold_of_load h
  sampleLoss {s} h := by
    have hlost := load_frame (onSample_touches s loseSamples) (by decide) h
    unfold declareLoss
    refine frozenHold_of_load (load_frame (airTakesLoss_touches _) (by decide) ?_)
    refine load_frame (rollTakesLoss_touches _) (by decide) ?_
    refine load_frame (evaluateFailSafe_touches _) (by decide) ?_
    refine load_frame (deriveDemand_touches _) (by decide) ?_
    refine load_frame (fillCaptureBlock_touches _ _ _) (by decide) ?_
    exact load_frame (raiseAlert_touches _ _ _ _) (by decide) hlost
  refresh h := frozenHold_of_load h
  status bytes c s h := by
    unfold examineStatus
    split
    · split
      · have hc := hardFault_touches s c ‹_›
        exact load_frame hc (by decide) h
      · exact h
    · exact h
  hold c s h := frozenHold_of_load (load_frame (holdTimerExpiry_touches s c) (by decide) h)
  rollTimer h := frozenHold_of_load (load_frame (rollTimerExpiry_touches _) (by decide) h)
  error c s h := load_frame (errorEvent_touches s c) (by decide) h
  demandFrame data s h := frozenHold_of_load (load_frame (takeDemand_touches s data) (by decide) h)
  positionFrame data s h := frozenHold_of_load (load_frame (takePosition_touches s data) (by decide) h)
  demandTimer h := frozenHold_of_load (load_frame (demandTimerExpiry_touches _) (by decide) h)
  rearwardTimer h := frozenHold_of_load (load_frame (rearwardTimerExpiry_touches _) (by decide) h)
  halt _ _ _ s h := frozenHold_of_load (load_frame (haltChannel_touches s _ _ _) (by decide) h)
  run _ _ s h := frozenHold_of_load (load_frame (runChannel_touches s _ _) (by decide) h)
  clear _ _ s h := frozenHold_of_load (load_frame (clearChannel_touches s _ _) (by decide) h)
  activate _ _ h hok := h ▸ installTable_holds _ (activation_valid hok).2

theorem exec_holds_frozen {c : Instr} {s t : State} (h : exec c s = .next t) (g : Group)
    (hfreeze : (estimate t g).freeze = true) : EstimateHeld (estimate s g) (estimate t g) :=
  (frozenHold_rule s.load).exec h rfl g hfreeze

end Sys2Proof.Machine
end

section
/-! What a sample set makes of the load estimates, rule by rule (R2 to R14). -/

namespace Sys2Proof.Machine

open Sys2Proof

/-! ### The load curve (R8) -/

section Curve

variable {t : Table} {g : Group} {bf : Nat}

/-- Along a curve whose pressures rise, an end of a segment lies above every earlier one. -/
theorem curve_rises {m : Nat} (hrise : ∀ i, i < m → t2B t g i < t2B t g (i + 1)) {i j : Nat} (hij : i < j) (hj : j ≤ m) :
    t2B t g i < t2B t g j := by
  induction j, hij using Nat.le_induction with
  | base => exact hrise i hj
  | succ j _ ih => exact (ih (by omega)).trans (hrise j hj)

/-- From the last point of the curve on its load stays (R8). -/
theorem curveFrom_of_last {n k : Nat} (hrise : ∀ i, i < k + n → t2B t g i < t2B t g (i + 1)) (h : t2B t g (k + n) ≤ bf) :
    curveFrom t g bf n k = t2L t g (k + n) := by
  induction n generalizing k with
  | zero => rfl
  | succ n ih =>
    have hend : t2B t g (k + 1) ≤ bf := by
      rcases Nat.eq_zero_or_pos n with rfl | hn
      · exact h
      · exact (curve_rises hrise (by omega) le_rfl).le.trans h
    rw [curveFrom, if_neg (Nat.not_lt.mpr hend), ih (by rwa [Nat.add_right_comm])
      (by rwa [show k + 1 + n = k + (n + 1) by omega])]
    rw [show k + 1 + n = k + (n + 1) by omega]

/-- Within a segment the load is interpolated between its ends (R8). -/
theorem curveFrom_of_segment {n k i : Nat} (hrise : ∀ j, j < k + n → t2B t g j < t2B t g (j + 1)) (hk : k ≤ i)
    (hi : i < k + n) (hlow : t2B t g i ≤ bf) (hhigh : bf < t2B t g (i + 1)) :
    curveFrom t g bf n k = segmentLoad bf (t2B t g i) (t2L t g i) (t2B t g (i + 1)) (t2L t g (i + 1)) := by
  induction n generalizing k with
  | zero => omega
  | succ n ih =>
    rcases Nat.eq_or_lt_of_le hk with rfl | hlt
    · rw [curveFrom, if_pos hhigh]
    · have hend : t2B t g (k + 1) ≤ bf := by
        rcases Nat.eq_or_lt_of_le (Nat.succ_le_of_lt hlt) with heq | hlt'
        · rwa [← heq] at hlow
        · exact (curve_rises hrise hlt' (by omega)).le.trans hlow
      rw [curveFrom, if_neg (Nat.not_lt.mpr hend)]
      exact ih (by rwa [show k + 1 + n = k + (n + 1) by omega]) hlt (by omega)

theorem loadOf_of_first (h : bf ≤ t2B t g 0) : loadOf t g bf = t2L t g 0 := if_pos h

theorem loadOf_of_last (hv : GroupValid t g) (h : t2B t g (t2Points t g - 1) ≤ bf) :
    loadOf t g bf = t2L t g (t2Points t g - 1) := by
  obtain ⟨⟨hpoints, -⟩, hrise⟩ := hv
  have hrise : ∀ i, i < 0 + (t2Points t g - 1) → t2B t g i < t2B t g (i + 1) := fun i hi => hrise i (by omega)
  have hfirst : ¬bf ≤ t2B t g 0 := by
    have := curve_rises hrise (i := 0) (j := t2Points t g - 1) (by omega) (by omega)
    omega
  rw [loadOf, if_neg hfirst, curveFrom_of_last hrise (by rwa [Nat.zero_add]), Nat.zero_add]

theorem loadOf_of_segment (hv : GroupValid t g) {i : Nat} (hi : i + 1 < t2Points t g) (hlow : t2B t g i ≤ bf)
    (hhigh : bf < t2B t g (i + 1)) :
    loadOf t g bf = segmentLoad bf (t2B t g i) (t2L t g i) (t2B t g (i + 1)) (t2L t g (i + 1)) := by
  obtain ⟨⟨hpoints, -⟩, hrise⟩ := hv
  have hrise : ∀ i, i < 0 + (t2Points t g - 1) → t2B t g i < t2B t g (i + 1) := fun i hi => hrise i (by omega)
  by_cases hfirst : bf ≤ t2B t g 0
  · have hzero : i = 0 := by
      by_contra hne
      have := curve_rises hrise (i := 0) (j := i) (by omega) (by omega)
      omega
    subst hzero
    have hbf : bf - t2B t g 0 = 0 := by omega
    have hw : (t2B t g (0 + 1) - t2B t g 0) / 2 / (t2B t g (0 + 1) - t2B t g 0) = 0 := by
      apply Nat.div_eq_of_lt
      omega
    rw [loadOf_of_first hfirst, segmentLoad, hbf, Nat.zero_mul, Nat.zero_add, hw, Nat.add_zero]
  · rw [loadOf, if_neg hfirst]
    exact curveFrom_of_segment hrise (Nat.zero_le _) (by omega) hlow hhigh

end Curve

/-! ### The conditions of a set -/

/-- The bellows have been absent for 10 s: what the noted time says in terms of the time before the set (R4, R11). -/
theorem absentLong_iff {s : State} {g : Group} (hp : bellowsPressure s g = none) (e : Estimate) :
    runLasted s.timeBase (notedEstimate s g e).absentSince 10000 = true ↔
      10000 ≤ (s.timeBase - e.absentSince.getD s.timeBase).toNat := by
  have hnoted : (notedEstimate s g e).absentSince = some (e.absentSince.getD s.timeBase) := by
    simp [notedEstimate, runUpdate, hp]
  rw [hnoted]
  exact reached_iff _ _ _

theorem freezeCondition_iff (s : State) (g : Group) : freezeCondition s g = true ↔
    t2FreezeDemand s.tables.t2 g < demandLevel s ∨ s.roll.state ≠ .idle ∨
      ∃ a ∈ lateral s, t2FreezeAccel s.tables.t2 g < a.natAbs := by
  unfold freezeCondition rollIdle
  cases lateral s <;> simp [or_assoc]

/-- The estimate of a group is updated from its bellows on a set that does not freeze it (R5, R6). -/
abbrev measuredOn (s : State) (g : Group) : Prop := ¬freezeCondition s g = true ∧ bellowsPressure s g ≠ none

/-- A VALID estimate lapses on a set that does not freeze its group (R11). -/
abbrev lapsesOn (s : State) (g : Group) : Prop :=
  ¬freezeCondition s g = true ∧ bellowsPressure s g = none ∧ ¬(estimate s g).state = .invalid ∧
    10000 ≤ (s.timeBase - (estimate s g).absentSince.getD s.timeBase).toNat

/-- LOAD_FALLBACK is raised of a group on a set (R12). -/
abbrev raisesOn (s : State) (g : Group) : Prop := fallbackDue s.timeBase (estimateOnSet s g (estimate s g))

/-- The overload flag of a group rises on a set (R14). -/
abbrev risesOn (s : State) (g : Group) : Prop :=
  measuredOn s g ∧ overloadLevel s.tables.t2 g < (estimateOnSet s g (estimate s g)).load ∧ (estimate s g).overload = false

section Congr

variable {s t : State} (h : ChangesOnly [.load, .store, .alerts] s t) (g : Group) (he : estimate t g = estimate s g)

include h he

theorem raisesOn_congr : raisesOn t g ↔ raisesOn s g := by
  have hclock : t.timeBase = s.timeBase := h .clock (by decide)
  rw [raisesOn, estimateOnSet_congr h, he, hclock]

theorem risesOn_congr : risesOn t g ↔ risesOn s g := by
  have htables : t.tables = s.tables := h .tables (by decide)
  have hfreeze := freezeCondition_congr (h .sample (by decide)) htables (h .arbiter (by decide)) (h .roll (by decide)) g
  rw [risesOn, measuredOn, estimateOnSet_congr h, he, htables, hfreeze, bellowsPressure_congr (h .sample (by decide))]

end Congr

/-! ### One estimate on a set, case by case -/

theorem unfrozenEstimate_of_measured {s : State} {g : Group} {p : Nat} (hp : bellowsPressure s g = some p) (e : Estimate) :
    unfrozenEstimate s g e =
      if e.state = .invalid then seededEstimate s.tables.t2 g p e else movedEstimate s.tables.t2 g p e := by
  unfold unfrozenEstimate
  rw [hp]
  cases e.state
  · rfl
  · rfl

theorem unfrozenEstimate_of_absent {s : State} {g : Group} (hp : bellowsPressure s g = none) (e : Estimate) :
    unfrozenEstimate s g e =
      if ¬e.state = .invalid ∧ runLasted s.timeBase e.absentSince 10000 = true then
        lapsedEstimate s.tables.t2 g s.timeBase e else e := by
  unfold unfrozenEstimate
  rw [hp]
  cases e.state <;> simp

theorem estimateOnSet_of_measured {s : State} {g : Group} {p : Nat} (hf : ¬freezeCondition s g = true)
    (hp : bellowsPressure s g = some p) (e : Estimate) : estimateOnSet s g e =
      if e.state = .invalid then seededEstimate s.tables.t2 g p (notedEstimate s g e)
      else movedEstimate s.tables.t2 g p (notedEstimate s g e) := by
  rw [estimateOnSet_of_unfrozen hf, unfrozenEstimate_of_measured hp]
  rfl

theorem estimateOnSet_of_lapsed {s : State} {g : Group} (h : lapsesOn s g) :
    estimateOnSet s g (estimate s g) = lapsedEstimate s.tables.t2 g s.timeBase (notedEstimate s g (estimate s g)) := by
  obtain ⟨hf, hp, hvalid, hlong⟩ := h
  rw [estimateOnSet_of_unfrozen hf, unfrozenEstimate_of_absent hp, if_pos]
  exact ⟨hvalid, (absentLong_iff hp _).mpr hlong⟩

theorem estimateOnSet_of_kept {s : State} {g : Group} (hm : ¬measuredOn s g) (hl : ¬lapsesOn s g) :
    estimateOnSet s g (estimate s g) = notedEstimate s g (estimate s g) := by
  by_cases hf : freezeCondition s g = true
  · exact estimateOnSet_of_frozen hf _
  · have hp : bellowsPressure s g = none := by
      by_contra hp
      exact hm ⟨hf, hp⟩
    rw [estimateOnSet_of_unfrozen hf, unfrozenEstimate_of_absent hp, if_neg]
    rintro ⟨hvalid, hlong⟩
    exact hl ⟨hf, hp, hvalid, (absentLong_iff hp _).mp hlong⟩

theorem estimateOnSet_absentSince (s : State) (g : Group) (e : Estimate) : (estimateOnSet s g e).absentSince =
    if bellowsPressure s g = none then some (e.absentSince.getD s.timeBase) else none := by
  have hnoted : (estimateOnSet s g e).absentSince = (notedEstimate s g e).absentSince := by
    unfold estimateOnSet unfrozenEstimate
    split
    · rfl
    · split
      · rfl
      · rfl
      · rfl
      · split
        · rfl
        · rfl
  rw [hnoted]
  cases hp : bellowsPressure s g <;> simp [notedEstimate, runUpdate, hp]

/-- When LOAD_FALLBACK is raised, in terms of the estimate before the set (R12; log 34). -/
theorem raisesOn_iff (s : State) (g : Group) : raisesOn s g ↔ (estimate s g).state = .invalid ∧ ¬measuredOn s g ∧
    (estimate s g).fallbackReported = false ∧ 10000 ≤ (s.timeBase - (estimate s g).invalidSince).toNat := by
  by_cases hm : measuredOn s g
  · obtain ⟨hf, hp⟩ := hm
    obtain ⟨p, hp'⟩ := Option.ne_none_iff_exists'.mp hp
    have hvalid : (estimateOnSet s g (estimate s g)).state = .valid := by
      rw [estimateOnSet_of_measured hf hp']
      split
      · rfl
      · next hs => cases h : (estimate s g).state with
        | invalid => exact absurd h hs
        | valid => exact h
    simp [raisesOn, fallbackDue, hvalid, measuredOn, hf, hp]
  · by_cases hl : lapsesOn s g
    · have hvalid := hl.2.2.1
      rw [raisesOn, estimateOnSet_of_lapsed hl]
      simp [fallbackDue, lapsedEstimate, reached_iff, hvalid]
    · rw [raisesOn, estimateOnSet_of_kept hm hl]
      simp only [fallbackDue, notedEstimate, reached_iff, hm, not_false_eq_true, true_and]

/-- The report of a fallback after a set (R11, R12). -/
theorem reported_iff (s : State) (g : Group) : (estimate (estimatorTakesSet s) g).fallbackReported = true ↔
    raisesOn s g ∨ (estimate s g).fallbackReported = true ∧ ¬((estimate s g).state = .invalid ∧ measuredOn s g) ∧
      ¬lapsesOn s g := by
  rw [estimatorTakesSet_estimate]
  simp only [Bool.or_eq_true, decide_eq_true_eq]
  rw [or_comm]
  refine or_congr Iff.rfl ?_
  by_cases hm : measuredOn s g
  · obtain ⟨hf, hp⟩ := hm
    obtain ⟨p, hp'⟩ := Option.ne_none_iff_exists'.mp hp
    rw [estimateOnSet_of_measured hf hp']
    split
    · next hs => simp [seededEstimate, judgedEstimate, hs, hf, hp']
    · next hs => simp [movedEstimate, judgedEstimate, withFilter, notedEstimate, hs, hp']
  · by_cases hl : lapsesOn s g
    · rw [estimateOnSet_of_lapsed hl]
      exact iff_of_false Bool.false_ne_true fun h => h.2.2 hl
    · rw [estimateOnSet_of_kept hm hl]
      simp only [notedEstimate, hm, hl, and_false, not_false_iff, and_true]

end Sys2Proof.Machine
end

section
/-! The load estimator on a sample set as a whole: the estimates, LOAD_FALLBACK and the TL3 requests (R2 to R14). -/

namespace Sys2Proof.Machine

open Sys2Proof

/-! ### Alerts and tally requests of one group -/

/-- The alerts after LOAD_FALLBACK of a group (R12). -/
def fallbackRaised (s : State) (g : Group) : Alerts :=
  raisedAt s s.timeBase .loadFallback (groupSubject g) (t2Fallback s.tables.t2 g) s.alerts

theorem estimateTakesSet_alerts (g : Group) (s : State) :
    (estimateTakesSet g s).alerts = if raisesOn s g then fallbackRaised s g else s.alerts := by
  have hset := estimatedSet_touches g s
  have halerts : (estimatedSet g s).alerts = s.alerts := hset .alerts (by decide)
  have htables : (estimatedSet g s).tables = s.tables := hset .tables (by decide)
  have hclock : (estimatedSet g s).timeBase = s.timeBase := hset .clock (by decide)
  have hdue : fallbackDue (estimatedSet g s).timeBase (estimate (estimatedSet g s) g) ↔ raisesOn s g := by
    rw [estimatedSet_estimate, hclock]
  rw [estimateTakesSet_eq]
  split
  · next h =>
    rw [reportFallback_of_due (hdue.mpr h)]
    show raisedAt (estimatedSet g s) (estimatedSet g s).timeBase .loadFallback (groupSubject g) _
      (estimatedSet g s).alerts = _
    rw [htables, halerts, hclock]
    unfold raisedAt fallbackRaised
    rw [hclock]
    rfl
  · next h => rw [reportFallback_of_not_due (mt hdue.mp h), halerts]

theorem judgedEstimate_load (t2 : Table) (g : Group) (e : Estimate) : (judgedEstimate t2 g e).load = e.load := rfl

theorem unfrozenStep_store {s : State} {g : Group} : (unfrozenStep g s).store =
    if bellowsPressure s g ≠ none ∧ overloadLevel s.tables.t2 g < (unfrozenEstimate s g (estimate s g)).load ∧
      (estimate s g).overload = false then storeOnRequest tallyOverloads s.timeBase s.store else s.store := by
  have judged : ∀ f : Estimate → Estimate, (∀ e, (f e).overload = e.overload) → (judgeOverload g (s.onEstimate g f)).store =
      if overloadLevel s.tables.t2 g < (f (estimate s g)).load ∧ (estimate s g).overload = false then
        storeOnRequest tallyOverloads s.timeBase s.store else s.store := fun f hf => by
    rw [judgeOverload_store, requestTally_store, estimate_onEstimate_same, hf]
    rfl
  unfold unfrozenStep unfrozenEstimate
  cases (estimate s g).state <;> cases hp : bellowsPressure s g
  case invalid.none => rfl
  case valid.none =>
    simp only [ne_eq, not_true_eq_false, false_and, if_false]
    split
    · rfl
    · rfl
  case invalid.some p =>
    simp only [ne_eq, reduceCtorEq, not_false_eq_true, true_and]
    exact judged (fun e => { withFilter s.tables.t2 g (16 * p) e with state := .valid, fallbackReported := false })
      fun _ => rfl
  case valid.some p =>
    simp only [ne_eq, reduceCtorEq, not_false_eq_true, true_and]
    exact judged (fun e => withFilter s.tables.t2 g (e.filter.getD 0 + p - (e.filter.getD 0 + 8) / 16) e) fun _ => rfl

theorem estimateTakesSet_store (g : Group) (s : State) : (estimateTakesSet g s).store =
    if risesOn s g then storeOnRequest tallyOverloads s.timeBase s.store else s.store := by
  have hreport : (estimateTakesSet g s).store = (estimatedSet g s).store := by
    rw [estimateTakesSet_eq]
    unfold reportFallback
    dsimp only
    split
    · rfl
    · rfl
  have hnote : estimate (noteSet g s) g = notedEstimate s g (estimate s g) := estimate_onEstimate_same g _ s
  rw [hreport, estimatedSet]
  by_cases hf : freezeCondition s g = true
  · rw [if_pos hf, if_neg (fun h : risesOn s g => h.1.1 hf)]
    rfl
  · rw [if_neg hf, unfrozenStep_store, hnote]
    refine if_congr (Iff.symm ?_) rfl rfl
    rw [risesOn, measuredOn, estimateOnSet_of_unfrozen hf, and_iff_right hf]
    rfl

/-! ### Both groups -/

theorem estimatorTakesSet_alerts (s : State) : (estimatorTakesSet s).alerts =
    if raisesOn s .b then fallbackRaised (estimateTakesSet .a s) .b else if raisesOn s .a then fallbackRaised s .a
    else s.alerts := by
  have htouch := estimateTakesSet_touches s .a
  unfold estimatorTakesSet
  rw [estimateTakesSet_alerts]
  simp only [raisesOn_congr htouch .b (estimateTakesSet_other (by decide) s), estimateTakesSet_alerts]

theorem fallbackRaised_after_quiet {s : State} (h : ¬raisesOn s .a) :
    fallbackRaised (estimateTakesSet .a s) .b = fallbackRaised s .b := by
  have htouch := estimateTakesSet_touches s .a
  have hclock : (estimateTakesSet .a s).timeBase = s.timeBase := htouch .clock (by decide)
  have htables : (estimateTakesSet .a s).tables = s.tables := htouch .tables (by decide)
  unfold fallbackRaised raisedAt
  rw [hclock, htables, estimateTakesSet_alerts, if_neg h]

theorem estimatorTakesSet_store (s : State) : (estimatorTakesSet s).store =
    if risesOn s .b then
      storeOnRequest 3 s.timeBase (if risesOn s .a then storeOnRequest 3 s.timeBase s.store else s.store)
    else if risesOn s .a then storeOnRequest 3 s.timeBase s.store else s.store := by
  have htouch := estimateTakesSet_touches s .a
  have hclock : (estimateTakesSet .a s).timeBase = s.timeBase := htouch .clock (by decide)
  unfold estimatorTakesSet
  rw [estimateTakesSet_store]
  simp only [risesOn_congr htouch .b (estimateTakesSet_other (by decide) s), estimateTakesSet_store, hclock]
  rfl

theorem requestTally_twice_store (k : Fin 4) (s : State) :
    (requestTally k (requestTally k s)).store = storeOnRequest k s.timeBase (storeOnRequest k s.timeBase s.store) := by
  have hclock : (requestTally k s).timeBase = s.timeBase := requestTally_touches s k .clock (by decide)
  rw [requestTally_store, hclock, requestTally_store]

/-! ### The estimates -/

section Cases

variable {s : State} {g : Group}

/-- An estimate updated from its bellows: filter, filtered pressure and overload flag (R5, R6, R14). -/
theorem estimatorTakesSet_of_measured {p : Nat} (hf : ¬freezeCondition s g = true) (hp : bellowsPressure s g = some p) :
    let e := estimate s g
    let e' := estimate (estimatorTakesSet s) g
    let f := e.filter.getD 0
    let f' := if e.state = .invalid then 16 * p else f + p - (f + 8) / 16
    e' = { e with
      freeze := e'.freeze, absentSince := e'.absentSince, fallbackReported := e'.fallbackReported, state := .valid
      filter := some f', bellows := (f' + 8) / 16, load := e'.load, ratio := e'.ratio
      overload := decide (overloadLevel s.tables.t2 g < e'.load) } := by
  intro e e' f f'
  have he' : e' = _ := (estimatorTakesSet_estimate s g).trans (by rw [estimateOnSet_of_measured hf hp])
  cases hs : e.state with
  | invalid =>
    simp only [e, hs, if_true] at he'
    simp only [f', hs, if_true, he']
    rfl
  | valid =>
    simp only [e, hs, reduceCtorEq, if_false] at he'
    simp only [f', hs, reduceCtorEq, if_false, he', movedEstimate, judgedEstimate, withFilter, notedEstimate]
    simp only [← hs]
    rfl

/-- The load and the ratio of an updated estimate follow from its filtered pressure (R8, R9). -/
theorem estimatorTakesSet_figures {p : Nat} (hf : ¬freezeCondition s g = true) (hp : bellowsPressure s g = some p) :
    (estimate (estimatorTakesSet s) g).load = loadOf s.tables.t2 g (estimate (estimatorTakesSet s) g).bellows ∧
      (estimate (estimatorTakesSet s) g).ratio = ratioOf s.tables.t2 g (estimate (estimatorTakesSet s) g).load := by
  rw [estimatorTakesSet_estimate, estimateOnSet_of_measured hf hp]
  split
  · exact ⟨rfl, rfl⟩
  · exact ⟨rfl, rfl⟩

theorem estimatorTakesSet_of_lapsed (h : lapsesOn s g) :
    let e := estimate s g
    let e' := estimate (estimatorTakesSet s) g
    e' = { e with
      freeze := e'.freeze, absentSince := e'.absentSince, fallbackReported := e'.fallbackReported, state := .invalid
      ratio := t2Fallback s.tables.t2 g, invalidSince := s.timeBase } := by
  intro e e'
  simp only [e', estimatorTakesSet_estimate, estimateOnSet_of_lapsed h]
  rfl

theorem estimatorTakesSet_of_kept (hm : ¬measuredOn s g) (hl : ¬lapsesOn s g) :
    EstimateHeld (estimate s g) (estimate (estimatorTakesSet s) g) := by
  rw [estimatorTakesSet_estimate, estimateOnSet_of_kept hm hl]
  rfl

end Cases

theorem groupSubject_eq (g : Group) : groupSubject g = ⟨.group, if g = .a then 0 else 1⟩ := by
  cases g
  · rfl
  · rfl

/-- Settles O13: the first part is the rule of a step for held estimates; the second reads each clause off the estimates,
alerts and tally requests of a set. -/
theorem frozenEstimateStays : Obligations.FrozenEstimateStays := by
  refine ⟨fun c s t g h hfreeze => (exec_holds_frozen h g hfreeze).figures, fun u => ?_⟩
  intro t t2 now b frozen invalid measured lapses due tooHeavy rises raised
  have hb : b = bellowsPressure u := by
    funext g
    rfl
  have hfrozen : ∀ g, frozen g ↔ freezeCondition u g = true := fun g => (freezeCondition_iff u g).symm
  have hmeasured : ∀ g, measured g ↔ measuredOn u g := fun g => by
    simp only [measured, measuredOn, hfrozen, hb]
  have hlapses : ∀ g, lapses g ↔ lapsesOn u g := fun g => by
    simp only [lapses, lapsesOn, hfrozen, hb, invalid, now]
  have hdue : ∀ g, due g ↔ raisesOn u g := fun g => by
    rw [raisesOn_iff, ← hmeasured]
  have hrises : ∀ g, rises g ↔ risesOn u g := fun g => by
    have hload : (estimate t g).load = (estimateOnSet u g (estimate u g)).load :=
      (congrArg Estimate.load (estimatorTakesSet_estimate u g) :)
    simp only [rises, hmeasured, tooHeavy, hload]
    rfl
  have hraised : ∀ g, raised g = fallbackRaised u g := fun g => by
    rw [fallbackRaised, groupSubject_eq]
  have halerts : t.alerts = _ := estimatorTakesSet_alerts u
  have hstore : t.store = _ := estimatorTakesSet_store u
  simp only [hfrozen, hmeasured, hlapses, hdue, hrises, hraised, hb]
  refine ⟨fun g => ⟨?_, ?_, ?_, fun p hp hf => ⟨?_, ?_, fun hv => ?_⟩, fun hl => ?_, fun hm hl => ?_⟩, fun ha hb => ?_,
    fun ha hb => ?_, fun ha hb => ?_, fun ha hb => ?_, fun hone => ?_, fun ha hb => ?_,
    (estimatorTakesSet_touches u).within (by decide)⟩
  · rw [estimatorTakesSet_estimate]
    exact Bool.eq_iff_iff.mp (estimateOnSet_freeze u g _)
  · rw [estimatorTakesSet_estimate]
    exact estimateOnSet_absentSince u g _
  · exact reported_iff u g
  · exact estimatorTakesSet_of_measured hf hp
  · exact (estimatorTakesSet_figures hf hp).2
  · have hvalid := groupValid_of_tableCheck hv g
    rw [(estimatorTakesSet_figures hf hp).1]
    exact ⟨loadOf_of_first, loadOf_of_last hvalid, fun i hi => loadOf_of_segment hvalid hi⟩
  · exact estimatorTakesSet_of_lapsed hl
  · exact estimatorTakesSet_of_kept hm hl
  · rw [halerts, if_neg hb, if_neg ha]
  · rw [halerts, if_neg hb, if_pos ha]
  · rw [halerts, if_pos hb, fallbackRaised_after_quiet ha]
  · rw [hstore, if_neg hb, if_neg ha]
  · rw [hstore, requestTally_store]
    obtain ⟨ha, hb⟩ | ⟨ha, hb⟩ := hone
    · rw [if_neg hb, if_pos ha]
    · rw [if_pos hb, if_neg ha]
  · rw [hstore, if_pos hb, if_pos ha, requestTally_twice_store]
end Sys2Proof.Machine
end

section
/-! Work on the channel records one after another: what a run over the channels does, told channel by channel. -/

namespace Sys2Proof.Machine

open Sys2Proof

/-! ### Changes of the channel records -/

/-- Nothing changes but channel records, and with them alerts, answers and the table store. -/
structure ChannelsOnly (s t : State) : Prop where
  frame : ChangesOnly [.arbiter, .alerts, .mgmt, .store] s t
  arbiter : t.arbiter = { s.arbiter with channels := t.arbiter.channels }

/-- Nothing changes but one channel's record, and with it alerts, answers and the table store. -/
structure OneChannel (c : Channel) (s t : State) : Prop extends ChannelsOnly s t where
  others : ∀ d, d ≠ c → chan t d = chan s d

namespace ChannelsOnly

variable {s t u : State}

theorem refl (s : State) : ChannelsOnly s s := ⟨ChangesOnly.nothing _ s, rfl⟩

theorem trans (h : ChannelsOnly s t) (k : ChannelsOnly t u) : ChannelsOnly s u :=
  ⟨h.frame.andThen k.frame, by rw [k.arbiter, h.arbiter]⟩

theorem of_frame {ps : List Part} (h : ChangesOnly ps s t) (hp : Part.arbiter ∉ ps)
    (hps : ps ⊆ [.arbiter, .alerts, .mgmt, .store]) : ChannelsOnly s t :=
  ⟨h.within hps, by rw [h.arbiter hp]⟩

theorem of_channels (s : State) (q : Quad ChannelRec) : ChannelsOnly s (s.onArbiter fun a => { a with channels := q }) :=
  ⟨(onArbiter_touches s _).within (by decide), rfl⟩

/-! What the arbiter's steps read beside the channel records. -/

section Reads

variable (h : ChannelsOnly s t)

include h

theorem tables : t.tables = s.tables := h.frame .tables (by decide)
theorem sample : t.sample = s.sample := h.frame .sample (by decide)
theorem clock : t.timeBase = s.timeBase := h.frame .clock (by decide)
theorem link : t.link = s.link := h.frame .link (by decide)
theorem air : t.air = s.air := h.frame .air (by decide)
theorem roll : t.roll = s.roll := h.frame .roll (by decide)

theorem demand : t.arbiter.demand = s.arbiter.demand := (congrArg Arbiter.demand h.arbiter :)
theorem source : t.arbiter.source = s.arbiter.source := (congrArg Arbiter.source h.arbiter :)
theorem failSafe : t.arbiter.failSafe = s.arbiter.failSafe := (congrArg Arbiter.failSafe h.arbiter :)
theorem backupNext : t.arbiter.backupNext = s.arbiter.backupNext := (congrArg Arbiter.backupNext h.arbiter :)

theorem assigned (c : Channel) : assigned t c = assigned s c := by
  rw [Machine.assigned, h.tables, Machine.assigned]

theorem input (i : Fin 16) : input t i = input s i := by
  rw [Machine.input, h.sample, Machine.input]

theorem inputValid (i : Fin 16) : inputValid t i = inputValid s i := by
  rw [Machine.inputValid, h.input, Machine.inputValid]

theorem demandLevel : demandLevel t = demandLevel s := by
  rw [Machine.demandLevel, h.source, h.demand, Machine.demandLevel]

theorem demandLow : demandLow t = demandLow s := by
  rw [Machine.demandLow, h.demandLevel, Machine.demandLow]

theorem vehicleSpeed : vehicleSpeed t = vehicleSpeed s := by
  simp only [Machine.vehicleSpeed, wheel, reading_congr h.sample]

theorem speedAbove200 : speedAbove200 t = speedAbove200 s := by
  rw [Machine.speedAbove200, h.vehicleSpeed, Machine.speedAbove200]

theorem rollIdle : rollIdle t = rollIdle s := by
  rw [Machine.rollIdle, h.roll, Machine.rollIdle]

end Reads

end ChannelsOnly

namespace OneChannel

variable {c : Channel} {s t u : State}

theorem refl (c : Channel) (s : State) : OneChannel c s s := ⟨.refl s, fun _ _ => rfl⟩

theorem trans (h : OneChannel c s t) (k : OneChannel c t u) : OneChannel c s u :=
  ⟨h.toChannelsOnly.trans k.toChannelsOnly, fun d hd => (k.others d hd).trans (h.others d hd)⟩

theorem of_frame {ps : List Part} (h : ChangesOnly ps s t) (hp : Part.arbiter ∉ ps)
    (hps : ps ⊆ [.arbiter, .alerts, .mgmt, .store]) : OneChannel c s t :=
  ⟨.of_frame h hp hps, fun d _ => by rw [chan, h.arbiter hp, chan]⟩

theorem onChannel (c : Channel) (f : ChannelRec → ChannelRec) (s : State) : OneChannel c s (s.onChannel c f) :=
  ⟨.of_channels s _, fun _ hd => chan_onChannel_other hd f s⟩

end OneChannel

theorem chan_frame {ps : List Part} {s t : State} (h : ChangesOnly ps s t) (hp : Part.arbiter ∉ ps) (c : Channel) :
    chan t c = chan s c := by
  rw [chan, h.arbiter hp, chan]

/-! ### Runs over the channels -/

/-- A run over channels: when what is done for a channel reads, beside its own record, only what no channel's work changes,
then each record becomes what its own work makes of it. A further figure `π` of the state follows the same run. -/
theorem foldl_channels {α : Type} {m : State} {f : State → Channel → State} {before after : Channel → ChannelRec}
    {π : State → α} {work : Channel → α → α}
    (hf : ∀ s c, ChannelsOnly m s → chan s c = before c →
      OneChannel c s (f s c) ∧ chan (f s c) c = after c ∧ π (f s c) = work c (π s))
    {l : List Channel} (hl : l.Nodup) {s : State} (hs : ChannelsOnly m s) (hbefore : ∀ c ∈ l, chan s c = before c) :
    ChannelsOnly m (l.foldl f s) ∧ (∀ c ∈ l, chan (l.foldl f s) c = after c) ∧
      (∀ d ∉ l, chan (l.foldl f s) d = chan s d) ∧ π (l.foldl f s) = l.foldl (fun a c => work c a) (π s) := by
  induction l generalizing s with
  | nil => exact ⟨hs, nofun, fun _ _ => rfl, rfl⟩
  | cons c l ih =>
    obtain ⟨hc, hl⟩ := List.nodup_cons.mp hl
    obtain ⟨hone, hafter, hwork⟩ := hf s c hs (hbefore c List.mem_cons_self)
    have hrest : ∀ d ∈ l, chan (f s c) d = before d := fun d hd =>
      (hone.others d fun h => hc (h ▸ hd)).trans (hbefore d (List.mem_cons_of_mem _ hd))
    obtain ⟨hframe, hin, hout, hπ⟩ := ih hl (hs.trans hone.toChannelsOnly) hrest
    rw [List.foldl_cons, List.foldl_cons, ← hwork]
    refine ⟨hframe, fun d hd => ?_, fun d hd => ?_, hπ⟩
    · rcases List.mem_cons.mp hd with rfl | hd
      · rw [hout d hc, hafter]
      · exact hin d hd
    · have hdc : d ≠ c := fun h => hd (h ▸ List.mem_cons_self)
      rw [hout d fun h => hd (List.mem_cons_of_mem _ h), hone.others d hdc]

theorem allChannels_nodup : allChannels.Nodup := by decide

/-- A run in which nothing is done. -/
theorem foldl_idle {α : Type} {work : Channel → α → α} {l : List Channel} (h : ∀ c ∈ l, ∀ a, work c a = a) (a : α) :
    l.foldl (fun a c => work c a) a = a :=
  foldl_keeps (· = a) _ l (fun b c hc hb => (h c hc b).trans hb) a rfl

/-- A run in which one channel has something to do. -/
theorem foldl_single {α : Type} {work : Channel → α → α} {l : List Channel} (hl : l.Nodup) {c : Channel} (hc : c ∈ l)
    (h : ∀ d, d ≠ c → ∀ a, work d a = a) (a : α) : l.foldl (fun a c => work c a) a = work c a := by
  induction l generalizing a with
  | nil => exact absurd hc List.not_mem_nil
  | cons d l ih =>
    obtain ⟨hd, hl⟩ := List.nodup_cons.mp hl
    rw [List.foldl_cons]
    rcases List.mem_cons.mp hc with rfl | hc
    · exact foldl_idle (fun e he => h e fun heq => hd (heq ▸ he)) _
    · rw [h d (fun heq => hd (heq ▸ hc)), ih hl hc]

end Sys2Proof.Machine
end

section
/-! The supervision of the channels on a sample set (R50, R52, R53, R56), told of one channel record. -/

namespace Sys2Proof.Machine

open Sys2Proof

/-! ### Conditions and effects on one record -/

/-- A record that has entered FAULTED (R50), but for its error counter. -/
def faultedRecord (cause : FaultCause) (r : ChannelRec) : ChannelRec :=
  { goTo .faulted none r with cause := some cause, haltPending := none }

/-- The delivered-pressure input of a channel in use is INVALID (R56). -/
abbrev inputLost (s : State) (c : Channel) (r : ChannelRec) : Prop :=
  t1Assigned s.tables.t1 c = true ∧ (input s (inputDelivered c)).status = .invalid ∧
    (r.state = .active ∨ r.state = .backup ∨ r.state = .hold ∨ r.state = .halted)

/-- The delivered pressure of a channel has been off its target beyond the settle time (R53). -/
abbrev strays (s : State) (c : Channel) (r : ChannelRec) : Prop :=
  t1Assigned s.tables.t1 c = true ∧ (input s (inputDelivered c)).status ≠ .invalid ∧
    (r.state = .active ∨ r.state = .halted) ∧ ∃ d ∈ r.deviation,
      t1Settle s.tables.t1 ≤ (s.timeBase - d.start).toNat ∧ t1Band s.tables.t1 < absDiff r.delivered r.cmdTarget

/-- A channel enters FAULTED on the set (R52, R56). -/
abbrev faultsOn (s : State) (c : Channel) (r : ChannelRec) : Prop :=
  inputLost s c r ∨ (strays s c r ∧ t1Threshold s.tables.t1 ≤ min (r.errors + 1) 15)

/-- A record with an error event counted and its deviation timer started again (R52, R53). -/
def strayed (now : Stamp) (r : ChannelRec) : ChannelRec :=
  { r with errors := min (r.errors + 1) 15, deviation := r.deviation.map fun d => { d with start := now } }

/-- A record after the supervision of its channel (step 3 of R42). -/
def supervised (s : State) (c : Channel) (r : ChannelRec) : ChannelRec :=
  if inputLost s c r then faultedRecord .deliveredInvalid { r with errors := max r.errors (t1Threshold s.tables.t1) }
  else if strays s c r then
    if t1Threshold s.tables.t1 ≤ min (r.errors + 1) 15 then faultedRecord .counter (strayed s.timeBase r)
    else strayed s.timeBase r
  else r

/-! ### The record's fields after it -/

section Fields

variable {s : State} {c : Channel} {r : ChannelRec}

theorem supervised_errors : (supervised s c r).errors =
    if inputLost s c r then max r.errors (t1Threshold s.tables.t1)
    else if strays s c r then min (r.errors + 1) 15 else r.errors := by
  unfold supervised
  split
  · rfl
  · split
    · split
      · rfl
      · rfl
    · rfl

theorem supervised_of_fault (h : faultsOn s c r) :
    (supervised s c r).state = .faulted ∧ (supervised s c r).haltPending = none ∧ (supervised s c r).deviation = none ∧
      (supervised s c r).cause = some (if inputLost s c r then .deliveredInvalid else .counter) := by
  unfold supervised
  by_cases hlost : inputLost s c r
  · rw [if_pos hlost, if_pos hlost]
    exact ⟨rfl, rfl, rfl, rfl⟩
  · obtain ⟨hstray, hthreshold⟩ := h.resolve_left hlost
    rw [if_neg hlost, if_neg hlost, if_pos hstray, if_pos hthreshold]
    exact ⟨rfl, rfl, rfl, rfl⟩

/-- A channel that does not fault keeps its record but for the error counter and the deviation timer. -/
theorem supervised_of_quiet (h : ¬faultsOn s c r) :
    supervised s c r = if strays s c r then strayed s.timeBase r else r := by
  unfold supervised
  rw [if_neg fun hl => h (.inl hl)]
  split
  · next hs => rw [if_neg fun ht => h (.inr ⟨hs, ht⟩)]
  · rfl

/-- A FAULTED channel is not supervised. -/
theorem supervised_of_faulted (h : r.state = .faulted) : ¬faultsOn s c r ∧ supervised s c r = r := by
  have hlost : ¬inputLost s c r := fun hl => by simpa [h] using hl.2.2
  have hstray : ¬strays s c r := fun hs => by simpa [h] using hs.2.2.1
  have hquiet : ¬faultsOn s c r := fun hf => hf.elim hlost fun hf => hstray hf.1
  exact ⟨hquiet, by rw [supervised_of_quiet hquiet, if_neg hstray]⟩

end Fields

/-- The supervision reads nothing that a change of channel records changes. -/
theorem supervised_congr {s t : State} (h : ChannelsOnly s t) (c : Channel) (r : ChannelRec) :
    supervised t c r = supervised s c r ∧ (faultsOn t c r ↔ faultsOn s c r) := by
  simp only [supervised, faultsOn, inputLost, strays, h.tables, h.input, h.clock, and_self]

/-! ### The model's supervision -/

theorem endPendingHalt_one (c : Channel) (result : Completion) (s : State) : OneChannel c s (endPendingHalt c result s) ∧
    chan (endPendingHalt c result s) c = { chan s c with haltPending := none } := by
  unfold endPendingHalt
  split
  · refine ⟨(OneChannel.onChannel c _ s).trans (.of_frame (answer_touches _ _ _ _) (by decide) (by decide)), ?_⟩
    rw [chan_frame (answer_touches _ _ _ _) (by decide), chan_onChannel_same]
  · next h =>
    refine ⟨.refl c s, ?_⟩
    rw [← h]

/-- Under the policy OTHERS the entry of a channel into FAULTED changes no other channel (R50, R51). -/
theorem enterFaulted_one {s : State} (hp : t1PolicyAll s.tables.t1 = false) (c : Channel) (cause : FaultCause) :
    OneChannel c s (enterFaulted c cause s) ∧ chan (enterFaulted c cause s) c = faultedRecord cause (chan s c) := by
  unfold enterFaulted
  dsimp only
  generalize hs1 : s.onChannel c _ = s1
  have h1 : OneChannel c s s1 := hs1 ▸ .onChannel c _ s
  have hc1 : chan s1 c = { goTo .faulted none (chan s c) with cause := some cause } := by rw [← hs1, chan_onChannel_same]
  clear hs1
  have hframe : ChangesOnly [.alerts, .store] s1 (fillCaptureChannel .channelFault c (requestTally tallyFaults
      (raiseAlert .channelFault (channelSubject c) (faultCauseCode cause) s1))) :=
    (((raiseAlert_touches s1 _ _ _).within (by decide)).andThen ((requestTally_touches _ _).within (by decide))).andThen
      ((fillCaptureChannel_touches _ _ _).within (by decide))
  generalize fillCaptureChannel .channelFault c _ = s2 at hframe
  have h2 : OneChannel c s s2 := h1.trans (.of_frame hframe (by decide) (by decide))
  obtain ⟨h3, hc3⟩ := endPendingHalt_one c .cancelled s2
  have hpolicy : t1PolicyAll (cancelPendingHalt c s2).tables.t1 = false := by
    rw [← hp]
    exact congrArg (fun t : Tables => t1PolicyAll t.t1) (h2.trans h3).tables
  have hnone : applyPolicy c (cancelPendingHalt c s2) = cancelPendingHalt c s2 := by
    rw [applyPolicy, hpolicy]
    rfl
  rw [hnone]
  refine ⟨h2.trans h3, hc3.trans ?_⟩
  rw [chan_frame hframe (by decide), hc1]
  rfl

theorem superviseChannel_of_lost {s : State} {c : Channel} (h : inputLost s c (chan s c)) :
    superviseChannel s c = enterFaulted c .deliveredInvalid
      (s.onChannel c fun r => { r with errors := max r.errors (t1Threshold s.tables.t1) }) := by
  obtain ⟨hassigned, hinvalid, hstate⟩ := h
  have hfault : (chan s c).state ≠ .faulted := fun hf => by simp [hf] at hstate
  have hhard : ∀ cause, hardFault c cause s = enterFaulted c cause
      (s.onChannel c fun r => { r with errors := max r.errors (t1Threshold s.tables.t1) }) := fun cause => if_neg hfault
  unfold superviseChannel assigned
  rw [if_pos hassigned, if_pos hinvalid, ← hhard]
  rcases hstate with h | h | h | h <;> rw [h]

/-- A channel whose delivered pressure strays has its error event counted in its record, and may fault of it (R52, R53). -/
theorem superviseChannel_of_strays {s : State} {c : Channel} (h : strays s c (chan s c)) :
    ∃ s1, ChangesOnly [.arbiter] s s1 ∧ OneChannel c s s1 ∧ chan s1 c = strayed s.timeBase (chan s c) ∧
      superviseChannel s c =
        if t1Threshold s.tables.t1 ≤ min ((chan s c).errors + 1) 15 then enterFaulted c .counter s1 else s1 := by
  obtain ⟨hassigned, hvalid, hstate, d, hd, hlong, hfar⟩ := h
  have hfault : (chan s c).state ≠ .faulted := fun hf => by simp [hf] at hstate
  have hcheck : superviseChannel s c =
      errorEvent c (s.onChannel c fun r => { r with deviation := some { d with start := s.timeBase } }) := by
    unfold superviseChannel assigned deviationCheck
    dsimp only
    rw [if_pos hassigned, if_neg hvalid, Option.mem_def.mp hd]
    exact if_pos ⟨hstate, (reached_iff _ _ _).mpr hlong, hfar⟩
  rw [hcheck]
  unfold errorEvent
  dsimp only
  generalize hs0 : s.onChannel c _ = s0
  have hframe0 : ChangesOnly [.arbiter] s s0 := hs0 ▸ onChannel_touches s c _
  have hone0 : OneChannel c s s0 := hs0 ▸ .onChannel c _ s
  have hchan0 : chan s0 c = { chan s c with deviation := some { d with start := s.timeBase } } := by
    rw [← hs0, chan_onChannel_same]
  have htables : s0.tables = s.tables := hframe0 .tables (by decide)
  refine ⟨s0.onChannel c fun r => { r with errors := min (r.errors + 1) 15 }, hframe0.andThen (onChannel_touches s0 _ _),
    hone0.trans (.onChannel c _ s0), ?_, ?_⟩
  · rw [chan_onChannel_same, hchan0, strayed, Option.mem_def.mp hd]
    rfl
  · refine if_congr ?_ rfl rfl
    rw [chan_onChannel_same, hchan0]
    simp only [ne_eq, hfault, not_false_eq_true, true_and]
    rw [← htables]
    rfl

theorem superviseChannel_of_quiet {s : State} {c : Channel} (hl : ¬inputLost s c (chan s c)) (hs : ¬strays s c (chan s c)) :
    superviseChannel s c = s := by
  unfold superviseChannel assigned
  split
  · next ha =>
    split
    · next hi =>
      split
      case h_5 => rfl
      case h_6 => rfl
      all_goals next h => exact absurd ⟨ha, hi, by simp [h]⟩ hl
    · next hi =>
      unfold deviationCheck
      dsimp only
      split
      · next d hd =>
        refine if_neg fun ⟨hstate, hlong, hfar⟩ => hs ⟨ha, hi, hstate, d, hd, (reached_iff _ _ _).mp hlong, hfar⟩
      · rfl
  · rfl

/-- Supervision told of the record: under the policy OTHERS, or where no fault comes of it (R42, R51). -/
theorem superviseChannel_one {s : State} {c : Channel}
    (hq : t1PolicyAll s.tables.t1 = false ∨ ¬faultsOn s c (chan s c)) :
    OneChannel c s (superviseChannel s c) ∧ chan (superviseChannel s c) c = supervised s c (chan s c) := by
  have faulted : ∀ s1 cause, OneChannel c s s1 → faultsOn s c (chan s c) → OneChannel c s (enterFaulted c cause s1) ∧
      chan (enterFaulted c cause s1) c = faultedRecord cause (chan s1 c) := fun s1 cause h1 hf => by
    have hp : t1PolicyAll s1.tables.t1 = false := by
      rw [h1.tables]
      exact hq.resolve_right (not_not_intro hf)
    obtain ⟨hone, hchan⟩ := enterFaulted_one hp c cause
    exact ⟨h1.trans hone, hchan⟩
  by_cases hl : inputLost s c (chan s c)
  · rw [superviseChannel_of_lost hl, supervised, if_pos hl]
    obtain ⟨hone, hchan⟩ := faulted _ .deliveredInvalid
      (.onChannel c (fun r => { r with errors := max r.errors (t1Threshold s.tables.t1) }) s) (.inl hl)
    exact ⟨hone, by rw [hchan, chan_onChannel_same]⟩
  · by_cases hs : strays s c (chan s c)
    · obtain ⟨s1, -, hone, hchan, heq⟩ := superviseChannel_of_strays hs
      rw [heq, supervised, if_neg hl, if_pos hs, ← hchan]
      split
      · next ht => exact faulted s1 _ hone (.inr ⟨hs, ht⟩)
      · exact ⟨hone, rfl⟩
    · rw [superviseChannel_of_quiet hl hs, supervised, if_neg hl, if_neg hs]
      exact ⟨.refl c s, rfl⟩

/-- Supervision without a fault touches the channel's record alone. -/
theorem superviseChannel_quiet {s : State} {c : Channel} (h : ¬faultsOn s c (chan s c)) :
    ChangesOnly [.arbiter] s (superviseChannel s c) := by
  have hl : ¬inputLost s c (chan s c) := fun hl => h (.inl hl)
  by_cases hs : strays s c (chan s c)
  · obtain ⟨s1, hframe, -, -, heq⟩ := superviseChannel_of_strays hs
    rw [heq, if_neg fun ht => h (.inr ⟨hs, ht⟩)]
    exact hframe
  · rw [superviseChannel_of_quiet hl hs]
    exact ChangesOnly.nothing _ s

end Sys2Proof.Machine
end

section
/-! Control-line checks, halts and the ways out of START on a sample set (R43, R44, R49, R58, R59), told of one record. -/

namespace Sys2Proof.Machine

open Sys2Proof

/-! ### Halts told of one record -/

/-- A HALTED channel ends its halt on a set (R59). -/
abbrev haltEnds (s : State) (r : ChannelRec) : Prop := r.state = .halted ∧ (demandLow s = false ∨ speedAbove200 s = true)

/-- A record after the rule of HALTED (R59). -/
def afterHalted (s : State) (r : ChannelRec) : ChannelRec := if haltEnds s r then goTo .start none r else r

/-- What becomes of a halt that is pending on a set (R58): taken, cancelled, or left waiting. -/
def pendingResult (s : State) : Option Completion :=
  if (rollIdle s && demandLow s) = true then some .halted
  else if ((vehicleSpeed s).isNone || speedAbove200 s) = true then some .cancelled else none

/-- A record after the rule of a pending halt (R58). -/
def afterPending (s : State) (r : ChannelRec) : ChannelRec :=
  match r.haltPending, pendingResult s with
  | some h, some .halted => { goHalted h.pressure r with haltPending := none }
  | some _, some _ => { r with haltPending := none }
  | some _, none => r
  | none, _ => r

/-- The management engine after COMPLETED of a HALT_CHANNEL request (R58, R168). -/
def completedHalt (s : State) (tag : Byte) (result : Completion) (m : Mgmt) : Mgmt :=
  if m.queue.length < 4 then
    { m with queue := m.queue ++ [[responseFrame s 10 [tag, 2, byteOf (completionCode result)]]] }
  else { m with responsesLost := satInc m.responsesLost }

/-- The alerts after the rule of HALTED for one channel (R59). -/
def abandonedAlerts (s : State) (c : Channel) (r : ChannelRec) (a : Alerts) : Alerts :=
  if haltEnds s r then raisedAt s s.timeBase .haltAbandoned ⟨.channel, c.val + 1⟩ r.haltPressure a else a

/-- The management engine after the rule of a pending halt for one channel (R58). -/
def haltAnswers (s : State) (r : ChannelRec) (m : Mgmt) : Mgmt :=
  match r.haltPending, pendingResult s with
  | some h, some result => completedHalt s h.tag result m
  | some _, none => m
  | none, _ => m

section Congr

variable {s t : State} (h : ChannelsOnly s t)

include h

theorem haltEnds_congr (r : ChannelRec) : haltEnds t r ↔ haltEnds s r := by
  rw [haltEnds, h.demandLow, h.speedAbove200]

theorem afterHalted_congr (r : ChannelRec) : afterHalted t r = afterHalted s r :=
  if_congr (haltEnds_congr h r) rfl rfl

theorem pendingResult_congr : pendingResult t = pendingResult s := by
  rw [pendingResult, h.rollIdle, h.demandLow, h.vehicleSpeed, h.speedAbove200, pendingResult]

theorem afterPending_congr (r : ChannelRec) : afterPending t r = afterPending s r := by
  rw [afterPending, pendingResult_congr h, afterPending]

theorem haltAnswers_congr (r : ChannelRec) (m : Mgmt) : haltAnswers t r m = haltAnswers s r m := by
  unfold haltAnswers completedHalt responseFrame chainPosition
  rw [pendingResult_congr h, h.link]

theorem abandonedAlerts_congr (c : Channel) (r : ChannelRec) (a : Alerts) :
    abandonedAlerts t c r a = abandonedAlerts s c r a := by
  unfold abandonedAlerts raisedAt
  rw [h.clock]
  exact if_congr (haltEnds_congr h r) rfl rfl

theorem controlLineCheck_congr (c : Channel) (r : ChannelRec) : controlLineCheck t c r = controlLineCheck s c r := by
  unfold controlLineCheck
  rw [h.failSafe, h.tables, h.inputValid]

end Congr

/-! ### The model's halt step -/

theorem haltedCheck_one (s : State) (c : Channel) : OneChannel c s (haltedCheck s c) ∧
    chan (haltedCheck s c) c = afterHalted s (chan s c) ∧
    (haltedCheck s c).alerts = abandonedAlerts s c (chan s c) s.alerts ∧ (haltedCheck s c).mgmt = s.mgmt ∧
    (haltedCheck s c).store = s.store := by
  have hraise : ChangesOnly [.alerts] s (raiseAbandoned c s) := raiseAlert_touches s _ _ _
  unfold haltedCheck afterHalted abandonedAlerts
  split
  · refine ⟨(OneChannel.of_frame hraise (by decide) (by decide)).trans (.onChannel c _ _), ?_, rfl, rfl, rfl⟩
    rw [chan_onChannel_same, chan_frame hraise (by decide)]
  · exact ⟨.refl c s, rfl, rfl, rfl, rfl⟩

theorem endPendingHalt_mgmt {s : State} {c : Channel} {h : PendingHalt} (hp : (chan s c).haltPending = some h)
    (result : Completion) : (endPendingHalt c result s).mgmt = completedHalt s h.tag result s.mgmt := by
  unfold endPendingHalt
  rw [hp]
  rfl

theorem endPendingHalt_rest (c : Channel) (result : Completion) (s : State) :
    (endPendingHalt c result s).alerts = s.alerts ∧ (endPendingHalt c result s).store = s.store :=
  ⟨endPendingHalt_touches s c result .alerts (by decide), endPendingHalt_touches s c result .store (by decide)⟩

theorem pendingHaltCheck_one (s : State) (c : Channel) : OneChannel c s (pendingHaltCheck s c) ∧
    chan (pendingHaltCheck s c) c = afterPending s (chan s c) ∧
    (pendingHaltCheck s c).alerts = s.alerts ∧ (pendingHaltCheck s c).mgmt = haltAnswers s (chan s c) s.mgmt ∧
    (pendingHaltCheck s c).store = s.store := by
  cases hp : (chan s c).haltPending with
  | none =>
    simp only [pendingHaltCheck, afterPending, haltAnswers, hp]
    exact ⟨.refl c s, trivial, trivial, trivial, trivial⟩
  | some h =>
    simp only [pendingHaltCheck, afterPending, haltAnswers, hp, pendingHaltStep, pendingResult]
    split
    · have hgo : chan (s.onChannel c (goHalted h.pressure)) c = goHalted h.pressure (chan s c) := chan_onChannel_same c _ s
      obtain ⟨hone, hchan⟩ := endPendingHalt_one c .halted (s.onChannel c (goHalted h.pressure))
      obtain ⟨halerts, hstore⟩ := endPendingHalt_rest c .halted (s.onChannel c (goHalted h.pressure))
      exact ⟨(OneChannel.onChannel c _ s).trans hone, by rw [hchan, hgo], halerts,
        endPendingHalt_mgmt (by rw [hgo]; exact hp) _, hstore⟩
    · split
      · obtain ⟨hone, hchan⟩ := endPendingHalt_one c .cancelled s
        obtain ⟨halerts, hstore⟩ := endPendingHalt_rest c .cancelled s
        exact ⟨hone, hchan, halerts, endPendingHalt_mgmt hp _, hstore⟩
      · exact ⟨.refl c s, rfl, rfl, rfl, rfl⟩

theorem haltStep_one (s : State) (c : Channel) : OneChannel c s (haltStep s c) ∧
    chan (haltStep s c) c = afterPending s (afterHalted s (chan s c)) ∧
    (haltStep s c).alerts = abandonedAlerts s c (chan s c) s.alerts ∧
    (haltStep s c).mgmt = haltAnswers s (afterHalted s (chan s c)) s.mgmt ∧ (haltStep s c).store = s.store := by
  obtain ⟨hone, hchan, halerts, hmgmt, hstore⟩ := haltedCheck_one s c
  obtain ⟨hone', hchan', halerts', hmgmt', hstore'⟩ := pendingHaltCheck_one (haltedCheck s c) c
  refine ⟨hone.trans hone', ?_, ?_, ?_, ?_⟩
  · exact hchan'.trans (by rw [hchan, afterPending_congr hone.toChannelsOnly])
  · exact halerts'.trans halerts
  · exact hmgmt'.trans (by rw [hchan, hmgmt, haltAnswers_congr hone.toChannelsOnly])
  · exact hstore'.trans hstore

/-! ### Steps 3 to 6 of R42 -/

/-- A record after the supervision and the control-line check of its channel (steps 3 and 4). -/
def checkedOnSet (s : State) (c : Channel) (r : ChannelRec) : ChannelRec := controlLineCheck s c (supervised s c r)

/-- A record before the ways out of START (steps 3 to 5). -/
def haltedOnSet (s : State) (c : Channel) (r : ChannelRec) : ChannelRec :=
  afterPending s (afterHalted s (checkedOnSet s c r))

/-- What makes every channel's work on a set its own: the policy OTHERS, or a set without faults (R51). -/
abbrev EachItsOwn (s : State) : Prop :=
  t1PolicyAll s.tables.t1 = false ∨ ∀ c, ¬faultsOn s c (chan s c)

/-- The state after the supervision and the control-line checks. -/
def checked (m : State) : State := controlLineChecks (allChannels.foldl superviseChannel m)

/-- The state before the ways out of START. -/
def halted (m : State) : State := allChannels.foldl haltStep (checked m)

theorem arbiterJudges_eq (s : State) : arbiterJudges s = leaveStarts (halted (measured s)) := rfl

theorem chan_controlLineChecks (s : State) (c : Channel) :
    chan (controlLineChecks s) c = controlLineCheck s c (chan s c) := quadGet_map _ _ _

theorem controlLineChecks_only (s : State) : ChannelsOnly s (controlLineChecks s) := .of_channels s _

theorem controlLineChecks_frame (s : State) : ChangesOnly [.arbiter] s (controlLineChecks s) := onArbiter_touches s _

theorem leaveStarts_only (s : State) : ChannelsOnly s (leaveStarts s) := .of_channels s _

theorem chan_leaveStarts (s : State) (c : Channel) : chan (leaveStarts s) c = leaveStart s c (chan s c) := quadGet_map _ _ _

theorem checked_channels {m : State} (hq : EachItsOwn m) :
    ChannelsOnly m (checked m) ∧ ∀ c, chan (checked m) c = checkedOnSet m c (chan m c) := by
  have own : ∀ s c, ChannelsOnly m s → chan s c = chan m c → OneChannel c s (superviseChannel s c) ∧
      chan (superviseChannel s c) c = supervised m c (chan m c) ∧ () = () := fun s c hs hc => by
    obtain ⟨hrec, hfault⟩ := supervised_congr hs c (chan m c)
    have hq' : t1PolicyAll s.tables.t1 = false ∨ ¬faultsOn s c (chan s c) := by
      rw [hs.tables, hc, hfault]
      exact hq.imp id fun h => h c
    obtain ⟨hone, hchan⟩ := superviseChannel_one hq'
    exact ⟨hone, by rw [hchan, hc, hrec], rfl⟩
  obtain ⟨hall, hin, -, -⟩ := foldl_channels (π := fun _ => ()) (work := fun _ a => a) own allChannels_nodup
    (ChannelsOnly.refl m) fun _ _ => rfl
  refine ⟨hall.trans (controlLineChecks_only _), fun c => ?_⟩
  rw [checked, chan_controlLineChecks, hin c (mem_allChannels c), controlLineCheck_congr hall, checkedOnSet]

/-- The halt step of a channel whose record is as the checks left it. -/
theorem haltStep_own {m s : State} {c : Channel} (hs : ChannelsOnly m s) (hc : chan s c = checkedOnSet m c (chan m c)) :
    OneChannel c s (haltStep s c) ∧ chan (haltStep s c) c = haltedOnSet m c (chan m c) ∧
      (haltStep s c).alerts = abandonedAlerts m c (checkedOnSet m c (chan m c)) s.alerts ∧
      (haltStep s c).mgmt = haltAnswers m (afterHalted m (checkedOnSet m c (chan m c))) s.mgmt ∧
      (haltStep s c).store = s.store := by
  obtain ⟨hone, hrec, halerts, hmgmt, hstore⟩ := haltStep_one s c
  refine ⟨hone, ?_, ?_, ?_, hstore⟩
  · rw [hrec, hc, afterHalted_congr hs, afterPending_congr hs, haltedOnSet]
  · rw [halerts, hc, abandonedAlerts_congr hs]
  · rw [hmgmt, hc, afterHalted_congr hs, haltAnswers_congr hs]

/-- The halt steps of all channels, with a figure of the state that follows them. -/
theorem halted_run {α : Type} {π : State → α} {work : Channel → α → α} {m : State} (hq : EachItsOwn m)
    (hπ : ∀ s c, ChannelsOnly m s → chan s c = checkedOnSet m c (chan m c) → π (haltStep s c) = work c (π s)) :
    ChannelsOnly m (halted m) ∧ (∀ c, chan (halted m) c = haltedOnSet m c (chan m c)) ∧
      π (halted m) = allChannels.foldl (fun a c => work c a) (π (checked m)) := by
  obtain ⟨hchecked, hchan⟩ := checked_channels hq
  obtain ⟨hall, hin, -, hrun⟩ := foldl_channels (fun s c hs hc => by
    obtain ⟨hone, hrec, -⟩ := haltStep_own hs hc
    exact ⟨hone, hrec, hπ s c hs hc⟩) allChannels_nodup hchecked fun c _ => hchan c
  exact ⟨hall, fun c => hin c (mem_allChannels c), hrun⟩

theorem halted_channels {m : State} (hq : EachItsOwn m) :
    ChannelsOnly m (halted m) ∧ ∀ c, chan (halted m) c = haltedOnSet m c (chan m c) := by
  obtain ⟨hall, hin, -⟩ := halted_run (π := fun _ => ()) (work := fun _ a => a) hq fun _ _ _ _ => rfl
  exact ⟨hall, hin⟩

theorem halted_alerts {m : State} (hq : EachItsOwn m) : (halted m).alerts =
    allChannels.foldl (fun a c => abandonedAlerts m c (checkedOnSet m c (chan m c)) a) (checked m).alerts := by
  obtain ⟨-, -, h⟩ := halted_run (π := State.alerts) hq fun s c hs hc => by
    obtain ⟨-, -, halerts, -, -⟩ := haltStep_own hs hc
    exact halerts
  exact h

theorem halted_mgmt {m : State} (hq : EachItsOwn m) : (halted m).mgmt =
    allChannels.foldl (fun a c => haltAnswers m (afterHalted m (checkedOnSet m c (chan m c))) a) (checked m).mgmt := by
  obtain ⟨-, -, h⟩ := halted_run (π := State.mgmt) hq fun s c hs hc => by
    obtain ⟨-, -, -, hmgmt, -⟩ := haltStep_own hs hc
    exact hmgmt
  exact h

theorem halted_store {m : State} (hq : EachItsOwn m) : (halted m).store = (checked m).store := by
  obtain ⟨-, -, h⟩ := halted_run (π := State.store) (work := fun _ a => a) hq fun s c hs hc => by
    obtain ⟨-, -, -, -, hstore⟩ := haltStep_own hs hc
    exact hstore
  exact h.trans (foldl_idle (fun _ _ _ => rfl) _)

/-- Without a fault the supervision and the control-line checks touch the channel records alone. -/
theorem checked_quiet {m : State} (hq : ∀ c, ¬faultsOn m c (chan m c)) :
    (checked m).alerts = m.alerts ∧ (checked m).mgmt = m.mgmt ∧ (checked m).store = m.store := by
  have own : ∀ s c, ChannelsOnly m s → chan s c = chan m c → OneChannel c s (superviseChannel s c) ∧
      chan (superviseChannel s c) c = supervised m c (chan m c) ∧
      ((superviseChannel s c).alerts, (superviseChannel s c).mgmt, (superviseChannel s c).store) =
        (s.alerts, s.mgmt, s.store) := fun s c hs hc => by
    obtain ⟨hrec, hfault⟩ := supervised_congr hs c (chan m c)
    have hquiet : ¬faultsOn s c (chan s c) := by
      rw [hc, hfault]
      exact hq c
    have hframe := superviseChannel_quiet hquiet
    have halerts : (superviseChannel s c).alerts = s.alerts := hframe .alerts (by decide)
    have hmgmt : (superviseChannel s c).mgmt = s.mgmt := hframe .mgmt (by decide)
    have hstore : (superviseChannel s c).store = s.store := hframe .store (by decide)
    obtain ⟨hone, hchan⟩ := superviseChannel_one (.inr hquiet)
    exact ⟨hone, by rw [hchan, hc, hrec], by rw [halerts, hmgmt, hstore]⟩
  obtain ⟨-, -, -, hrun⟩ := foldl_channels (π := fun s => (s.alerts, s.mgmt, s.store)) (work := fun _ a => a) own
    allChannels_nodup (ChannelsOnly.refl m) fun _ _ => rfl
  rw [foldl_idle (fun _ _ _ => rfl)] at hrun
  obtain ⟨halerts, hrest⟩ := Prod.mk.inj hrun
  obtain ⟨hmgmt, hstore⟩ := Prod.mk.inj hrest
  have hlines := controlLineChecks_frame (allChannels.foldl superviseChannel m)
  unfold checked
  exact ⟨(hlines .alerts (by decide)).trans halerts, (hlines .mgmt (by decide)).trans hmgmt,
    (hlines .store (by decide)).trans hstore⟩

end Sys2Proof.Machine
end

section
/-! Where one channel goes on a sample set (R43, R44, R49, R58, R59), and what becomes of its deviation timer (R53). -/

namespace Sys2Proof.Machine

open Sys2Proof

/-! ### Leaving a state for START or BACKUP -/

/-- The control line fails an ACTIVE channel in FS_A (R49). -/
abbrev lineFails (s : State) (c : Channel) (r : ChannelRec) : Prop :=
  r.state = .active ∧ (s.arbiter.failSafe = .fsA ∧ t1FsaBackup s.tables.t1 c = false) ∧ ¬inputValid s inputControl = true

/-- The control line gives a channel back in FS_A (R49). -/
abbrev lineReturns (s : State) (c : Channel) (r : ChannelRec) : Prop :=
  (s.arbiter.failSafe = .fsA ∧ t1FsaBackup s.tables.t1 c = false) ∧ inputValid s inputControl = true ∧
    r.state = .backup ∧ r.reason = some .failsafe

/-- A channel is in START before the ways out of it: it was, its halt ended, or the control line gave it back. -/
abbrev startsOn (s : State) (c : Channel) (r : ChannelRec) : Prop :=
  r.state = .start ∨ haltEnds s r ∨ lineReturns s c r

/-- A record after the control-line check and the rule of HALTED (R49, R59). -/
def movedOnSet (s : State) (c : Channel) (r : ChannelRec) : ChannelRec := afterHalted s (controlLineCheck s c r)

theorem haltedOnSet_eq (s : State) (c : Channel) (r : ChannelRec) :
    haltedOnSet s c r = afterPending s (movedOnSet s c (supervised s c r)) := rfl

section Moved

variable {s : State} {c : Channel} {r : ChannelRec}

theorem controlLineCheck_of_fails (h : lineFails s c r) : controlLineCheck s c r = goTo .backup (some .failsafe) r := by
  obtain ⟨hactive, hfsA, hinvalid⟩ := h
  unfold controlLineCheck
  rw [if_pos hfsA, if_pos ⟨hactive, Bool.eq_false_iff.mpr hinvalid⟩]

theorem controlLineCheck_of_returns (h : lineReturns s c r) : controlLineCheck s c r = goTo .start none r := by
  obtain ⟨hfsA, hvalid, hbackup⟩ := h
  have hactive : ¬(r.state = .active ∧ inputValid s inputControl = false) := fun h => by simp [hbackup.1] at h
  unfold controlLineCheck
  rw [if_pos hfsA, if_neg hactive, if_pos ⟨hbackup, hvalid⟩]

theorem controlLineCheck_of_neither (hf : ¬lineFails s c r) (hr : ¬lineReturns s c r) : controlLineCheck s c r = r := by
  unfold controlLineCheck
  split
  · next hfsA =>
    rw [if_neg fun h => hf ⟨h.1, hfsA, Bool.eq_false_iff.mp h.2⟩, if_neg fun h => hr ⟨hfsA, h.2, h.1⟩]
  · rfl

theorem movedOnSet_of_fails (h : lineFails s c r) : movedOnSet s c r = goTo .backup (some .failsafe) r := by
  rw [movedOnSet, controlLineCheck_of_fails h]
  exact if_neg fun hh => nomatch hh.1

theorem movedOnSet_of_starts (h : startsOn s c r) : movedOnSet s c r = r ∧ r.state = .start ∨
    movedOnSet s c r = goTo .start none r := by
  unfold movedOnSet
  by_cases hr : lineReturns s c r
  · rw [controlLineCheck_of_returns hr]
    exact .inr (if_neg fun hh => nomatch hh.1)
  · have hf : ¬lineFails s c r := fun hf => by
      have hactive := hf.1
      rcases h with h | h | h
      · exact nomatch hactive.symm.trans h
      · exact nomatch hactive.symm.trans h.1
      · exact hr h
    rw [controlLineCheck_of_neither hf hr]
    by_cases hh : haltEnds s r
    · exact .inr (if_pos hh)
    · exact .inl ⟨if_neg hh, (h.resolve_right fun h => h.elim hh hr)⟩

theorem movedOnSet_of_neither (hf : ¬lineFails s c r) (hs : ¬startsOn s c r) : movedOnSet s c r = r := by
  rw [movedOnSet, controlLineCheck_of_neither hf fun hr => hs (.inr (.inr hr))]
  exact if_neg fun hh => hs (.inr (.inl hh))

/-- What a move leaves of a record. -/
theorem movedOnSet_rest (s : State) (c : Channel) (r : ChannelRec) : (movedOnSet s c r).errors = r.errors ∧
    (movedOnSet s c r).cause = r.cause ∧ (movedOnSet s c r).haltPending = r.haltPending ∧
    (movedOnSet s c r).strapPending = r.strapPending := by
  by_cases hf : lineFails s c r
  · rw [movedOnSet_of_fails hf]
    exact ⟨rfl, rfl, rfl, rfl⟩
  · by_cases hs : startsOn s c r
    · obtain ⟨h, -⟩ | h := movedOnSet_of_starts hs
      · rw [h]
        exact ⟨rfl, rfl, rfl, rfl⟩
      · rw [h]
        exact ⟨rfl, rfl, rfl, rfl⟩
    · rw [movedOnSet_of_neither hf hs]
      exact ⟨rfl, rfl, rfl, rfl⟩

end Moved

/-! ### A pending halt -/

/-- A pending halt is taken on the set (R58). -/
abbrev haltTaken (s : State) (r : ChannelRec) : Prop := r.haltPending ≠ none ∧ pendingResult s = some .halted

/-- A pending halt is cancelled on the set (R58). -/
abbrev haltCancelled (s : State) (r : ChannelRec) : Prop := r.haltPending ≠ none ∧ pendingResult s = some .cancelled

section Pending

variable {s : State} {r : ChannelRec}

theorem pendingResult_cases (s : State) :
    pendingResult s = some .halted ∨ pendingResult s = some .cancelled ∨ pendingResult s = none := by
  unfold pendingResult
  split
  · exact .inl rfl
  · split
    · exact .inr (.inl rfl)
    · exact .inr (.inr rfl)

theorem afterPending_of_taken {h : PendingHalt} (hp : r.haltPending = some h) (ht : pendingResult s = some .halted) :
    afterPending s r = { goHalted h.pressure r with haltPending := none } := by
  rw [afterPending, hp, ht]

theorem afterPending_of_waiting (ht : ¬haltTaken s r) :
    afterPending s r = { r with haltPending := if haltCancelled s r then none else r.haltPending } := by
  by_cases hp : r.haltPending = none
  · have hsame : afterPending s r = r := by rw [afterPending, hp]
    rw [hsame, if_neg fun h => h.1 hp]
  · obtain ⟨h, hsome⟩ := Option.ne_none_iff_exists'.mp hp
    rcases pendingResult_cases s with hres | hres | hres
    · exact absurd ⟨hp, hres⟩ ht
    · rw [if_pos ⟨hp, hres⟩, afterPending, hsome, hres]
    · have hsame : afterPending s r = r := by rw [afterPending, hsome, hres]
      have hno : ¬haltCancelled s r := fun hc => nomatch hres.symm.trans hc.2
      rw [hsame, if_neg hno]

theorem afterPending_rest (s : State) (r : ChannelRec) : (afterPending s r).errors = r.errors ∧
    (afterPending s r).cause = r.cause ∧ (afterPending s r).deviation = r.deviation := by
  unfold afterPending
  split
  · exact ⟨rfl, rfl, rfl⟩
  · exact ⟨rfl, rfl, rfl⟩
  · exact ⟨rfl, rfl, rfl⟩
  · exact ⟨rfl, rfl, rfl⟩

end Pending

/-! ### The ways out of START -/

/-- The conditions of a channel to leave START for ACTIVE but the strap (R43; log 53). -/
abbrev startReady (s : State) (c : Channel) : Prop := startConditions s c = true ∧ s.arbiter.backupNext = false

/-- The conditions of the strap to halt a channel (R44). -/
abbrev strapCalm (s : State) : Prop := demandLow s = true ∧ vehicleSpeed s ≠ none ∧ ¬speedAbove200 s = true

section Start

variable {s : State} {c : Channel} {r : ChannelRec}

theorem leaveStart_of_elsewhere (h : r.state ≠ .start) : leaveStart s c r = r := if_neg h

theorem leaveStart_of_unassigned (h : r.state = .start) (ha : t1Assigned s.tables.t1 c = false) :
    leaveStart s c r = { goTo .backup (some .unassigned) r with strapPending := false } := by
  unfold leaveStart assigned
  rw [if_pos h, ha]
  rfl

theorem leaveStart_of_ready (h : r.state = .start) (ha : t1Assigned s.tables.t1 c = true) (hr : startReady s c)
    (hs : r.strapPending = false) : leaveStart s c r = goActive r := by
  unfold leaveStart assigned
  rw [if_pos h, if_pos ha, hr.1, hr.2, hs]
  rfl

theorem leaveStart_of_strap (h : r.state = .start) (ha : t1Assigned s.tables.t1 c = true) (hr : startReady s c)
    (hs : r.strapPending = true) (hcalm : strapCalm s) : leaveStart s c r = goHalted 0 r := by
  obtain ⟨hlow, hknown, hslow⟩ := hcalm
  unfold leaveStart assigned
  rw [if_pos h, if_pos ha, hr.1, hr.2, hs, hlow, Option.isSome_iff_ne_none.mpr hknown, Bool.eq_false_iff.mpr hslow]
  rfl

theorem leaveStart_of_waiting (ha : t1Assigned s.tables.t1 c = true)
    (hw : ¬startReady s c ∨ (r.strapPending = true ∧ ¬strapCalm s)) : leaveStart s c r = r := by
  unfold leaveStart assigned
  by_cases h : r.state = .start
  · rw [if_pos h, if_pos ha]
    split
    · next hready =>
      have hready : startReady s c := by simpa using hready
      obtain ⟨hs, hcalm⟩ := hw.resolve_left (not_not_intro hready)
      rw [if_pos hs, if_neg]
      intro h
      simp only [Bool.and_eq_true, Option.isSome_iff_ne_none, Bool.not_eq_true', and_assoc] at h
      obtain ⟨hlow, hknown, hslow⟩ := h
      exact hcalm ⟨hlow, hknown, Bool.eq_false_iff.mp hslow⟩
    · rfl
  · exact if_neg h

theorem leaveStart_rest (s : State) (c : Channel) (r : ChannelRec) : (leaveStart s c r).errors = r.errors ∧
    (leaveStart s c r).cause = r.cause ∧ (leaveStart s c r).haltPending = r.haltPending := by
  unfold leaveStart
  split
  · split
    · split
      · split
        · split
          · exact ⟨rfl, rfl, rfl⟩
          · exact ⟨rfl, rfl, rfl⟩
        · exact ⟨rfl, rfl, rfl⟩
      · exact ⟨rfl, rfl, rfl⟩
    · exact ⟨rfl, rfl, rfl⟩
  · exact ⟨rfl, rfl, rfl⟩

/-- A record that leaves START has no deviation timer or goes on with it (R53). -/
theorem leaveStart_deviation (s : State) (c : Channel) (r : ChannelRec) :
    (leaveStart s c r).deviation = r.deviation ∨ (leaveStart s c r).deviation = none := by
  unfold leaveStart
  split
  · split
    · split
      · split
        · split
          · exact .inl rfl
          · exact .inl rfl
        · exact .inl rfl
      · exact .inl rfl
    · exact .inr rfl
  · exact .inl rfl

theorem leaveStart_of_faulted_iff : (leaveStart s c r).state = .faulted ↔ r.state = .faulted := by
  by_cases h : r.state = .start
  · have hno : ∀ r' : ChannelRec, r'.state ≠ .faulted → (r'.state = .faulted ↔ r.state = .faulted) := fun r' hr' =>
      iff_of_false hr' (by rw [h]; decide)
    apply hno
    unfold leaveStart
    rw [if_pos h]
    split
    · split
      · split
        · split
          · nofun
          · rw [h]; decide
        · nofun
      · rw [h]; decide
    · nofun
  · rw [leaveStart_of_elsewhere h]

end Start

end Sys2Proof.Machine
end

section
/-! A channel record on a sample set as a whole: steps 3 to 6 of R42 taken together. -/

namespace Sys2Proof.Machine

open Sys2Proof

section Outcome

variable {s : State} {c : Channel} {r : ChannelRec}

/-! ### The record before the ways out of START -/

/-- What supervision without a fault leaves of a record. -/
theorem supervised_same (hq : ¬faultsOn s c r) : (supervised s c r).state = r.state ∧ (supervised s c r).reason = r.reason ∧
    (supervised s c r).haltPending = r.haltPending ∧ (supervised s c r).strapPending = r.strapPending ∧
    (supervised s c r).cause = r.cause := by
  rw [supervised_of_quiet hq]
  split
  · exact ⟨rfl, rfl, rfl, rfl, rfl⟩
  · exact ⟨rfl, rfl, rfl, rfl, rfl⟩

/-- Supervision without a fault leaves what the later steps judge. -/
theorem supervised_conditions (hq : ¬faultsOn s c r) : (startsOn s c (supervised s c r) ↔ startsOn s c r) ∧
    (lineFails s c (supervised s c r) ↔ lineFails s c r) ∧ (haltEnds s (supervised s c r) ↔ haltEnds s r) ∧
    (haltTaken s (supervised s c r) ↔ haltTaken s r) ∧ (haltCancelled s (supervised s c r) ↔ haltCancelled s r) := by
  obtain ⟨hstate, hreason, hpending, -⟩ := supervised_same hq
  simp only [startsOn, lineFails, lineReturns, haltEnds, haltTaken, haltCancelled, hstate, hreason, hpending, and_self]

theorem haltedOnSet_rest (s : State) (c : Channel) (r : ChannelRec) :
    (haltedOnSet s c r).errors = (supervised s c r).errors ∧ (haltedOnSet s c r).cause = (supervised s c r).cause ∧
      (haltedOnSet s c r).deviation = (movedOnSet s c (supervised s c r)).deviation := by
  rw [haltedOnSet_eq]
  obtain ⟨herrors, hcause, hdev⟩ := afterPending_rest s (movedOnSet s c (supervised s c r))
  obtain ⟨herrors', hcause', -⟩ := movedOnSet_rest s c (supervised s c r)
  exact ⟨herrors.trans herrors', hcause.trans hcause', hdev⟩

/-- A channel that faults on the set stays as its fault left it. -/
theorem haltedOnSet_of_fault (h : faultsOn s c r) : haltedOnSet s c r = supervised s c r := by
  obtain ⟨hstate, hpending, -⟩ := supervised_of_fault h
  have hfails : ¬lineFails s c (supervised s c r) := fun hf => nomatch hstate.symm.trans hf.1
  have hstarts : ¬startsOn s c (supervised s c r) := by
    simp only [startsOn, lineReturns, haltEnds, hstate, reduceCtorEq, false_and, and_false, or_self, not_false_eq_true]
  rw [haltedOnSet_eq, movedOnSet_of_neither hfails hstarts, afterPending, hpending]

/-- A channel whose pending halt is taken (R58). -/
theorem haltedOnSet_of_taken (hq : ¬faultsOn s c r) {h : PendingHalt} (hp : r.haltPending = some h)
    (ht : pendingResult s = some .halted) : (haltedOnSet s c r).state = .halted ∧
      (haltedOnSet s c r).haltPressure = h.pressure ∧ (haltedOnSet s c r).haltPending = none ∧
      (haltedOnSet s c r).strapPending = false := by
  obtain ⟨-, -, hpending, -⟩ := supervised_same hq
  obtain ⟨-, -, hpending', -⟩ := movedOnSet_rest s c (supervised s c r)
  rw [haltedOnSet_eq, afterPending_of_taken ((hpending'.trans hpending).trans hp) ht]
  exact ⟨rfl, rfl, rfl, rfl⟩

/-- A channel whose halt, if one is pending, is not taken: where the moves lead it (R49, R58, R59). -/
theorem haltedOnSet_of_waiting (hq : ¬faultsOn s c r) (ht : ¬haltTaken s r) :
    (haltedOnSet s c r).haltPending = (if haltCancelled s r then none else r.haltPending) ∧
      (haltedOnSet s c r).strapPending = r.strapPending ∧ (startsOn s c r → (haltedOnSet s c r).state = .start) ∧
      (lineFails s c r → (haltedOnSet s c r).state = .backup ∧ (haltedOnSet s c r).reason = some .failsafe) ∧
      (¬startsOn s c r → ¬lineFails s c r →
        (haltedOnSet s c r).state = r.state ∧ (haltedOnSet s c r).reason = r.reason) := by
  obtain ⟨hstate, hreason, hpending, hstrap, -⟩ := supervised_same hq
  obtain ⟨hstarts, hfails, -, htaken, hcancelled⟩ := supervised_conditions hq
  obtain ⟨-, -, hpending', hstrap'⟩ := movedOnSet_rest s c (supervised s c r)
  have hwait : ¬haltTaken s (movedOnSet s c (supervised s c r)) := by
    rw [haltTaken, hpending']
    exact mt htaken.mp ht
  rw [haltedOnSet_eq, afterPending_of_waiting hwait]
  refine ⟨?_, hstrap'.trans hstrap, fun h => ?_, fun h => ?_, fun hs hf => ?_⟩
  · have hsame : haltCancelled s (movedOnSet s c (supervised s c r)) ↔ haltCancelled s r := by
      simp only [haltCancelled, hpending', hpending]
    exact if_congr hsame rfl (hpending'.trans hpending)
  · obtain ⟨h, hstart⟩ | h := movedOnSet_of_starts (hstarts.mpr h)
    · rw [h]
      exact hstart
    · rw [h]
      rfl
  · rw [movedOnSet_of_fails (hfails.mpr h)]
    exact ⟨rfl, rfl⟩
  · rw [movedOnSet_of_neither (mt hfails.mp hf) (mt hstarts.mp hs)]
    exact ⟨hstate, hreason⟩

/-! ### The deviation timer (R53) -/

theorem supervised_deviation (hq : ¬faultsOn s c r) : (supervised s c r).deviation =
    if strays s c r then r.deviation.map fun d => { d with start := s.timeBase } else r.deviation := by
  rw [supervised_of_quiet hq]
  split
  · rfl
  · rfl

theorem supervised_deviation_none (hq : ¬faultsOn s c r) (h : r.deviation = none) : (supervised s c r).deviation = none := by
  rw [supervised_deviation hq]
  split
  · rw [h]
    rfl
  · exact h

theorem movedOnSet_deviation_cases (s : State) (c : Channel) (r : ChannelRec) :
    (movedOnSet s c r).deviation = none ∨ movedOnSet s c r = r := by
  by_cases hf : lineFails s c r
  · exact .inl (by rw [movedOnSet_of_fails hf]; rfl)
  · by_cases hs : startsOn s c r
    · obtain ⟨h, -⟩ | h := movedOnSet_of_starts hs
      · exact .inr h
      · exact .inl (by rw [h]; rfl)
    · exact .inr (movedOnSet_of_neither hf hs)

/-- The timer is none once the steps are taken: it was none, the halt ended, or the control line failed the channel. -/
theorem deviation_of_left (hq : ¬faultsOn s c r) (h : r.deviation = none ∨ haltEnds s r ∨ lineFails s c r) (w : State) :
    (leaveStart w c (haltedOnSet s c r)).deviation = none := by
  obtain ⟨hstarts, hfails, hends, -⟩ := supervised_conditions hq
  obtain ⟨-, -, hdev⟩ := haltedOnSet_rest s c r
  have hmoved : (movedOnSet s c (supervised s c r)).deviation = none := by
    rcases h with h | h | h
    · rcases movedOnSet_deviation_cases s c (supervised s c r) with hm | hm
      · exact hm
      · rw [hm]
        exact supervised_deviation_none hq h
    · obtain ⟨-, hstart⟩ | hm := movedOnSet_of_starts (hstarts.mpr (.inr (.inl h)))
      · exact nomatch (hends.mpr h).1.symm.trans hstart
      · rw [hm]
        rfl
    · rw [movedOnSet_of_fails (hfails.mpr h)]
      rfl
  rcases leaveStart_deviation w c (haltedOnSet s c r) with h | h
  · rw [h, hdev, hmoved]
  · exact h

/-- The timer goes on for a channel that stays in ACTIVE or HALTED. -/
theorem deviation_of_stayed (hq : ¬faultsOn s c r) (hr : r.state = .active ∨ r.state = .halted) (hh : ¬haltEnds s r)
    (hf : ¬lineFails s c r) (w : State) :
    (leaveStart w c (haltedOnSet s c r)).deviation = (supervised s c r).deviation := by
  obtain ⟨hstarts, hfails, -⟩ := supervised_conditions hq
  have hno : ¬startsOn s c r := by
    simp only [startsOn, lineReturns, hh]
    rcases hr with hr | hr
    · simp [hr]
    · simp [hr]
  have helse : (haltedOnSet s c r).state ≠ .start := by
    by_cases ht : haltTaken s r
    · obtain ⟨h, hp⟩ := Option.ne_none_iff_exists'.mp ht.1
      rw [(haltedOnSet_of_taken hq hp ht.2).1]
      decide
    · obtain ⟨-, -, -, -, hstay⟩ := haltedOnSet_of_waiting hq ht
      rw [(hstay hno hf).1]
      rcases hr with hr | hr
      · rw [hr]; decide
      · rw [hr]; decide
  obtain ⟨-, -, hdev⟩ := haltedOnSet_rest s c r
  rw [leaveStart_of_elsewhere helse, hdev, movedOnSet_of_neither (mt hfails.mp hf) (mt hstarts.mp hno)]

/-- A record outside ACTIVE and HALTED whose deviation timer is none. -/
def Rests (r : ChannelRec) : Prop := r.state ≠ .active → r.state ≠ .halted → r.deviation = none

theorem rests_of_running (h : r.state = .active ∨ r.state = .halted) : Rests r := fun ha hh => (h.elim ha hh).elim

theorem rests_of_none (h : r.deviation = none) : Rests r := fun _ _ => h

theorem supervised_rests (h : Rests r) : Rests (supervised s c r) := by
  by_cases hf : faultsOn s c r
  · obtain ⟨-, -, hdev, -⟩ := supervised_of_fault hf
    exact rests_of_none hdev
  · intro ha hh
    obtain ⟨hstate, -⟩ := supervised_same hf
    rw [hstate] at ha hh
    exact supervised_deviation_none hf (h ha hh)

theorem haltedOnSet_rests (h : Rests r) : Rests (haltedOnSet s c r) := by
  have hmoved : Rests (movedOnSet s c (supervised s c r)) := by
    rcases movedOnSet_deviation_cases s c (supervised s c r) with hm | hm
    · exact rests_of_none hm
    · rw [hm]
      exact supervised_rests h
  rw [haltedOnSet_eq]
  unfold afterPending
  split
  · exact rests_of_running (.inr rfl)
  · exact hmoved
  · exact hmoved
  · exact hmoved

theorem leaveStart_rests (h : Rests r) : Rests (leaveStart s c r) := by
  by_cases hs : r.state = .start
  · refine rests_of_none ?_
    have hnone : r.deviation = none := h (by rw [hs]; decide) (by rw [hs]; decide)
    rcases leaveStart_deviation s c r with hd | hd
    · rw [hd, hnone]
    · exact hd
  · rw [leaveStart_of_elsewhere hs]
    exact h

end Outcome

/-! ### Commands and deviation timers (step 7 of R42) -/

/-- A channel record with what the commands and the deviation timers write blanked. -/
def course (r : ChannelRec) : ChannelRec :=
  { r with
    driverTarget := 0, rollContribution := 0, emergency := 0, cmdPressure := false, cmdTarget := 0, deviation := none }

/-- What two records of the same course have in common. -/
theorem course_fields {r r' : ChannelRec} (h : course r' = course r) : r'.state = r.state ∧ r'.reason = r.reason ∧
    r'.errors = r.errors ∧ r'.cause = r.cause ∧ r'.haltPending = r.haltPending ∧ r'.haltPressure = r.haltPressure ∧
    r'.strapPending = r.strapPending ∧ r'.ceiling = r.ceiling ∧ r'.heldTarget = r.heldTarget :=
  ⟨(congrArg ChannelRec.state h :), (congrArg ChannelRec.reason h :), (congrArg ChannelRec.errors h :),
    (congrArg ChannelRec.cause h :), (congrArg ChannelRec.haltPending h :), (congrArg ChannelRec.haltPressure h :),
    (congrArg ChannelRec.strapPending h :), (congrArg ChannelRec.ceiling h :), (congrArg ChannelRec.heldTarget h :)⟩

theorem computeChannel_course (s : State) (c : Channel) (r : ChannelRec) : course (computeChannel s c r) = course r := by
  unfold computeChannel withContributions
  dsimp only
  split
  · rfl
  · rfl

theorem computeChannel_deviation (s : State) (c : Channel) (r : ChannelRec) :
    (computeChannel s c r).deviation = r.deviation := by
  unfold computeChannel withContributions
  dsimp only
  split
  · rfl
  · rfl

section Timer

variable {now : Stamp} {r : ChannelRec}

theorem updateDeviation_of_elsewhere (h : ¬(r.state = .active ∨ r.state = .halted)) : updateDeviation now r = r := if_neg h

theorem updateDeviation_of_none (h : r.state = .active ∨ r.state = .halted) (hd : r.deviation = none) :
    updateDeviation now r = { r with deviation := some ⟨r.cmdTarget, now⟩ } := by
  rw [updateDeviation, if_pos h, hd]

theorem updateDeviation_of_some (h : r.state = .active ∨ r.state = .halted) {d : DevTimer} (hd : r.deviation = some d) :
    updateDeviation now r =
      { r with deviation := some (if absDiff r.cmdTarget d.reference < 5 then d else ⟨r.cmdTarget, now⟩) } := by
  rw [updateDeviation, if_pos h, hd]
  dsimp only
  split
  · next hfar => rw [if_neg (Nat.not_lt.mpr hfar)]
  · next hnear => rw [if_pos (Nat.not_le.mp hnear), ← hd]

end Timer

/-- The deviation timer leaves everything else of a record. -/
theorem updateDeviation_rest (now : Stamp) (r : ChannelRec) : course (updateDeviation now r) = course r ∧
    (updateDeviation now r).cmdPressure = r.cmdPressure ∧ (updateDeviation now r).cmdTarget = r.cmdTarget := by
  by_cases h : r.state = .active ∨ r.state = .halted
  · cases hd : r.deviation with
    | none =>
      rw [updateDeviation_of_none h hd]
      exact ⟨rfl, rfl, rfl⟩
    | some d =>
      rw [updateDeviation_of_some h hd]
      exact ⟨rfl, rfl, rfl⟩
  · rw [updateDeviation_of_elsewhere h]
    exact ⟨rfl, rfl, rfl⟩

end Sys2Proof.Machine
end

section
/-! The pressure arbiter on a sample set, channel by channel (R42 to R45, R49, R52, R53, R56, R58, R59). -/

namespace Sys2Proof.Machine

open Sys2Proof

/-! ### A channel record over the set -/

/-- A channel record before the commands are computed: steps 3 to 6 of R42 on what steps 1 and 2 measured. -/
def settled (u : State) (c : Channel) : ChannelRec :=
  leaveStart (halted (measured u)) c (haltedOnSet (measured u) c (chan (measured u) c))

theorem chan_updateDeviations (s : State) (c : Channel) :
    chan (updateDeviations s) c = updateDeviation s.timeBase (chan s c) := quadGet_map _ _ _

theorem arbiterJudges_clock (u : State) : (arbiterJudges u).timeBase = u.timeBase :=
  arbiterJudges_touches u .clock (by decide)

/-- The commands and the deviation timers change the arbiter as if the record were not sent. -/
theorem arbiterCommands_arbiter (s : State) :
    (arbiterCommands s).arbiter = (updateDeviations (computeCommands s)).arbiter := rfl

theorem chan_arbiterCommands (s : State) (c : Channel) :
    chan (arbiterCommands s) c = updateDeviation s.timeBase (computeChannel s c (chan s c)) := by
  rw [chan, arbiterCommands_arbiter, ← chan, chan_updateDeviations, chan_computeCommands]
  rfl

theorem chan_arbiterTakesSet (u : State) (c : Channel) : chan (arbiterTakesSet u) c =
    updateDeviation u.timeBase (computeChannel (arbiterJudges u) c (chan (arbiterJudges u) c)) := by
  rw [arbiterTakesSet, chan_arbiterCommands, arbiterJudges_clock]

theorem chan_arbiterTakesSet_course (u : State) (c : Channel) :
    course (chan (arbiterTakesSet u) c) = course (chan (arbiterJudges u) c) := by
  obtain ⟨hcourse, -⟩ := updateDeviation_rest u.timeBase (computeChannel (arbiterJudges u) c (chan (arbiterJudges u) c))
  rw [chan_arbiterTakesSet, hcourse, computeChannel_course]

section Own

variable {u : State} (hq : EachItsOwn (measured u)) (c : Channel)

include hq

theorem chan_judged : chan (arbiterJudges u) c = settled u c := by
  obtain ⟨-, hchan⟩ := halted_channels hq
  rw [arbiterJudges_eq, chan_leaveStarts, hchan, settled]

theorem settled_fields :
    let r' := chan (arbiterTakesSet u) c
    r'.state = (settled u c).state ∧ r'.reason = (settled u c).reason ∧ r'.errors = (settled u c).errors ∧
      r'.cause = (settled u c).cause ∧ r'.haltPending = (settled u c).haltPending ∧
      r'.haltPressure = (settled u c).haltPressure ∧ r'.strapPending = (settled u c).strapPending := by
  obtain ⟨hstate, hreason, herrors, hcause, hpending, hpressure, hstrap, -⟩ :=
    course_fields ((chan_arbiterTakesSet_course u c).trans (by rw [chan_judged hq]))
  exact ⟨hstate, hreason, herrors, hcause, hpending, hpressure, hstrap⟩

end Own

/-! ### Where the channel goes -/

section Clauses

variable {u : State} {c : Channel}

theorem settled_errors (u : State) (c : Channel) :
    (settled u c).errors = (supervised (measured u) c (chan (measured u) c)).errors := by
  obtain ⟨herrors, -⟩ := leaveStart_rest (halted (measured u)) c (haltedOnSet (measured u) c (chan (measured u) c))
  obtain ⟨herrors', -⟩ := haltedOnSet_rest (measured u) c (chan (measured u) c)
  exact herrors.trans herrors'

theorem settled_of_fault (h : faultsOn (measured u) c (chan (measured u) c)) :
    (settled u c).state = .faulted ∧ (settled u c).haltPending = none ∧ (settled u c).cause =
      some (if inputLost (measured u) c (chan (measured u) c) then .deliveredInvalid else .counter) := by
  obtain ⟨hstate, hpending, -, hcause⟩ := supervised_of_fault h
  have helse : (supervised (measured u) c (chan (measured u) c)).state ≠ .start := by
    rw [hstate]
    decide
  rw [settled, haltedOnSet_of_fault h, leaveStart_of_elsewhere helse]
  exact ⟨hstate, hpending, hcause⟩

theorem settled_of_taken (hquiet : ¬faultsOn (measured u) c (chan (measured u) c)) {h : PendingHalt}
    (hp : (chan (measured u) c).haltPending = some h) (ht : haltTaken (measured u) (chan (measured u) c)) :
    (settled u c).state = .halted ∧ (settled u c).haltPressure = h.pressure ∧ (settled u c).haltPending = none ∧
      (settled u c).strapPending = false := by
  have htaken := haltedOnSet_of_taken hquiet hp ht.2
  rw [settled, leaveStart_of_elsewhere (by rw [htaken.1]; decide)]
  exact htaken

theorem settled_pending (hquiet : ¬faultsOn (measured u) c (chan (measured u) c))
    (ht : ¬haltTaken (measured u) (chan (measured u) c)) : (settled u c).haltPending =
      if haltCancelled (measured u) (chan (measured u) c) then none else (chan (measured u) c).haltPending := by
  obtain ⟨hpending, -⟩ := haltedOnSet_of_waiting hquiet ht
  obtain ⟨-, -, hpending'⟩ := leaveStart_rest (halted (measured u)) c (haltedOnSet (measured u) c (chan (measured u) c))
  exact hpending'.trans hpending

/-- The ways out of START for a channel that is there before them (R43, R44, R39; log 53). -/
theorem settled_of_starts (hw : ChannelsOnly (measured u) (halted (measured u)))
    (hquiet : ¬faultsOn (measured u) c (chan (measured u) c)) (ht : ¬haltTaken (measured u) (chan (measured u) c)) :
    (startsOn (measured u) c (chan (measured u) c) → t1Assigned u.tables.t1 c = false →
      (settled u c).state = .backup ∧ (settled u c).reason = some .unassigned ∧ (settled u c).strapPending = false) ∧
    (startsOn (measured u) c (chan (measured u) c) → t1Assigned u.tables.t1 c = true → startReady (halted (measured u)) c →
      (chan (measured u) c).strapPending = false → (settled u c).state = .active ∧ (settled u c).reason = none) ∧
    (startsOn (measured u) c (chan (measured u) c) → t1Assigned u.tables.t1 c = true → startReady (halted (measured u)) c →
      (chan (measured u) c).strapPending = true → strapCalm (halted (measured u)) →
        (settled u c).state = .halted ∧ (settled u c).haltPressure = 0 ∧ (settled u c).strapPending = false) ∧
    (startsOn (measured u) c (chan (measured u) c) → t1Assigned u.tables.t1 c = true →
      ¬startReady (halted (measured u)) c ∨
        ((chan (measured u) c).strapPending = true ∧ ¬strapCalm (halted (measured u))) →
      (settled u c).state = .start ∧ (settled u c).strapPending = (chan (measured u) c).strapPending) := by
  obtain ⟨-, hstrap, hstart, -⟩ := haltedOnSet_of_waiting hquiet ht
  have htables : (halted (measured u)).tables.t1 = u.tables.t1 := congrArg Tables.t1 hw.tables
  rw [settled, ← htables, ← hstrap]
  refine ⟨fun hs ha => ?_, fun hs ha hr hno => ?_, fun hs ha hr hyes hcalm => ?_, fun hs ha hwait => ?_⟩
  · rw [leaveStart_of_unassigned (hstart hs) ha]
    exact ⟨rfl, rfl, rfl⟩
  · rw [leaveStart_of_ready (hstart hs) ha hr hno]
    exact ⟨rfl, rfl⟩
  · rw [leaveStart_of_strap (hstart hs) ha hr hyes hcalm]
    exact ⟨rfl, rfl, rfl⟩
  · rw [leaveStart_of_waiting ha hwait]
    exact ⟨hstart hs, rfl⟩

theorem settled_of_fails (hquiet : ¬faultsOn (measured u) c (chan (measured u) c))
    (ht : ¬haltTaken (measured u) (chan (measured u) c)) (hf : lineFails (measured u) c (chan (measured u) c)) :
    (settled u c).state = .backup ∧ (settled u c).reason = some .failsafe := by
  obtain ⟨-, -, -, hfails, -⟩ := haltedOnSet_of_waiting hquiet ht
  obtain ⟨hstate, hreason⟩ := hfails hf
  rw [settled, leaveStart_of_elsewhere (by rw [hstate]; decide)]
  exact ⟨hstate, hreason⟩

theorem settled_of_neither (hquiet : ¬faultsOn (measured u) c (chan (measured u) c))
    (ht : ¬haltTaken (measured u) (chan (measured u) c)) (hs : ¬startsOn (measured u) c (chan (measured u) c))
    (hf : ¬lineFails (measured u) c (chan (measured u) c)) :
    (settled u c).state = (chan (measured u) c).state ∧ (settled u c).reason = (chan (measured u) c).reason := by
  obtain ⟨-, -, -, -, hstay⟩ := haltedOnSet_of_waiting hquiet ht
  obtain ⟨hstate, hreason⟩ := hstay hs hf
  rw [settled, leaveStart_of_elsewhere (by rw [hstate]; exact fun h => hs (.inl h))]
  exact ⟨hstate, hreason⟩

/-- A FAULTED channel stays so with its cause unless its pending halt is taken. -/
theorem settled_of_faulted (h : (chan (measured u) c).state = .faulted)
    (ht : ¬haltTaken (measured u) (chan (measured u) c)) :
    (settled u c).state = .faulted ∧ (settled u c).cause = (chan (measured u) c).cause := by
  obtain ⟨hquiet, hsame⟩ := supervised_of_faulted (s := measured u) (c := c) h
  have hs : ¬startsOn (measured u) c (chan (measured u) c) := by
    simp only [startsOn, lineReturns, haltEnds, h, reduceCtorEq, false_and, and_false, or_self, not_false_eq_true]
  obtain ⟨hstate, -⟩ := settled_of_neither hquiet ht hs fun hf => nomatch h.symm.trans hf.1
  obtain ⟨-, hcause, -⟩ := leaveStart_rest (halted (measured u)) c (haltedOnSet (measured u) c (chan (measured u) c))
  obtain ⟨-, hcause', -⟩ := haltedOnSet_rest (measured u) c (chan (measured u) c)
  exact ⟨hstate.trans h, hcause.trans (hcause'.trans (by rw [hsame]))⟩

/-- The deviation timer of a channel that stays in ACTIVE or HALTED, started again where its pressure strays (R53). -/
theorem settled_deviation (hquiet : ¬faultsOn (measured u) c (chan (measured u) c))
    (hr : (chan (measured u) c).state = .active ∨ (chan (measured u) c).state = .halted)
    (hh : ¬haltEnds (measured u) (chan (measured u) c)) (hf : ¬lineFails (measured u) c (chan (measured u) c))
    {d : DevTimer} (hd : (chan (measured u) c).deviation = some d) : (settled u c).deviation =
      some ⟨d.reference, if strays (measured u) c (chan (measured u) c) then u.timeBase else d.start⟩ := by
  rw [settled, deviation_of_stayed hquiet hr hh hf, supervised_deviation hquiet]
  split
  · rw [hd]
    rfl
  · exact hd

/-- A channel that goes FAULTED on the set does not run after it. -/
theorem quiet_of_running (h : (settled u c).state = .active ∨ (settled u c).state = .halted) :
    ¬faultsOn (measured u) c (chan (measured u) c) := fun hf => by
  obtain ⟨hstate, -⟩ := settled_of_fault hf
  simp [hstate] at h

end Clauses

/-! ### The deviation timer -/

section Timer

variable {u : State} (hq : EachItsOwn (measured u)) {c : Channel}

include hq

theorem deviation_of_idle (hrun : (settled u c).state = .active ∨ (settled u c).state = .halted)
    (hd : (settled u c).deviation = none) :
    (chan (arbiterTakesSet u) c).deviation = some ⟨(chan (arbiterTakesSet u) c).cmdTarget, u.timeBase⟩ := by
  have hstate : (computeChannel (arbiterJudges u) c (settled u c)).state = (settled u c).state :=
    (course_fields (computeChannel_course _ c _)).1
  rw [chan_arbiterTakesSet, chan_judged hq, updateDeviation_of_none (by rw [hstate]; exact hrun)
    (by rw [computeChannel_deviation]; exact hd)]

theorem deviation_of_running (hrun : (settled u c).state = .active ∨ (settled u c).state = .halted) {d : DevTimer}
    (hd : (settled u c).deviation = some d) : (chan (arbiterTakesSet u) c).deviation =
      some (if absDiff (chan (arbiterTakesSet u) c).cmdTarget d.reference < 5 then d
        else ⟨(chan (arbiterTakesSet u) c).cmdTarget, u.timeBase⟩) := by
  have hstate : (computeChannel (arbiterJudges u) c (settled u c)).state = (settled u c).state :=
    (course_fields (computeChannel_course _ c _)).1
  rw [chan_arbiterTakesSet, chan_judged hq, updateDeviation_of_some (by rw [hstate]; exact hrun)
    (by rw [computeChannel_deviation]; exact hd)]

theorem deviation_of_resting (hrest : Rests (settled u c)) (ha : (settled u c).state ≠ .active)
    (hh : (settled u c).state ≠ .halted) : (chan (arbiterTakesSet u) c).deviation = none := by
  have hstate : (computeChannel (arbiterJudges u) c (settled u c)).state = (settled u c).state :=
    (course_fields (computeChannel_course _ c _)).1
  rw [chan_arbiterTakesSet, chan_judged hq, updateDeviation_of_elsewhere (by rw [hstate]; exact fun h => h.elim ha hh),
    computeChannel_deviation]
  exact hrest ha hh

end Timer

end Sys2Proof.Machine
end

section
/-! What the pressure arbiter answers, raises and sends on a sample set (R32, R40, R45, R58, R59). -/

namespace Sys2Proof.Machine

open Sys2Proof

/-! ### Conditions in the terms of the state -/

theorem demandLow_iff (s : State) : demandLow s = true ↔ demandLevel s ≤ 30 := decide_eq_true_iff

theorem speedAbove200_iff (s : State) : speedAbove200 s = true ↔ ∃ v ∈ vehicleSpeed s, 200 < v := by
  unfold speedAbove200 atLeast
  cases vehicleSpeed s with
  | none => simp
  | some v => simp [Nat.lt_iff_add_one_le]

theorem rollIdle_iff (s : State) : rollIdle s = true ↔ s.roll.state = .idle := beq_iff_eq

theorem pendingResult_halted_iff (s : State) :
    pendingResult s = some .halted ↔ s.roll.state = .idle ∧ demandLevel s ≤ 30 := by
  rw [← rollIdle_iff, ← demandLow_iff, ← Bool.and_eq_true]
  unfold pendingResult
  split
  · next h => exact iff_of_true rfl h
  · next h =>
    refine iff_of_false ?_ h
    split
    · nofun
    · nofun

theorem pendingResult_cancelled_iff (s : State) : pendingResult s = some .cancelled ↔
    ¬(s.roll.state = .idle ∧ demandLevel s ≤ 30) ∧ ((∃ v ∈ vehicleSpeed s, 200 < v) ∨ vehicleSpeed s = none) := by
  rw [← rollIdle_iff, ← demandLow_iff, ← Bool.and_eq_true, ← speedAbove200_iff, or_comm, ← Option.isNone_iff_eq_none,
    ← Bool.or_eq_true]
  unfold pendingResult
  split
  · next h => exact iff_of_false nofun fun hn => hn.1 h
  · next h =>
    split
    · next hc => exact iff_of_true rfl ⟨h, hc⟩
    · next hc => exact iff_of_false nofun fun hn => hc hn.2

theorem anyFaulted_iff (s : State) : anyFaulted s = false ↔ ∀ e, (chan s e).state ≠ .faulted := by
  simp only [anyFaulted, List.any_eq_false, mem_allChannels, forall_const, beq_iff_eq]

theorem demandExistsFor_iff (s : State) (c : Channel) : demandExistsFor s c = true ↔ s.link.state = .fresh ∨
    s.link.state = .stale ∨
      (s.link.state = .lost ∧ t1FsaBackup s.tables.t1 c = false ∧ inputValid s inputControl = true) := by
  unfold demandExistsFor
  cases s.link.state <;> simp

theorem startConditions_iff (s : State) (c : Channel) : startConditions s c = true ↔
    inputValid s (inputDelivered c) = true ∧ s.air.presence = .present ∧ demandExistsFor s c = true ∧
      s.arbiter.failSafe ≠ .fsB ∧ (t1PolicyAll s.tables.t1 = true → ∀ e, (chan s e).state ≠ .faulted) := by
  rw [← anyFaulted_iff]
  unfold startConditions
  simp only [Bool.and_eq_true, beq_iff_eq, bne_iff_ne, ne_eq, Bool.or_eq_true, Bool.not_eq_true', and_assoc]
  cases t1PolicyAll s.tables.t1 <;> simp

/-! ### Alerts and answers on a set without faults -/

section Quiet

variable {s : State} {c : Channel} {r : ChannelRec}

theorem controlLineCheck_halts (s : State) (c : Channel) (r : ChannelRec) :
    ((controlLineCheck s c r).state = .halted ↔ r.state = .halted) ∧
      (controlLineCheck s c r).haltPressure = r.haltPressure := by
  by_cases hf : lineFails s c r
  · rw [controlLineCheck_of_fails hf]
    exact ⟨iff_of_false nofun (by rw [hf.1]; decide), rfl⟩
  · by_cases hr : lineReturns s c r
    · obtain ⟨-, -, hbackup, -⟩ := id hr
      rw [controlLineCheck_of_returns hr]
      exact ⟨iff_of_false nofun (by rw [hbackup]; decide), rfl⟩
    · rw [controlLineCheck_of_neither hf hr]
      exact ⟨Iff.rfl, rfl⟩

theorem supervised_haltPressure (hq : ¬faultsOn s c r) : (supervised s c r).haltPressure = r.haltPressure := by
  rw [supervised_of_quiet hq]
  split
  · rfl
  · rfl

/-- The alert of a halt that ends, in terms of the record before the set. -/
theorem abandonedAlerts_checked (hq : ¬faultsOn s c r) (a : Alerts) :
    abandonedAlerts s c (checkedOnSet s c r) a = abandonedAlerts s c r a := by
  obtain ⟨hhalted, hpressure⟩ := controlLineCheck_halts s c (supervised s c r)
  obtain ⟨hstate, -⟩ := supervised_same hq
  have hends : haltEnds s (checkedOnSet s c r) ↔ haltEnds s r := by
    rw [haltEnds, checkedOnSet, hhalted, hstate]
  unfold abandonedAlerts
  rw [checkedOnSet, hpressure, supervised_haltPressure hq]
  exact if_congr hends rfl rfl

/-- The answer to a pending halt reads the pending halt alone. -/
theorem haltAnswers_of_pending {r' : ChannelRec} (h : r'.haltPending = r.haltPending) (m : Mgmt) :
    haltAnswers s r' m = haltAnswers s r m := by
  rw [haltAnswers, h, haltAnswers]

theorem haltAnswers_checked (hq : ¬faultsOn s c r) (m : Mgmt) :
    haltAnswers s (afterHalted s (checkedOnSet s c r)) m = haltAnswers s r m := by
  obtain ⟨-, -, hpending, -⟩ := supervised_same hq
  obtain ⟨-, -, hpending', -⟩ := movedOnSet_rest s c (supervised s c r)
  exact haltAnswers_of_pending (hpending'.trans hpending) m

end Quiet

section Set

variable {u : State} (hq : ∀ c, ¬faultsOn (measured u) c (chan (measured u) c))

theorem arbiterTakesSet_after_halts (u : State) :
    ChangesOnly [.arbiter, .valve] (halted (measured u)) (arbiterTakesSet u) := by
  rw [arbiterTakesSet, arbiterJudges_eq]
  generalize halted (measured u) = w
  refine ChangesOnly.andThen (t := leaveStarts w) ((onArbiter_touches w _).within (by decide)) ?_
  refine ChangesOnly.andThen (t := computeCommands (leaveStarts w)) ((onArbiter_touches _ _).within (by decide)) ?_
  refine ChangesOnly.andThen (t := updateDeviations (computeCommands (leaveStarts w)))
    ((onArbiter_touches _ _).within (by decide)) ?_
  exact (onValve_touches _ _).within (by decide)

include hq

theorem arbiterTakesSet_store : (arbiterTakesSet u).store = u.store := by
  have hafter : (arbiterTakesSet u).store = (halted (measured u)).store := arbiterTakesSet_after_halts u .store (by decide)
  obtain ⟨-, -, hstore⟩ := checked_quiet hq
  rw [hafter, halted_store (.inr hq), hstore]
  rfl

theorem arbiterTakesSet_alerts : (arbiterTakesSet u).alerts =
    allChannels.foldl (fun a c => abandonedAlerts (measured u) c (chan (measured u) c) a) u.alerts := by
  have hafter : (arbiterTakesSet u).alerts = (halted (measured u)).alerts :=
    arbiterTakesSet_after_halts u .alerts (by decide)
  obtain ⟨halerts, -⟩ := checked_quiet hq
  rw [hafter, halted_alerts (.inr hq), halerts]
  simp only [abandonedAlerts_checked (hq _)]
  rfl

theorem arbiterTakesSet_mgmt : (arbiterTakesSet u).mgmt =
    allChannels.foldl (fun m c => haltAnswers (measured u) (chan (measured u) c) m) u.mgmt := by
  have hafter : (arbiterTakesSet u).mgmt = (halted (measured u)).mgmt := arbiterTakesSet_after_halts u .mgmt (by decide)
  obtain ⟨-, hmgmt, -⟩ := checked_quiet hq
  rw [hafter, halted_mgmt (.inr hq), hmgmt]
  simp only [haltAnswers_checked (hq _)]
  rfl

end Set

/-! ### The NORMAL record -/

/-- The command computed of a channel of each state (R40, R45). -/
theorem commandOf_withContributions (j : State) (c : Channel) (r : ChannelRec) :
    (r.state = .start ∨ r.state = .backup ∨ r.state = .faulted → commandOf (withContributions j c r) = ⟨false, 0⟩) ∧
    (r.state = .active → commandOf (withContributions j c r) = ⟨true, min r.ceiling (max (driverTarget j c)
      (max (quadGet j.roll.contributions c) (emergencyContribution j c)))⟩) ∧
    (r.state = .hold → commandOf (withContributions j c r) = ⟨true, min r.heldTarget r.ceiling⟩) ∧
    (r.state = .halted → commandOf (withContributions j c r) = ⟨true, min r.haltPressure r.ceiling⟩) := by
  refine ⟨fun h => ?_, fun h => ?_, fun h => ?_, fun h => ?_⟩
  · rcases h with h | h | h
    · simp [withContributions, commandOf, h]
    · simp [withContributions, commandOf, h]
    · simp [withContributions, commandOf, h]
  · simp [withContributions, commandOf, h]
  · simp [withContributions, commandOf, h]
  · simp [withContributions, commandOf, h]

theorem driverTarget_eq (j : State) (c : Channel) : driverTarget j c = if j.arbiter.source = .nothing then 0
    else characteristic j (t1Group j.tables.t1 c) j.arbiter.demand := by
  unfold driverTarget
  cases j.arbiter.source
  · rfl
  · rfl
  · rfl

/-- A record sent: transmitted at once by a free port, waiting otherwise, and superseding what waited (R32; log 11). -/
theorem sendRecord_eq (r : ValveRecord) (now : Stamp) (v : ValvePort) : (sendRecord r now v).composedAt = some now ∧
    (v.slot = none ∧ v.tx = none → (sendRecord r now v).tx = some r ∧ (sendRecord r now v).slot = none) ∧
    (v.slot ≠ none ∨ v.tx ≠ none → (sendRecord r now v).slot = some r ∧ (sendRecord r now v).tx = v.tx) ∧
    (sendRecord r now v).superseded = if v.slot = none then v.superseded else min (v.superseded + 1) 65535 := by
  unfold sendRecord
  cases hslot : v.slot with
  | some waiting => simp [satInc, satAdd]
  | none =>
    cases htx : v.tx with
    | some sending => simp
    | none => simp [beginTransmit]

end Sys2Proof.Machine
end

section
/-! The ceilings, the delivered pressures and the driver demand on an accepted sample set (R20, R21, R41). -/

namespace Sys2Proof.Machine

open Sys2Proof

/-! ### The arbiter's own part -/

theorem arbiterTakesSet_demand (u : State) :
    (arbiterTakesSet u).arbiter.demand = (measured u).arbiter.demand ∧
      (arbiterTakesSet u).arbiter.source = (measured u).arbiter.source := by
  have hf := arbiterJudges_figures u
  rw [arbiterTakesSet, arbiterCommands_arbiter]
  generalize arbiterJudges u = j at hf
  exact ⟨hf.demand, hf.source⟩

/-- What the first two steps computed of a channel stands after the set. -/
theorem arbiterTakesSet_measured (u : State) (c : Channel) :
    (chan (arbiterTakesSet u) c).derate = channelDerate u c ∧
      (chan (arbiterTakesSet u) c).ceiling = movedCeiling (nominalCeiling u c) (chan u c).ceiling ∧
      (chan (arbiterTakesSet u) c).delivered = inputValue u (inputDelivered c) := by
  have hcourse := chan_arbiterTakesSet_course u c
  have hf := arbiterJudges_figures u
  have hm := chan_measured u c
  refine ⟨?_, ?_, ?_⟩
  · exact (congrArg ChannelRec.derate hcourse :).trans ((hf.derate c).trans (by rw [hm]))
  · exact (congrArg ChannelRec.ceiling hcourse :).trans ((hf.ceiling c).trans (by rw [hm]))
  · exact (congrArg ChannelRec.delivered hcourse :).trans ((hf.delivered c).trans (by rw [hm]))

/-! ### The other takers of a set -/

/-- What the arbiter reads of the parts that the other takers of a set change is the derates, and these stay. -/
structure BesideArbiter (s t : State) : Prop where
  frame : ChangesOnly [.load, .air, .roll, .tyres, .alerts, .store, .free] s t
  derates : t.tyres.derates = s.tyres.derates

theorem BesideArbiter.of_frame {ps : List Part} {s t : State} (h : ChangesOnly ps s t) (ht : Part.tyres ∉ ps)
    (hps : ps ⊆ [.load, .air, .roll, .tyres, .alerts, .store, .free]) : BesideArbiter s t :=
  ⟨h.within hps, congrArg Tyres.derates (h .tyres ht)⟩

theorem handSet_arbiter (v : State) : ∃ u, BesideArbiter v u ∧ BesideArbiter (arbiterTakesSet u) (handSet v) := by
  refine handSet_once (E := BesideArbiter) (f := arbiterTakesSet)
    (rest := [estimatorTakesSet, airTakesSet, rollTakesSet, tyresTakeSet]) (fun s => ⟨ChangesOnly.nothing _ s, rfl⟩)
    (fun h k => ⟨h.frame.andThen k.frame, k.derates.trans h.derates⟩) (List.Perm.swap _ _ _) ?_
    (fun s => .of_frame (spend_touches s) (by decide) (by decide)) v
  simp only [List.mem_cons, List.not_mem_nil, or_false, forall_eq_or_imp, forall_eq]
  exact ⟨fun s => .of_frame (estimatorTakesSet_touches s) (by decide) (by decide),
    fun s => .of_frame (airTakesSet_touches s) (by decide) (by decide),
    fun s => .of_frame (rollTakesSet_touches s) (by decide) (by decide),
    fun s => ⟨(tyresTakeSet_touches s).within (by decide), rfl⟩⟩

/-! ### An accepted set -/

theorem exec_acceptedSet {s : State} {bytes : List Byte} (h : AcceptsSet s bytes) :
    exec (.sampleSetArrival bytes) s = .next (takeSet bytes s) := by
  obtain ⟨hpowered, hline, hok, hnew⟩ := h
  have hdup : isDuplicate bytes s.sample = false := by
    rw [isDuplicate, Bool.eq_false_iff]
    intro hd
    simp only [Bool.and_eq_true, beq_iff_eq] at hd
    exact hnew hd
  show live (sampleSetArrival bytes) s = _
  unfold live sampleSetArrival
  rw [hpowered, hline, hok, hdup]
  rfl

/-- The state in which the set is handed to its takers, as far as the arbiter's figures go. -/
theorem accepted_before (s : State) (bytes : List Byte) : ∃ v, takeSet bytes s = handSet v ∧
    ChangesOnly [.sample, .arbiter, .alerts, .mgmt] s v ∧ SameFigures s v := by
  have hframe : ChangesOnly [.sample] s (s.onSample (acceptSet bytes s.timeBase)) := onSample_touches s _
  have hsame : SameFigures s (s.onSample (acceptSet bytes s.timeBase)) := .of_frame hframe (by decide)
  refine ⟨_, rfl, ?_, ?_⟩
  · exact ChangesOnly.ite _ ((hframe.within (by decide)).andThen ((evaluateFailSafe_touches _).within (by decide)))
      (hframe.within (by decide))
  · exact .ite _ (hsame.trans (evaluateFailSafe_figures _)) hsame

/-- The driver demand derived of a demand state and a control line (R41). -/
theorem derivedDemand_cases (s : State) :
    (s.link.state = .fresh ∨ s.link.state = .stale → derivedDemand s = (s.link.demand, .electric)) ∧
    (s.link.state = .lost → ∀ p ∈ reading s inputControl, derivedDemand s = (p, .controlLine)) ∧
    (s.link.state = .nothing ∨ (s.link.state = .lost ∧ reading s inputControl = none) →
      derivedDemand s = (0, .nothing)) := by
  unfold derivedDemand
  refine ⟨fun h => ?_, fun h p hp => ?_, fun h => ?_⟩
  · rcases h with h | h
    · rw [h]
    · rw [h]
  · rw [h, Option.mem_def.mp hp]
  · rcases h with h | ⟨h, hnone⟩
    · rw [h]
    · rw [h, hnone]

/-- The first part of O12: the ceilings, the delivered pressures and the driver demand after an accepted set. -/
theorem acceptedSet_arbiter {s : State} {bytes : List Byte} (h : AcceptsSet s bytes) :
    ∃ t, exec (.sampleSetArrival bytes) s = .next t ∧
    (∀ c, (chan t c).derate = channelDerate s c ∧
      (chan t c).ceiling = movedCeiling (nominalCeiling s c) (chan s c).ceiling ∧
      (chan t c).delivered = inputValue t (inputDelivered c)) ∧
    ∃ u, u.link = s.link ∧ (∀ i, reading t i = reading u i) ∧
      t.arbiter.demand = (derivedDemand u).1 ∧ t.arbiter.source = (derivedDemand u).2 := by
  obtain ⟨v, hv, hframe, hfigures⟩ := accepted_before s bytes
  obtain ⟨u, hu, ht⟩ := handSet_arbiter v
  have hsample : (handSet v).sample = u.sample :=
    Eq.trans (ht.frame .sample (by decide)) (arbiterTakesSet_touches u .sample (by decide))
  have harb : (handSet v).arbiter = (arbiterTakesSet u).arbiter := ht.frame.arbiter (by decide)
  have htables : u.tables = s.tables := Eq.trans (hu.frame .tables (by decide)) (hframe .tables (by decide))
  have hlink : u.link = s.link := Eq.trans (hu.frame .link (by decide)) (hframe .link (by decide))
  have htyres : v.tyres = s.tyres := hframe .tyres (by decide)
  have hderate : ∀ c, channelDerate u c = channelDerate s c := fun c => by
    unfold channelDerate assigned channelDerated
    rw [htables, hu.derates, htyres]
  obtain ⟨hdemand, hsource⟩ := arbiterTakesSet_demand u
  refine ⟨handSet v, (exec_acceptedSet h).trans (by rw [hv]), fun c => ?_, u, hlink, reading_congr hsample, ?_, ?_⟩
  · obtain ⟨hd, hc, hp⟩ := arbiterTakesSet_measured u c
    have hchan : chan (handSet v) c = chan (arbiterTakesSet u) c := by rw [chan, harb, chan]
    have hceiling : (chan u c).ceiling = (chan s c).ceiling := by
      rw [chan_frame hu.frame (by decide), hfigures.ceiling]
    refine ⟨?_, ?_, ?_⟩
    · rw [hchan, hd, hderate]
    · rw [hchan, hc, hceiling, nominalCeiling, nominalCeiling, hderate, htables]
    · rw [hchan, hp, inputValue, inputValue, input, input, hsample]
  · rw [harb, hdemand]
    rfl
  · rw [harb, hsource]
    rfl

end Sys2Proof.Machine
end

section
/-! The pressure arbiter on a sample set as the obligation states it (R42). -/

namespace Sys2Proof.Machine

open Sys2Proof

/-! ### Conditions of the set in terms of the state it is taken from -/

section Conditions

variable (u : State) (c : Channel)

theorem demandLevel_arbiterTakesSet : demandLevel (arbiterTakesSet u) = demandLevel (measured u) := by
  obtain ⟨hdemand, hsource⟩ := arbiterTakesSet_demand u
  rw [demandLevel, hdemand, hsource, demandLevel]

/-- A channel is FAULTED after the set exactly when it is before the ways out of START. -/
theorem faulted_iff : (chan (arbiterTakesSet u) c).state = .faulted ↔ (chan (halted (measured u)) c).state = .faulted := by
  obtain ⟨hstate, -⟩ := course_fields (chan_arbiterTakesSet_course u c)
  rw [hstate, arbiterJudges_eq, chan_leaveStarts, leaveStart_of_faulted_iff]

theorem startReady_iff (hw : ChannelsOnly (measured u) (halted (measured u))) : startReady (halted (measured u)) c ↔
    inputValid u (inputDelivered c) = true ∧ u.air.presence = .present ∧ u.arbiter.failSafe ≠ .fsB ∧
      (t1PolicyAll u.tables.t1 = true → ∀ e, (chan (arbiterTakesSet u) e).state ≠ .faulted) ∧
      u.arbiter.backupNext = false ∧ (u.link.state = .fresh ∨ u.link.state = .stale ∨
        (u.link.state = .lost ∧ t1FsaBackup u.tables.t1 c = false ∧ inputValid u inputControl = true)) := by
  rw [startReady, startConditions_iff, demandExistsFor_iff, hw.inputValid, hw.inputValid, hw.air, hw.link, hw.tables,
    hw.failSafe, hw.backupNext]
  simp only [ne_eq, faulted_iff]
  constructor
  · rintro ⟨⟨hvalid, hair, hdemand, hfs, hpolicy⟩, hnext⟩
    exact ⟨hvalid, hair, hfs, hpolicy, hnext, hdemand⟩
  · rintro ⟨hvalid, hair, hfs, hpolicy, hnext, hdemand⟩
    exact ⟨⟨hvalid, hair, hdemand, hfs, hpolicy⟩, hnext⟩

theorem strapCalm_iff (hw : ChannelsOnly (measured u) (halted (measured u))) : strapCalm (halted (measured u)) ↔
    demandLevel (arbiterTakesSet u) ≤ 30 ∧ vehicleSpeed u ≠ none ∧ ¬∃ v ∈ vehicleSpeed u, 200 < v := by
  rw [strapCalm, hw.demandLow, hw.vehicleSpeed, hw.speedAbove200, demandLow_iff, speedAbove200_iff,
    demandLevel_arbiterTakesSet]
  rfl

theorem haltEnds_iff : haltEnds (measured u) (chan (measured u) c) ↔ (chan u c).state = .halted ∧
    (30 < demandLevel (arbiterTakesSet u) ∨ ∃ v ∈ vehicleSpeed u, 200 < v) := by
  rw [haltEnds, speedAbove200_iff, ← Bool.not_eq_true, demandLow_iff, demandLevel_arbiterTakesSet, Nat.not_le, chan_measured]
  rfl

theorem haltTaken_iff : haltTaken (measured u) (chan (measured u) c) ↔
    (chan u c).haltPending ≠ none ∧ u.roll.state = .idle ∧ demandLevel (arbiterTakesSet u) ≤ 30 := by
  rw [haltTaken, pendingResult_halted_iff, demandLevel_arbiterTakesSet, chan_measured]
  rfl

theorem haltCancelled_iff : haltCancelled (measured u) (chan (measured u) c) ↔ (chan u c).haltPending ≠ none ∧
    ¬((chan u c).haltPending ≠ none ∧ u.roll.state = .idle ∧ demandLevel (arbiterTakesSet u) ≤ 30) ∧
    ((∃ v ∈ vehicleSpeed u, 200 < v) ∨ vehicleSpeed u = none) := by
  rw [haltCancelled, pendingResult_cancelled_iff, demandLevel_arbiterTakesSet, chan_measured]
  exact and_congr_right fun hp => by rw [and_iff_right hp]; rfl

end Conditions

/-! ### Alerts and answers -/

section Quiet

variable {u : State} (hq : ∀ c, ¬faultsOn (measured u) c (chan (measured u) c))

include hq

theorem alerts_of_no_halt_ended (h : ∀ c, ¬haltEnds (measured u) (chan (measured u) c)) :
    (arbiterTakesSet u).alerts = u.alerts := by
  rw [arbiterTakesSet_alerts hq]
  exact foldl_idle (fun c _ a => if_neg (h c)) _

theorem alerts_of_halt_ended {c : Channel} (hc : haltEnds (measured u) (chan (measured u) c))
    (h : ∀ e, e ≠ c → ¬haltEnds (measured u) (chan (measured u) e)) : (arbiterTakesSet u).alerts =
      raisedAt u u.timeBase .haltAbandoned ⟨.channel, c.val + 1⟩ (chan u c).haltPressure u.alerts := by
  have hpressure : (chan (measured u) c).haltPressure = (chan u c).haltPressure := by rw [chan_measured]
  rw [arbiterTakesSet_alerts hq]
  have hrun := foldl_single (work := fun c a => abandonedAlerts (measured u) c (chan (measured u) c) a) allChannels_nodup
    (mem_allChannels c) (fun e he a => if_neg (h e he)) u.alerts
  rw [hrun, abandonedAlerts, if_pos hc, hpressure]
  rfl

theorem mgmt_of_no_halt_ended
    (h : ∀ c, ¬haltTaken (measured u) (chan (measured u) c) ∧ ¬haltCancelled (measured u) (chan (measured u) c)) :
    (arbiterTakesSet u).mgmt = u.mgmt := by
  rw [arbiterTakesSet_mgmt hq]
  refine foldl_idle (fun c _ m => ?_) _
  obtain ⟨htaken, hcancelled⟩ := h c
  unfold haltAnswers
  split
  · next k result hp hres =>
    have hne : (chan (measured u) c).haltPending ≠ none := by rw [hp]; exact Option.some_ne_none k
    rcases pendingResult_cases (measured u) with h' | h' | h'
    · exact absurd ⟨hne, h'⟩ htaken
    · exact absurd ⟨hne, h'⟩ hcancelled
    · exact nomatch hres.symm.trans h'
  · rfl
  · rfl

/-- A single pending halt that has a result on the set is answered with it (R58). -/
theorem queue_of_result {c : Channel} {h : PendingHalt} (hp : (chan u c).haltPending = some h)
    (hothers : ∀ e, e ≠ c → (chan u e).haltPending = none) {result : Completion}
    (hres : pendingResult (measured u) = some result) (hroom : u.mgmt.queue.length < 4) :
    (arbiterTakesSet u).mgmt.queue =
      u.mgmt.queue ++ [[responseFrame u 10 [h.tag, 2, byteOf (completionCode result)]]] := by
  have hpending : ∀ e, (chan (measured u) e).haltPending = (chan u e).haltPending := fun e => by rw [chan_measured]
  have hrun := foldl_single (work := fun c m => haltAnswers (measured u) (chan (measured u) c) m) allChannels_nodup
    (mem_allChannels c) (fun e he m => by rw [haltAnswers, hpending, hothers e he]) u.mgmt
  rw [arbiterTakesSet_mgmt hq, hrun, haltAnswers, hpending, hp, hres]
  dsimp only
  rw [completedHalt, if_pos hroom]
  rfl

/-- The one pending halt that ends on the set is answered HALTED or CANCELLED (R58; log 14). -/
theorem queue_of_halt_ended {c : Channel} {h : PendingHalt} (hp : (chan u c).haltPending = some h)
    (hothers : ∀ e, e ≠ c → (chan u e).haltPending = none)
    (hends : haltTaken (measured u) (chan (measured u) c) ∨ haltCancelled (measured u) (chan (measured u) c))
    (hroom : u.mgmt.queue.length < 4) : (arbiterTakesSet u).mgmt.queue = u.mgmt.queue ++ [[responseFrame u 10 [h.tag, 2,
      if u.roll.state = .idle ∧ demandLevel (arbiterTakesSet u) ≤ 30 then 1 else 4]]] := by
  have hroll : (measured u).roll = u.roll := rfl
  have hlow := pendingResult_halted_iff (measured u)
  rw [← demandLevel_arbiterTakesSet, hroll] at hlow
  rcases hends with ⟨-, hres⟩ | ⟨-, hres⟩
  · rw [if_pos (hlow.mp hres)]
    exact queue_of_result hq hp hothers hres hroom
  · rw [if_neg fun h => nomatch hres.symm.trans (hlow.mpr h)]
    exact queue_of_result hq hp hothers hres hroom

end Quiet

/-! ### The NORMAL record -/

/-- The judgement of a set leaves the valve command port. -/
theorem arbiterJudges_frame (u : State) : ChangesOnly [.arbiter, .alerts, .mgmt, .store] u (arbiterJudges u) := by
  have harb : ∀ (s : State) f, ChangesOnly [.arbiter, .alerts, .mgmt, .store] s (s.onArbiter f) := fun s f =>
    (onArbiter_touches s f).within (by decide)
  have hmeasured : ChangesOnly [.arbiter, .alerts, .mgmt, .store] u (measured u) :=
    ((harb u _).andThen (harb (deriveDemand u) _)).andThen (harb (storeDelivered (deriveDemand u)) _)
  rw [arbiterJudges_eq]
  refine ChangesOnly.andThen ?_ (harb (halted (measured u)) _)
  refine ChangesOnly.andThen ?_ (foldl_touches haltStep _ haltStep_touches (checked (measured u)))
  refine ChangesOnly.andThen ?_ ((controlLineChecks_frame _).within (by decide))
  exact hmeasured.andThen (foldl_touches superviseChannel _ superviseChannel_touches (measured u))

theorem arbiterCommands_valve (s : State) : (arbiterCommands s).valve =
    sendRecord (recordOf .normal (s.sample.lastSeq.getD 0) (arbiterCommands s)) s.timeBase s.valve := rfl

/-- The record that the arbiter sends on a set. -/
def normalRecord (u : State) : ValveRecord := recordOf .normal (u.sample.lastSeq.getD 0) (arbiterTakesSet u)

theorem arbiterTakesSet_valve (u : State) :
    (arbiterTakesSet u).valve = sendRecord (normalRecord u) u.timeBase u.valve := by
  have hframe := arbiterJudges_frame u
  have hsample : (arbiterJudges u).sample = u.sample := hframe .sample (by decide)
  have hclock : (arbiterJudges u).timeBase = u.timeBase := hframe .clock (by decide)
  have hvalve : (arbiterJudges u).valve = u.valve := hframe .valve (by decide)
  rw [normalRecord, arbiterTakesSet, arbiterCommands_valve, hsample, hclock, hvalve]

theorem recordOf_commands (kind : RecordKind) (seq : Byte) (s : State) (c : Channel) :
    quadGet (recordOf kind seq s).commands c = ⟨(chan s c).cmdPressure, (chan s c).cmdTarget⟩ := quadGet_map _ _ _

theorem normalRecord_commands (u : State) (c : Channel) : quadGet (normalRecord u).commands c =
    ⟨(chan (arbiterTakesSet u) c).cmdPressure, (chan (arbiterTakesSet u) c).cmdTarget⟩ :=
  recordOf_commands _ _ _ c

theorem arbiterCommands_backupNext (s : State) : (arbiterCommands s).arbiter.backupNext = false := rfl

/-- The command of a channel is the one computed of its judged record. -/
theorem normalRecord_computed (u : State) (c : Channel) : quadGet (normalRecord u).commands c =
    commandOf (withContributions (arbiterJudges u) c (chan (arbiterJudges u) c)) := by
  obtain ⟨-, hmode, htarget⟩ :=
    updateDeviation_rest u.timeBase (computeChannel (arbiterJudges u) c (chan (arbiterJudges u) c))
  rw [normalRecord_commands, chan_arbiterTakesSet, hmode, htarget]
  rfl

/-- The contributions of an ACTIVE channel in terms of the set (R45). -/
theorem contributions_judged (u : State) (c : Channel) :
    driverTarget (arbiterJudges u) c = (if (arbiterTakesSet u).arbiter.source = .nothing then 0
      else characteristic u (t1Group u.tables.t1 c) (arbiterTakesSet u).arbiter.demand) ∧
    (arbiterJudges u).roll = u.roll ∧ emergencyContribution (arbiterJudges u) c = emergencyContribution u c := by
  have hframe := arbiterJudges_frame u
  have hfigures := arbiterJudges_figures u
  obtain ⟨hdemand, hsource⟩ := arbiterTakesSet_demand u
  have htables : (arbiterJudges u).tables = u.tables := hframe .tables (by decide)
  have hair : (arbiterJudges u).air = u.air := hframe .air (by decide)
  have hcharacteristic : ∀ g d, characteristic (arbiterJudges u) g d = characteristic u g d := fun g d => by
    rw [characteristic, estimate_frame hframe (by decide), htables, characteristic]
  refine ⟨?_, hframe .roll (by decide), ?_⟩
  · rw [driverTarget_eq, hcharacteristic, hfigures.demand, hfigures.source, hdemand, hsource, htables]
  · rw [emergencyContribution, hcharacteristic, hair, htables, emergencyContribution]

/-- The NORMAL record commands every channel by its state after the set (R40, R45). -/
theorem normalRecord_by_state (u : State) (c : Channel) :
    let r' := chan (arbiterTakesSet u) c
    let command := quadGet (normalRecord u).commands c
    command = ⟨r'.cmdPressure, r'.cmdTarget⟩ ∧
      (r'.state = .start ∨ r'.state = .backup ∨ r'.state = .faulted → command = ⟨false, 0⟩) ∧
      (r'.state = .active → command = ⟨true, min r'.ceiling (max
        (if (arbiterTakesSet u).arbiter.source = .nothing then 0
          else characteristic u (t1Group u.tables.t1 c) (arbiterTakesSet u).arbiter.demand)
        (max (quadGet u.roll.contributions c) (emergencyContribution u c)))⟩) ∧
      (r'.state = .hold → command = ⟨true, min r'.heldTarget r'.ceiling⟩) ∧
      (r'.state = .halted → command = ⟨true, min r'.haltPressure r'.ceiling⟩) := by
  obtain ⟨hstate, -, -, -, -, hpressure, -, hceiling, hheld⟩ := course_fields (chan_arbiterTakesSet_course u c)
  obtain ⟨hbackup, hactive, hhold, hhalted⟩ :=
    commandOf_withContributions (arbiterJudges u) c (chan (arbiterJudges u) c)
  obtain ⟨hdriver, hroll, hemergency⟩ := contributions_judged u c
  rw [← normalRecord_computed, ← hstate] at hbackup hactive hhold hhalted
  rw [hdriver, hroll, hemergency, ← hceiling] at hactive
  rw [← hheld, ← hceiling] at hhold
  rw [← hpressure, ← hceiling] at hhalted
  exact ⟨normalRecord_commands u c, hbackup, hactive, hhold, hhalted⟩

theorem channelDerate_eq (s : State) (c : Channel) : channelDerate s c = if t1Assigned s.tables.t1 c = true ∧
    sidesGet s.tyres.derates (t1Group s.tables.t1 c) (t1Side s.tables.t1 c) = true then t4Derate s.tables.t4 else 4096 :=
  if_congr (Bool.and_eq_true _ _).to_iff rfl rfl

/-- What the first two steps leave of a channel record. -/
theorem measured_fields (u : State) (c : Channel) : (chan (measured u) c).state = (chan u c).state ∧
    (chan (measured u) c).reason = (chan u c).reason ∧ (chan (measured u) c).errors = (chan u c).errors ∧
    (chan (measured u) c).cause = (chan u c).cause ∧ (chan (measured u) c).haltPending = (chan u c).haltPending ∧
    (chan (measured u) c).strapPending = (chan u c).strapPending ∧
    (chan (measured u) c).deviation = (chan u c).deviation := by
  rw [chan_measured]
  exact ⟨rfl, rfl, rfl, rfl, rfl, rfl, rfl⟩

/-- Settles O12: the first part follows the set through its takers, the second reads each clause off the channel's record
before and after the set. -/
theorem ceilingsMoveOnEachSet : Obligations.CeilingsMoveOnEachSet := by
  refine ⟨fun s bytes h => ?_, fun u => ?_⟩
  · obtain ⟨t, hexec, hchannels, u, hlink, hreading, hdemand, hsource⟩ := acceptedSet_arbiter h
    obtain ⟨helectric, hcontrol, hnothing⟩ := derivedDemand_cases u
    rw [hlink] at helectric hcontrol hnothing
    refine ⟨t, hexec, fun c => ?_, fun hs => ?_, fun hs p hp => ?_, fun hs => ?_⟩
    · obtain ⟨hderate, hceiling, hdelivered⟩ := hchannels c
      refine ⟨hderate.trans (channelDerate_eq s c), ?_, hdelivered⟩
      rw [hceiling, nominalCeiling, channelDerate_eq]
      rfl
    · rw [hdemand, hsource, helectric hs]
      exact ⟨rfl, rfl⟩
    · rw [hreading] at hp
      rw [hdemand, hsource, hcontrol hs p hp]
      exact ⟨rfl, rfl⟩
    · rw [hreading] at hs
      rw [hdemand, hsource, hnothing hs]
      exact ⟨rfl, rfl⟩
  · intro t t1 now level fast control invalid deviates errors faults leaves takes cancels
    have hinvalid : ∀ c, invalid c ↔ inputLost (measured u) c (chan (measured u) c) := fun c => by
      rw [chan_measured]
      rfl
    have hdeviates : ∀ c, deviates c ↔ strays (measured u) c (chan (measured u) c) := fun c => by
      rw [chan_measured]
      rfl
    have herrors : ∀ c, errors c = min ((chan (measured u) c).errors + 1) 15 := fun c => by rw [chan_measured]
    have hfaults : ∀ c, faults c ↔ faultsOn (measured u) c (chan (measured u) c) := fun c => by
      simp only [faults, hinvalid, hdeviates, herrors]
      rfl
    have hleaves : ∀ c, leaves c ↔ haltEnds (measured u) (chan (measured u) c) := fun c => (haltEnds_iff u c).symm
    have htakes : ∀ c, takes c ↔ haltTaken (measured u) (chan (measured u) c) := fun c => (haltTaken_iff u c).symm
    have hcancels : ∀ c, cancels c ↔ haltCancelled (measured u) (chan (measured u) c) :=
      fun c => (haltCancelled_iff u c).symm
    refine ⟨fun hpolicy c => ?_, fun hquiet => ?_, ?_, arbiterTakesSet_touches u⟩
    · intro r r' state corrected starts ready calm failing
      have hq : EachItsOwn (measured u) := hpolicy.imp id fun h e => mt (hfaults e).mpr (h e)
      obtain ⟨hw, -⟩ := halted_channels hq
      have hstarts : starts ↔ startsOn (measured u) c (chan (measured u) c) := by
        refine or_congr ?_ (or_congr (hleaves c) ?_)
        · rw [chan_measured]
        · rw [lineReturns, chan_measured]
          rfl
      have hfailing : failing ↔ lineFails (measured u) c (chan (measured u) c) := by
        rw [chan_measured]
        rfl
      have hready : ready ↔ startReady (halted (measured u)) c := (startReady_iff u c hw).symm
      have hcalm : calm ↔ strapCalm (halted (measured u)) := (strapCalm_iff u hw).symm
      obtain ⟨hstate₀, hreason₀, herrors₀, hcause₀, hpending₀, hstrap₀, hdeviation₀⟩ := measured_fields u c
      obtain ⟨hstate, hreason, herror, hcause, hpending, hpressure, hstrap⟩ := settled_fields hq c
      have hrun : state = .active ∨ state = .halted → (settled u c).state = .active ∨ (settled u c).state = .halted :=
        fun h => by rwa [← hstate]
      refine ⟨?_, fun hf => ?_, fun hf ht => ?_, fun _ hf => ⟨fun h hp ht => ?_, fun ht => ⟨?_, ?_⟩⟩, fun h => ⟨fun hd => ?_,
        fun d hd hr hl hf => ?_⟩, fun hr ha hh => ?_⟩
      · rw [herror, settled_errors, supervised_errors, herrors₀]
        exact if_congr (hinvalid c).symm rfl (if_congr (hdeviates c).symm rfl rfl)
      · obtain ⟨hs, hp, hc⟩ := settled_of_fault ((hfaults c).mp hf)
        exact ⟨hstate.trans hs, hpending.trans hp,
          hcause.trans (hc.trans (congrArg some (if_congr (hinvalid c).symm rfl rfl)))⟩
      · obtain ⟨hs, hc⟩ := settled_of_faulted (hstate₀.trans hf) (mt (htakes c).mpr ht)
        exact ⟨hstate.trans hs, hcause.trans (hc.trans hcause₀)⟩
      · obtain ⟨hs, hpr, hpe, hst⟩ :=
          settled_of_taken (mt (hfaults c).mpr hf) (hpending₀.trans hp) ((htakes c).mp ht)
        exact ⟨hstate.trans hs, hpressure.trans hpr, hpending.trans hpe, hstrap.trans hst⟩
      · have hp := settled_pending (mt (hfaults c).mpr hf) (mt (htakes c).mpr ht)
        exact hpending.trans (hp.trans (if_congr (hcancels c).symm rfl hpending₀))
      · have hquiet := mt (hfaults c).mpr hf
        have hwait := mt (htakes c).mpr ht
        have hways := settled_of_starts (c := c) hw hquiet hwait
        have hfails := settled_of_fails (u := u) (c := c) hquiet hwait
        have hneither := settled_of_neither (u := u) (c := c) hquiet hwait
        rw [← hstarts, ← hready, ← hcalm, ← hstate, ← hreason, ← hpressure, ← hstrap, hstrap₀] at hways
        rw [← hfailing, ← hstate, ← hreason] at hfails
        rw [← hstarts, ← hfailing, ← hstate, ← hreason, hstate₀, hreason₀] at hneither
        obtain ⟨hunassigned, hactive, hhalted, hwaiting⟩ := hways
        exact ⟨hunassigned, hactive, hhalted, hwaiting, hfails, hneither⟩
      · have hquiet := quiet_of_running (hrun h)
        have hleft := deviation_of_left hquiet
          (hd.imp (hdeviation₀.trans ·) (Or.imp (hleaves c).mp hfailing.mp)) (halted (measured u))
        exact deviation_of_idle hq (hrun h) hleft
      · have hquiet := quiet_of_running (hrun h)
        have hkept := settled_deviation hquiet (by rwa [hstate₀]) (mt (hleaves c).mpr hl) (mt hfailing.mpr hf)
          (hdeviation₀.trans hd)
        refine (deviation_of_running hq (hrun h) hkept).trans ?_
        by_cases hs : deviates c
        · rw [if_pos ((hdeviates c).mp hs), if_pos hs]
        · rw [if_neg (mt (hdeviates c).mpr hs), if_neg hs]
      · have hrest := leaveStart_rests (s := halted (measured u)) (c := c)
          (haltedOnSet_rests (s := measured u) (c := c) (rests_of_running (by rwa [hstate₀])))
        exact deviation_of_resting hq hrest (by rwa [← hstate]) (by rwa [← hstate])
    · have hq : ∀ c, ¬faultsOn (measured u) c (chan (measured u) c) := fun c => mt (hfaults c).mpr (hquiet c)
      refine ⟨arbiterTakesSet_store hq, fun h => ?_, fun c hc h => ?_, fun h => ?_, fun c k hk h hends hroom => ?_⟩
      · exact alerts_of_no_halt_ended hq fun c => mt (hleaves c).mpr (h c)
      · exact alerts_of_halt_ended hq ((hleaves c).mp hc) fun e he => mt (hleaves e).mpr (h e he)
      · exact mgmt_of_no_halt_ended hq fun c => ⟨mt (htakes c).mpr (h c).1, mt (hcancels c).mpr (h c).2⟩
      · exact queue_of_halt_ended hq hk h (hends.imp (htakes c).mp (hcancels c).mp) hroom
    · obtain ⟨hcomposed, hfree, hbusy, hsuperseded⟩ := sendRecord_eq (normalRecord u) u.timeBase u.valve
      rw [← arbiterTakesSet_valve] at hcomposed hfree hbusy hsuperseded
      refine ⟨normalRecord u, rfl, rfl, hcomposed, arbiterCommands_backupNext _, hfree, hbusy, hsuperseded,
        normalRecord_by_state u⟩

end Sys2Proof.Machine
end

section
/-! What every command leaves of the pins, the straps, the clock and the queue (R35, R36, R102). -/

namespace Sys2Proof.Machine

open Sys2Proof

/-! ### The carrier line -/

/-- The level of the carrier-present line is the same in two states (R102). -/
abbrev SameCarrier (s t : State) : Prop := t.rx.carrier = s.rx.carrier

theorem sameCarrier_of_frame {ps : List Part} {s t : State} (h : ChangesOnly ps s t) (hp : Part.rx ∉ ps) :
    SameCarrier s t :=
  congrArg Receiver.carrier (h .rx hp)

theorem judgeTelegram_carrier (bytes : List Byte) (now : Stamp) (r : Receiver) :
    (judgeTelegram bytes now r).carrier = r.carrier := by
  unfold judgeTelegram goodTelegram
  split
  · rfl
  · split
    · rfl
    · split
      · rfl
      · rfl

/-- A bit taken leaves the level of the line, in HUNT and in ASSEMBLE (R101, R103). -/
theorem takeBit_carrier (bit : Bool) (s : State) : SameCarrier s (takeBit bit s) := by
  have hunt : ∀ r : Receiver, (huntBit (t4Sync s.tables.t4) bit r).carrier = r.carrier := fun r => by
    unfold huntBit
    split
    · rfl
    · rfl
  have assemble : ∀ r : Receiver, (assembleBit s.timeBase bit r).carrier = r.carrier := fun r => by
    unfold assembleBit
    dsimp only
    split
    · rfl
    · exact judgeTelegram_carrier _ _ r
  show (if s.rx.carrier then _ else s.rx : Receiver).carrier = _
  split
  · split
    · exact hunt _
    · exact assemble _
  · rfl

theorem telegramEntryTaken_carrier (s : State) : SameCarrier s (telegramEntryTaken s) := by
  have ordinary : ∀ e t, ChangesOnly [.tyres, .alerts] t (ordinaryEntry e t) := fun e t => by
    unfold ordinaryEntry
    split
    · exact ChangesOnly.ite _ ((onTyres_touches t _).within (by decide))
        ((takeReading_touches t _ e).andThen ((onTyres_touches _ _).within (by decide)))
    · exact ((onTyres_touches t _).within (by decide)).andThen (takeMiss_touches _ e)
  have judged : ∀ e t, SameCarrier t (judgeEntry e t) := fun e t => by
    unfold judgeEntry
    split
    · split
      · exact sameCarrier_of_frame (bindSensor_touches t e _) (by decide)
      · exact sameCarrier_of_frame (ordinary e t) (by decide)
    · exact sameCarrier_of_frame (ordinary e t) (by decide)
  unfold telegramEntryTaken
  split
  · refine (judged _ _).trans ?_
    split
    · rfl
    · rfl
  · rfl

/-- A functional reset takes the line as it stands (R102). -/
theorem functionalReset_carrier (s : State) : SameCarrier s (functionalReset s) := by
  obtain ⟨u, hbefore, hafter⟩ := functionalReset_around s
  have hreset : (resetBlocks u).rx.carrier = u.rx.carrier := rfl
  have hu : SameCarrier s u := sameCarrier_of_frame hbefore (by decide)
  have ht : SameCarrier (resetBlocks u) (functionalReset s) := sameCarrier_of_frame hafter (by decide)
  exact (ht.trans hreset).trans hu

theorem passRequest_carrier (code : Nat) (tag : Byte) (data : List Byte) (s : State) :
    SameCarrier s (passRequest code tag data s) := by
  by_cases hc : code = 18
  · subst hc
    show SameCarrier s (restart tag s)
    unfold restart
    split
    · exact sameCarrier_of_frame (answer_touches s _ _ _) (by decide)
    · exact (functionalReset_carrier _).trans (sameCarrier_of_frame (answer_touches s _ _ _) (by decide))
  · exact sameCarrier_of_frame (passRequest_owner s code tag data hc) (by decide)

theorem engineTakes_carrier (f : CanFrame) (s : State) : SameCarrier s (engineTakes f s) := by
  have counted : ∀ (t : State) g, SameCarrier t (t.onMgmt g) := fun _ _ => rfl
  have answered : ∀ (t : State) code tag a, SameCarrier t (answer code tag a t) := fun t code tag a =>
    sameCarrier_of_frame (answer_touches t code tag a) (by decide)
  unfold engineTakes judgeRequest countMalformed
  dsimp only
  split
  · refine Eq.trans (b := (s.onMgmt fun m => { m with taken := satInc m.taken }).rx.carrier) ?_ (counted s _)
    generalize (s.onMgmt fun m => { m with taken := satInc m.taken }) = t
    split
    · exact (answered _ _ _ _).trans (counted t _)
    · split
      · exact (answered _ _ _ _).trans (counted t _)
      · split
        · exact answered t _ _ _
        · exact passRequest_carrier _ _ _ t
  · exact (counted _ _).trans (counted s _)

theorem handleRequest_carrier (f : CanFrame) (s : State) : SameCarrier s (handleRequest f s) := by
  have relayed : ∀ (t : State) g, SameCarrier t (t.onRelay g) := fun _ _ => rfl
  unfold handleRequest dropMisdirected
  split
  · exact (relayed _ _).trans (engineTakes_carrier f s)
  · split
    · exact engineTakes_carrier f s
    · split
      · exact relayed s _
      · exact relayed s _

theorem requestArrival_carrier (code : Nat) (q : ReqFrame) (s : State) : SameCarrier s (requestArrival code q s) :=
  handleRequest_carrier _ (countArrival .front s)

theorem frameArrival_carrier (p : Port) (f : CanFrame) (s : State) : SameCarrier s (frameArrival p f s) := by
  cases p with
  | front =>
    show SameCarrier (countArrival .front s) (arriveFront f (countArrival .front s))
    unfold arriveFront handleFront
    split
    · split
      case h_2 => exact sameCarrier_of_frame (takeDemand_touches _ _) (by decide)
      case h_3 => exact sameCarrier_of_frame (takePosition_touches _ _) (by decide)
      case h_6 => exact handleRequest_carrier _ _
      all_goals rfl
    · rfl
  | rear =>
    show SameCarrier (countArrival .rear s) (arriveRear f (countArrival .rear s))
    unfold arriveRear handleRear
    split
    · rfl
    · split
      · split <;> rfl
      · rfl

/-- Every command that a part without supply does not take leaves the level of the carrier line. -/
theorem effect_carrier {c : Instr} {f : State → State} (h : effectOf c = some f) (s : State) : SameCarrier s (f s) := by
  have of {t : State} {ps : List Part} (ht : ChangesOnly ps s t) (hp : Part.rx ∉ ps) := sameCarrier_of_frame ht hp
  cases c <;> simp only [effectOf, reduceCtorEq, Option.some.injEq] at h <;> subst h
  case sampleSetArrival b => exact of (sampleSetArrival_touches s b) (by decide)
  case lossTimerExpiry => exact of (lossTimerExpiry_touches s) (by decide)
  case valveRecordSent => exact of (valveRecordSent_touches s) (by decide)
  case pendingRecordTransmit => exact of (pendingRecordTransmit_touches s) (by decide)
  case refreshDue => exact of (refreshDue_touches s) (by decide)
  case driverStatusRecord b => exact of (driverStatusRecord_touches s b) (by decide)
  case holdTimerExpiry c => exact of (holdTimerExpiry_touches s c) (by decide)
  case rollTimerExpiry => exact of (rollTimerExpiry_touches s) (by decide)
  case syncMatch b => exact takeBit_carrier b s
  case telegramComplete b => exact takeBit_carrier b s
  case bitTaken b => exact takeBit_carrier b s
  case telegramEntryTaken => exact telegramEntryTaken_carrier s
  case checkTimerExpiry => exact of (checkTimerExpiry_touches s) (by decide)
  case learnTimerExpiry => exact of (learnTimerExpiry_touches s) (by decide)
  case frameArrival p f => exact frameArrival_carrier p f s
  case demandFrame f =>
    have hframe := takeDemand_touches (countArrival .front s) f.data
    exact of (((countArrival_touches s .front).within (by decide)).andThen hframe) (by decide)
  case positionFrame f =>
    have hframe := takePosition_touches (countArrival .front s) f.data
    exact of (((countArrival_touches s .front).within (by decide)).andThen hframe) (by decide)
  case demandTimerExpiry => exact of (demandTimerExpiry_touches s) (by decide)
  case rearwardTimerExpiry => exact of (rearwardTimerExpiry_touches s) (by decide)
  case frontHandover => exact of (frontHandover_touches s) (by decide)
  case frontHandoverOutcome a => exact of (frontHandoverOutcome_touches s a) (by decide)
  case rearHandover => exact of (rearHandover_touches s) (by decide)
  case rearHandoverOutcome a => exact of (rearHandoverOutcome_touches s a) (by decide)
  case statusTimerExpiry => exact of (statusTimerExpiry_touches s) (by decide)
  case blockWriteComplete => exact of (blockWriteComplete_touches s) (by decide)
  case tallyEraseComplete => exact of (tallyEraseComplete_touches s) (by decide)
  case tallyBitProgrammed => exact of (tallyBitProgrammed_touches s) (by decide)
  case pendingTallyStart => exact of (pendingTallyStart_touches s) (by decide)
  case waitingBlock3StoreStart => exact of (waitingBlock3StoreStart_touches s) (by decide)
  case protectionWordProgrammed => exact of (protectionWordProgrammed_touches s) (by decide)
  all_goals exact requestArrival_carrier _ _ s

/-! ### The pins of a command -/

/-- The queue and the straps are the same in two states. -/
abbrev SameOutside (s t : State) : Prop := t.pending = s.pending ∧ t.straps = s.straps

/-- The time base, the supply and the level of the RESET line are the same in two states. -/
abbrev SameSupply (s t : State) : Prop := t.timeBase = s.timeBase ∧ t.powered = s.powered

theorem pins_of_frame {ps : List Part} {s t : State} (h : ChangesOnly ps s t)
    (hp : ∀ p ∈ [Part.queue, .straps, .clock, .power, .line], p ∉ ps) :
    SameOutside s t ∧ SameSupply s t ∧ t.resetLine = s.resetLine := by
  simp only [List.mem_cons, List.not_mem_nil, or_false, forall_eq_or_imp, forall_eq] at hp
  obtain ⟨hqueue, hstraps, hclock, hpower, hline⟩ := hp
  exact ⟨⟨h .queue hqueue, h .straps hstraps⟩, ⟨h .clock hclock, h .power hpower⟩, h .line hline⟩

/-- A start from a nonvolatile store carries the queue and the pins on (R178). -/
theorem powerOn_pins (s : State) :
    SameOutside s (powerOn s) ∧ (powerOn s).resetLine = s.resetLine ∧ SameCarrier s (powerOn s) := by
  have hload : ChangesOnly [.alerts, .store] (poweredState (nvAfterLoss s) (protectionAfterLoss s) s) (powerOn s) :=
    raiseLoad_touches _ _
  generalize powerOn s = t at hload
  obtain ⟨houtside, -, hline⟩ := pins_of_frame hload (by decide)
  have hcarrier := sameCarrier_of_frame hload (by decide)
  exact ⟨houtside, hline, hcarrier⟩

theorem losePower_pins (s : State) :
    SameOutside s (losePower s) ∧ (losePower s).resetLine = s.resetLine ∧ SameCarrier s (losePower s) := by
  unfold losePower
  split
  · exact ⟨⟨rfl, rfl⟩, rfl, rfl⟩
  · exact ⟨⟨rfl, rfl⟩, rfl, rfl⟩

theorem assertResetLine_pins (s : State) : SameOutside s (assertResetLine s) ∧ SameSupply s (assertResetLine s) ∧
    SameCarrier s (assertResetLine s) := by
  unfold assertResetLine
  split
  · exact ⟨⟨rfl, rfl⟩, ⟨rfl, rfl⟩, rfl⟩
  · obtain ⟨houtside, hsupply, -⟩ := pins_of_frame (functionalReset_touches { s with resetLine := true }) (by decide)
    have hcarrier := functionalReset_carrier { s with resetLine := true }
    exact ⟨houtside, hsupply, hcarrier⟩

theorem releaseResetLine_pins (s : State) : SameOutside s (releaseResetLine s) ∧ SameSupply s (releaseResetLine s) ∧
    SameCarrier s (releaseResetLine s) := by
  unfold releaseResetLine
  split
  · exact ⟨⟨rfl, rfl⟩, ⟨rfl, rfl⟩, rfl⟩
  · exact ⟨⟨rfl, rfl⟩, ⟨rfl, rfl⟩, rfl⟩

theorem carrierSet_pins (level : Bool) (s : State) :
    let t := if s.powered then carrierChange level s else s.onRx fun r => { r with carrier := level }
    SameOutside s t ∧ SameSupply s t ∧ t.resetLine = s.resetLine := by
  dsimp only
  split
  · exact pins_of_frame (carrierChange_touches s level) (by decide)
  · exact pins_of_frame (onRx_touches s _) (by decide)

/-- Settles O3: by the cases of a command, the power events, the two of the RESET line, CARRIER_CHANGE and the effects on a
powered part, whose reach leaves the pins out. -/
theorem commandsLeaveClockAndPins : Obligations.CommandsLeaveClockAndPins := by
  intro c s t h
  obtain ⟨hc, ht⟩ | ⟨hc, ht⟩ | ⟨hc, ht⟩ | ⟨hc, ht⟩ | ⟨b, hc, ht⟩ | ⟨f, hf, ht⟩ := exec_cases h
  · obtain ⟨⟨hqueue, hstraps⟩, hline, hcarrier⟩ := powerOn_pins s
    rw [ht]
    exact ⟨hqueue, hstraps, fun hn _ => absurd hc hn, fun _ _ => hline, fun _ => hcarrier⟩
  · obtain ⟨⟨hqueue, hstraps⟩, hline, hcarrier⟩ := losePower_pins s
    rw [ht]
    exact ⟨hqueue, hstraps, fun _ hn => absurd hc hn, fun _ _ => hline, fun _ => hcarrier⟩
  · rw [ht]
    split
    · obtain ⟨⟨hqueue, hstraps⟩, hsupply, hcarrier⟩ := assertResetLine_pins s
      exact ⟨hqueue, hstraps, fun _ _ => hsupply, fun hn _ => absurd hc hn, fun _ => hcarrier⟩
    · exact ⟨rfl, rfl, fun _ _ => ⟨rfl, rfl⟩, fun hn _ => absurd hc hn, fun _ => rfl⟩
  · rw [ht]
    split
    · obtain ⟨⟨hqueue, hstraps⟩, hsupply, hcarrier⟩ := releaseResetLine_pins s
      exact ⟨hqueue, hstraps, fun _ _ => hsupply, fun _ hn => absurd hc hn, fun _ => hcarrier⟩
    · exact ⟨rfl, rfl, fun _ _ => ⟨rfl, rfl⟩, fun _ hn => absurd hc hn, fun _ => rfl⟩
  · obtain ⟨⟨hqueue, hstraps⟩, hsupply, hline⟩ := carrierSet_pins b s
    rw [ht]
    exact ⟨hqueue, hstraps, fun _ _ => hsupply, fun _ _ => hline, fun hn => absurd hc (hn b)⟩
  · rw [ht]
    split
    · obtain ⟨⟨hqueue, hstraps⟩, hsupply, hline⟩ := pins_of_frame (effect_touches hf s) (by decide)
      exact ⟨hqueue, hstraps, fun _ _ => hsupply, fun _ _ => hline, fun _ => effect_carrier hf s⟩
    · exact ⟨rfl, rfl, fun _ _ => ⟨rfl, rfl⟩, fun _ _ => rfl, fun _ => rfl⟩

end Sys2Proof.Machine
end

section
/-! The sample port and the valve command port, command by command (R25 to R27, R32, R33, R36), and the commands that run
the functional reset (R36, R179). -/

namespace Sys2Proof.Machine

open Sys2Proof

/-! ### Discarded sample sets (R25, R36) -/

section Sets

variable {s : State} {bytes : List Byte}

theorem sampleSetArrival_of_line (h : s.resetLine = true) : sampleSetArrival bytes s = s := if_pos h

theorem sampleSetArrival_of_badCheck (hline : s.resetLine = false) (h : sampleSetOk bytes = false) :
    sampleSetArrival bytes s = s.onSample fun p => { p with frameErrors := satInc p.frameErrors } := by
  unfold sampleSetArrival
  rw [hline, h]
  rfl

theorem sampleSetArrival_of_repeat (hline : s.resetLine = false) (hok : sampleSetOk bytes = true)
    (h : isDuplicate bytes s.sample = true) :
    sampleSetArrival bytes s = s.onSample fun p => { p with duplicates := satInc p.duplicates } := by
  unfold sampleSetArrival
  rw [hline, hok, h]
  rfl

end Sets

/-- Settles O9: the frame check and then the sequence decide before the set is taken. -/
theorem discardedSetsAreOnlyCounted : Obligations.DiscardedSetsAreOnlyCounted := by
  intro s bytes hpowered hline
  have hexec : exec (.sampleSetArrival bytes) s = .next (sampleSetArrival bytes s) := exec_powered rfl hpowered
  refine ⟨fun hbad => ?_, fun hok hrunning hseq => ?_⟩
  · rw [hexec, sampleSetArrival_of_badCheck hline hbad]
    rfl
  · have hdup : isDuplicate bytes s.sample = true := by rw [isDuplicate, hrunning, hseq]; simp
    rw [hexec, sampleSetArrival_of_repeat hline hok hdup]
    rfl

/-! ### The RESET line and the functional reset (R36, R179) -/

theorem refreshDue_of_line {s : State} (h : s.resetLine = true) : refreshDue s = s := by
  have hnot : refreshIsDue s = false := by simp [refreshIsDue, h]
  unfold refreshDue
  rw [hnot]
  rfl

theorem exec_assert {s : State} (hpowered : s.powered = true) :
    exec .resetLineAsserted s = .next (if s.resetLine then s else functionalReset { s with resetLine := true }) :=
  if_pos hpowered

theorem exec_release {s : State} (hpowered : s.powered = true) : exec .resetLineReleased s = .next (if s.resetLine then
    { s with resetLine := false, sample := { s.sample with lossStart := some s.timeBase } } else s) :=
  if_pos hpowered

/-- Settles O6: each of the commands judges the level of the line first. -/
theorem resetLineHoldsThePorts : Obligations.ResetLineHoldsThePorts := by
  intro s hpowered
  refine ⟨fun hline => ⟨?_, ?_, fun bytes => ?_, ?_⟩, fun hline => ?_⟩
  · rw [exec_assert hpowered, if_pos hline]
  · rw [exec_release hpowered, if_pos hline]
  · rw [exec_powered rfl hpowered, sampleSetArrival_of_line hline]
  · rw [exec_powered rfl hpowered, refreshDue_of_line hline]
  · rw [exec_release hpowered, hline]
    rfl

/-- RESTART on a state is judged by the table store (R179). -/
theorem restart_eq (tag : Byte) (s : State) : restart tag s =
    if s.store.state = .idle then functionalReset (answer 18 tag .done s) else answer 18 tag (.refused .busy) s := by
  unfold restart storeBusy
  by_cases hidle : s.store.state = .idle
  · rw [if_pos hidle, hidle]
    rfl
  · rw [if_neg hidle, if_pos (bne_iff_ne.mpr hidle)]
    rfl

theorem exec_restart {s : State} {q : ReqFrame} {tag : Byte} (h : TakesRequest s q 1 tag) :
    exec (.restart q) s = .next (if s.store.state = .idle then functionalReset (answer 18 tag .done (requestTaken s))
      else answer 18 tag (.refused .busy) (requestTaken s)) := by
  obtain ⟨hpowered, -⟩ := id h
  have hreach : requestArrival codeRestart q s = restart tag (requestTaken s) :=
    request_reaches h (code := 18) (by decide) (by decide)
  rw [exec_powered rfl hpowered, hreach, restart_eq]
  rfl

/-- Settles O8: a request that is taken reaches RESTART, and the assertion of a released line is the reset itself. -/
theorem restartAndAssertionComplete : Obligations.RestartAndAssertionComplete := by
  refine ⟨fun s q tag h => exec_restart h, fun s hpowered hline => ?_⟩
  rw [exec_assert hpowered, hline]
  rfl

/-! ### Input records (R26, R27) -/

theorem inputMax_eq (i : Fin 16) : inputMax i =
    if i.val = 5 ∨ i.val = 6 then 1200 else if i.val = 11 then 2000 else if 12 ≤ i.val then 20000 else 1000 := by
  revert i
  decide

theorem inputMin_eq (i : Fin 16) : inputMin i = if i.val = 11 then -2000 else 0 := by
  revert i
  decide

theorem inputMin_le_inputMax (i : Fin 16) : inputMin i ≤ inputMax i :=
  (inputMin_nonpos i).trans (inputMax_nonneg i)

/-- A clamped value is the value itself in range and the nearer end of the range outside (R26). -/
theorem clampInput_eq (i : Fin 16) (v : Int) :
    clampInput i v = if v < inputMin i then inputMin i else if inputMax i < v then inputMax i else v := by
  have hrange := inputMin_le_inputMax i
  unfold clampInput
  split
  · omega
  · split
    · omega
    · omega

section Records

variable {mark : Bool} {v : Int} {now : Stamp} {r : InputRec}

theorem updateInput_of_disabled (h : r.status = .disabled) : updateInput mark v now r = r := by
  rw [updateInput, h]

theorem updateInput_of_good (h : r.status ≠ .disabled) :
    updateInput false v now r = { status := .valid, value := v, lastGood := some v, holdStart := none } := by
  unfold updateInput
  split
  · rfl
  · rfl
  · rfl
  · next hd => exact absurd hd h

theorem updateInput_of_fault (h : r.status = .valid) : updateInput true v now r =
    { r with status := .held, holdStart := some now, value := r.lastGood.getD r.value } := by
  rw [updateInput, h]
  rfl

theorem updateInput_of_held (h : r.status = .held) {start : Stamp} (hs : r.holdStart = some start) :
    updateInput true v now r =
      if 100 ≤ (now - start).toNat then { r with status := .invalid, holdStart := none } else r := by
  simp only [updateInput, h, hs, runLasted_some, reached_iff, if_true]

theorem updateInput_of_invalid (h : r.status = .invalid) : updateInput true v now r = r := by
  rw [updateInput, h]
  rfl

end Records

/-- The sample port after an accepted set is its own work alone (R25). -/
theorem takeSet_sample (bytes : List Byte) (s : State) :
    (takeSet bytes s).sample = acceptSet bytes s.timeBase s.sample := by
  have hport : (s.onSample (acceptSet bytes s.timeBase)).sample = acceptSet bytes s.timeBase s.sample := rfl
  unfold takeSet
  dsimp only
  refine (handSet_touches _ .sample (by decide)).trans ?_
  split
  · exact (evaluateFailSafe_touches _ .sample (by decide)).trans hport
  · exact hport

theorem takeSet_input (bytes : List Byte) (s : State) (i : Fin 16) : input (takeSet bytes s) i =
    updateInput (sampleMark bytes i) (clampInput i (sampleValue bytes i)) s.timeBase (input s i) := by
  rw [input, takeSet_sample]
  exact gridGet_map _ _ i

/-- Settles O11: the record of an input after the set is its update by the fault mark, case by case of its status. -/
theorem inputsFollowTheirFaultMarks : Obligations.InputsFollowTheirFaultMarks := by
  intro s bytes haccepts
  refine ⟨takeSet bytes s, exec_acceptedSet haccepts, fun i => ?_⟩
  intro lo hi v before after
  have hafter : after = updateInput (sampleMark bytes i) v s.timeBase before := by
    have hclamp : clampInput i (sampleValue bytes i) = v := by
      rw [clampInput_eq, inputMin_eq, inputMax_eq]
    show input (takeSet bytes s) i = _
    rw [takeSet_input, hclamp]
  refine ⟨fun hd => ?_, fun hm hd => ?_, fun hm hv => ?_, fun hm hheld start hstart => ?_, fun hm hinv => ?_⟩
  · rw [hafter, updateInput_of_disabled hd]
  · rw [hafter, hm, updateInput_of_good hd]
    exact ⟨rfl, rfl, rfl, rfl⟩
  · rw [hafter, hm, updateInput_of_fault hv]
    exact ⟨rfl, rfl, rfl, fun g hg => by rw [hg]; rfl⟩
  · rw [hafter, hm, updateInput_of_held hheld hstart]
  · rw [hafter, hm, updateInput_of_invalid hinv]

/-! ### The transmitter and the pending slot (R32, R34) -/

theorem valveRecordSent_of_none {s : State} (h : s.valve.tx = none) : valveRecordSent s = s := by
  rw [valveRecordSent, h]

theorem valveRecordSent_of_some {s : State} {r : ValveRecord} (h : s.valve.tx = some r) :
    valveRecordSent s = s.onValve fun v => { v with
      tx := none, lastSent := some r.seq, answered := false, normalSent := v.normalSent || (r.kind == .normal) } := by
  rw [valveRecordSent, h]

theorem pendingRecordTransmit_of_waiting {s : State} {r : ValveRecord} (htx : s.valve.tx = none)
    (hslot : s.valve.slot = some r) :
    pendingRecordTransmit s = s.onValve fun v => beginTransmit r { v with slot := none } := by
  rw [pendingRecordTransmit, htx, hslot]

theorem pendingRecordTransmit_of_idle {s : State} (h : s.valve.tx.isSome = true ∨ s.valve.slot = none) :
    pendingRecordTransmit s = s := by
  unfold pendingRecordTransmit
  split
  · next htx hslot => simp [htx, hslot] at h
  · rfl
  · rfl

/-- Settles O16: what the port does by what it transmits and what waits. -/
theorem valveRecordsAreSentInTurn : Obligations.ValveRecordsAreSentInTurn := by
  intro s hpowered
  refine ⟨fun r htx => ?_, fun htx => ?_, fun r htx hslot => ?_, fun h => ?_⟩
  · rw [exec_powered rfl hpowered, valveRecordSent_of_some htx]
    rfl
  · rw [exec_powered rfl hpowered, valveRecordSent_of_none htx]
  · have hmissing : (s.valve.lastSent.isSome && !s.valve.answered) = true ↔
        s.valve.lastSent.isSome = true ∧ s.valve.answered = false := by
      rw [Bool.and_eq_true, Bool.not_eq_true']
    rw [exec_powered rfl hpowered, pendingRecordTransmit_of_waiting htx hslot]
    simp only [State.onValve, beginTransmit, hmissing]
    rfl
  · rw [exec_powered rfl hpowered, pendingRecordTransmit_of_idle h]

/-! ### A refresh record (R33) -/

/-- The refresh record of a state: the commands computed of it under the last sequence number sent (R33, R40). -/
def refreshRecord (s : State) : ValveRecord := recordOf .refresh (s.valve.lastSent.getD 0) (computeCommands s)

theorem refreshDue_eq {s : State} {start : Stamp} (hline : s.resetLine = false) (hsent : s.valve.normalSent = true)
    (hat : s.valve.composedAt = some start) (hlong : 10 ≤ (s.timeBase - start).toNat) :
    refreshDue s = (computeCommands s).onValve (sendRecord (refreshRecord s) s.timeBase) := by
  have hdue : refreshIsDue s = true := by
    rw [refreshIsDue, hline, hsent, hat, runLasted_some, (reached_iff _ _ _).mpr hlong]
    rfl
  unfold refreshDue
  rw [hdue]
  rfl

/-- A record carries the mode and target that the channel records hold (R32). -/
theorem recordOf_command (kind : RecordKind) (seq : Byte) (s : State) (c : Channel) :
    quadGet (recordOf kind seq s).commands c = ⟨(chan s c).cmdPressure, (chan s c).cmdTarget⟩ := quadGet_map _ _ _

/-- A channel's commanded mode and target are those of its state and contributions (R40). -/
theorem computeCommands_command (s : State) (c : Channel) :
    (⟨(chan (computeCommands s) c).cmdPressure, (chan (computeCommands s) c).cmdTarget⟩ : Command) =
      commandOf (withContributions s c (chan s c)) := by
  rw [chan_computeCommands]
  rfl

theorem computeCommands_course (s : State) (c : Channel) : course (chan (computeCommands s) c) = course (chan s c) := by
  rw [chan_computeCommands]
  exact computeChannel_course s c _

/-- Settles O17: the commands of every channel, the record made of them, and its way to the transmitter. -/
theorem refreshCommandsEveryChannelByItsState : Obligations.RefreshCommandsEveryChannelByItsState := by
  intro s start hpowered hline hsent hat hlong
  have heq := refreshDue_eq hline hsent hat hlong
  obtain ⟨hcomposed, hfree, hbusy, hsuperseded⟩ := sendRecord_eq (refreshRecord s) s.timeBase s.valve
  refine ⟨refreshDue s, refreshRecord s, exec_powered rfl hpowered, rfl, rfl, ?_, ?_, fun hslot => ?_, fun hslot htx => ?_,
    fun hslot htx => ?_, fun c => ?_, refreshDue_touches s⟩
  · rw [heq]
    exact hcomposed
  · rw [heq]
    rfl
  · have hslot' : s.valve.slot ≠ none := Option.isSome_iff_ne_none.mp hslot
    obtain ⟨hs, ht⟩ := hbusy (.inl hslot')
    rw [heq]
    exact ⟨hs, ht, hsuperseded.trans (if_neg hslot')⟩
  · obtain ⟨hs, ht⟩ := hbusy (.inr (Option.isSome_iff_ne_none.mp htx))
    rw [heq]
    exact ⟨hs, ht, hsuperseded.trans (if_pos hslot)⟩
  · obtain ⟨ht, hs⟩ := hfree ⟨hslot, htx⟩
    rw [heq]
    exact ⟨hs, ht, hsuperseded.trans (if_pos hslot)⟩
  · intro r driver emergency
    have hchan : chan (refreshDue s) c = chan (computeCommands s) c := by rw [heq]; rfl
    have hrecord := recordOf_command .refresh (s.valve.lastSent.getD 0) (computeCommands s) c
    have hcommand : quadGet (refreshRecord s).commands c = commandOf (withContributions s c r) :=
      hrecord.trans (computeCommands_command s c)
    obtain ⟨hstate, -, -, -, -, -, -, hceiling, -⟩ := course_fields (computeCommands_course s c)
    obtain ⟨hbackup, hactive, hhold, hhalted⟩ := commandOf_withContributions s c r
    rw [hchan, hcommand]
    exact ⟨hcommand.symm.trans hrecord, hstate, hceiling, hbackup,
      fun h => (hactive h).trans (by rw [driverTarget_eq]; rfl), hhold, hhalted⟩

end Sys2Proof.Machine
end

section
/-! One millisecond on an empty queue (R35): which of the part's own events are due, and that each is queued once. -/

namespace Sys2Proof.Machine

open Sys2Proof

/-! ### Events that are due on a condition -/

theorem mem_dueIf {b : Bool} {c d : Instr} : d ∈ dueIf b c ↔ d = c ∧ b = true := by
  cases b
  · simp [dueIf]
  · simp [dueIf]

theorem dueIf_sublist (b : Bool) (c : Instr) : (dueIf b c).Sublist [c] := by
  cases b
  · exact List.nil_sublist _
  · exact List.Sublist.refl _

/-- The part's own events, each once, in the order in which `dueEvents` looks for them. -/
def ownEvents : List Instr :=
  [.lossTimerExpiry, .refreshDue, .holdTimerExpiry 0, .holdTimerExpiry 1, .holdTimerExpiry 2, .holdTimerExpiry 3,
    .rollTimerExpiry, .checkTimerExpiry, .learnTimerExpiry, .demandTimerExpiry, .rearwardTimerExpiry, .statusTimerExpiry,
    .blockWriteComplete, .tallyEraseComplete, .tallyBitProgrammed, .protectionWordProgrammed, .pendingTallyStart,
    .waitingBlock3StoreStart, .pendingRecordTransmit, .frontHandover, .rearHandover]

theorem dueHolds_sublist (s : State) : (allChannels.flatMap (dueHold s)).Sublist
    [.holdTimerExpiry 0, .holdTimerExpiry 1, .holdTimerExpiry 2, .holdTimerExpiry 3] :=
  (dueIf_sublist _ _).append ((dueIf_sublist _ _).append ((dueIf_sublist _ _).append
    ((dueIf_sublist _ _).append (List.Sublist.refl []))))

theorem dueEvents_sublist (s : State) : (dueEvents s).Sublist ownEvents := by
  have hexpiries : (dueExpiries s).Sublist (ownEvents.take 12) :=
    ((((((((dueIf_sublist _ _).append (dueIf_sublist _ _)).append (dueHolds_sublist s)).append (dueIf_sublist _ _)).append
      (dueIf_sublist _ _)).append (dueIf_sublist _ _)).append (dueIf_sublist _ _)).append (dueIf_sublist _ _)).append
      (dueIf_sublist _ _)
  have hstore : (dueStore s).Sublist ((ownEvents.drop 12).take 6) :=
    (((((dueIf_sublist _ _).append (dueIf_sublist _ _)).append (dueIf_sublist _ _)).append (dueIf_sublist _ _)).append
      (dueIf_sublist _ _)).append (dueIf_sublist _ _)
  have hports : (duePorts s).Sublist (ownEvents.drop 18) :=
    ((dueIf_sublist _ _).append (dueIf_sublist _ _)).append (dueIf_sublist _ _)
  exact (hexpiries.append hstore).append hports

theorem dueEvents_nodup (s : State) : (dueEvents s).Nodup :=
  (dueEvents_sublist s).nodup (by decide)

/-- An event of the part's own is due on the condition that `dueEvents` gives for it. -/
theorem mem_dueEvents (s : State) (d : Instr) : d ∈ dueEvents s ↔
    (d = .lossTimerExpiry ∧ lossExpired s = true) ∨ (d = .refreshDue ∧ refreshIsDue s = true) ∨
    (∃ c, d = .holdTimerExpiry c ∧
      (((chan s c).state == .hold) && runLasted s.timeBase (chan s c).holdTimer 500) = true) ∨
    (d = .rollTimerExpiry ∧ timerExpired s.timeBase s.roll.timer = true) ∨
    (d = .checkTimerExpiry ∧ reached s.timeBase s.tyres.checkStart 1000 = true) ∨
    (d = .learnTimerExpiry ∧ sessionExpired s = true) ∨
    (d = .demandTimerExpiry ∧ timerExpired s.timeBase s.link.demandTimer = true) ∨
    (d = .rearwardTimerExpiry ∧ runLasted s.timeBase s.link.rearwardTimer 10 = true) ∨
    (d = .statusTimerExpiry ∧ reached s.timeBase s.alerts.statusStart 100 = true) ∨
    (d = .blockWriteComplete ∧ (storeRuns s.store .writing && reached s.timeBase s.store.since 400) = true) ∨
    (d = .tallyEraseComplete ∧ (storeRuns s.store .erasing && reached s.timeBase s.store.since 200) = true) ∨
    (d = .tallyBitProgrammed ∧ (storeRuns s.store .tally && reached s.timeBase s.store.since 5) = true) ∨
    (d = .protectionWordProgrammed ∧ (storeRuns s.store .protecting && reached s.timeBase s.store.since 50) = true) ∨
    (d = .pendingTallyStart ∧ (s.store.ended && (firstPending s).isSome) = true) ∨
    (d = .waitingBlock3StoreStart ∧ (s.store.ended && (firstPending s).isNone && s.tyres.waiting) = true) ∨
    (d = .pendingRecordTransmit ∧ (s.valve.tx.isNone && s.valve.slot.isSome) = true) ∨
    (d = .frontHandover ∧ (s.relay.frontTx.isNone && (frontChoice s).isSome) = true) ∨
    (d = .rearHandover ∧ rearReady s.relay = true) := by
  simp only [dueEvents, dueExpiries, dueStore, duePorts, List.mem_append, List.mem_flatMap, dueHold, mem_dueIf, or_assoc,
    mem_allChannels, true_and]

/-! ### The conditions in terms of the state -/

theorem runLasted_iff (now : Stamp) (run : Option Stamp) (ms : Nat) :
    runLasted now run ms = true ↔ ∃ a ∈ run, ms ≤ (now - a).toNat := by
  cases run with
  | none => simp [runLasted]
  | some a => rw [runLasted_some, reached_iff]; simp

theorem timerExpired_iff (now : Stamp) (timer : Option Timer) :
    timerExpired now timer = true ↔ ∃ m ∈ timer, m.bound ≤ (now - m.start).toNat := by
  cases timer with
  | none => simp [timerExpired]
  | some m => rw [timerExpired_some, reached_iff]; simp

theorem lossExpired_iff (s : State) : lossExpired s = true ↔
    s.sample.loss ≠ .lost ∧ ∃ a ∈ s.sample.lossStart, 20 ≤ (s.timeBase - a).toNat := by
  rw [lossExpired, Bool.and_eq_true, runLasted_iff, bne_iff_ne]

theorem refreshIsDue_iff (s : State) : refreshIsDue s = true ↔ s.valve.normalSent = true ∧ s.resetLine = false ∧
    ∃ a ∈ s.valve.composedAt, 10 ≤ (s.timeBase - a).toNat := by
  rw [refreshIsDue, Bool.and_eq_true, Bool.and_eq_true, runLasted_iff, Bool.not_eq_true', and_assoc]

theorem sessionExpired_iff (s : State) : sessionExpired s = true ↔
    ∃ l ∈ s.tyres.session, l.bound ≤ (s.timeBase - l.start).toNat := by
  unfold sessionExpired
  cases s.tyres.session with
  | none => simp
  | some l => simp [reached_iff]

/-- An operation of the table store is in progress for a duration. -/
theorem storeRuns_long_iff (t : Store) (st : StoreState) (now : Stamp) (ms : Nat) :
    (storeRuns t st && reached now t.since ms) = true ↔
      t.state = st ∧ t.ended = false ∧ ms ≤ (now - t.since).toNat := by
  rw [Bool.and_eq_true, reached_iff, storeRuns, Bool.and_eq_true, beq_iff_eq, Bool.not_eq_true', and_assoc]

theorem firstPending_isSome_iff (s : State) :
    (firstPending s).isSome = true ↔ ∃ k, quadGet s.store.pendingTally k ≠ 0 := by
  have hmem : ∀ k : Fin 4, k ∈ ([0, 1, 2, 3] : List (Fin 4)) := by decide
  simp only [firstPending, List.find?_isSome, bne_iff_ne, hmem, true_and]

theorem firstPending_isNone_iff (s : State) :
    (firstPending s).isNone = true ↔ ¬∃ k, quadGet s.store.pendingTally k ≠ 0 := by
  rw [← firstPending_isSome_iff]
  cases firstPending s <;> simp

theorem rearReady_iff (r : Relay) : rearReady r = true ↔
    (r.rear = .forwarding ∨ r.rear = .noPartner) ∧ r.rearTx = none ∧ r.isolation = none ∧ r.rearward ≠ [] := by
  simp only [rearReady, rearSends, Bool.and_eq_true, Bool.or_eq_true, beq_iff_eq, Option.isNone_iff_eq_none,
    Bool.not_eq_true', List.isEmpty_eq_false_iff, and_assoc]

/-- The front port has a frame to choose as soon as an alert, a relayed frame, a response frame or an unsent status frame
waits (R153). -/
theorem frontChoice_isSome_iff (s : State) : (frontChoice s).isSome = true ↔
    s.alerts.queue ≠ [] ∨ s.relay.relayed ≠ [] ∨ (∃ e ∈ s.mgmt.queue.head?, e ≠ []) ∨
      ∃ p ∈ s.alerts.slot, p.sent1 = false ∨ p.sent2 = false := by
  have halerts : s.alerts.queue ≠ [] ↔ s.alerts.queue.head?.isSome = true := by cases s.alerts.queue <;> simp
  have hrelayed : s.relay.relayed ≠ [] ↔ s.relay.relayed.head?.isSome = true := by cases s.relay.relayed <;> simp
  have hresponse : (∃ e ∈ s.mgmt.queue.head?, e ≠ []) ↔ (s.mgmt.queue.head?.bind List.head?).isSome = true := by
    cases s.mgmt.queue with
    | nil => simp
    | cons e rest => cases e <;> simp
  have hfind : (s.relay.relayed.find? fun e => isAlert e.frame).isSome = true → s.relay.relayed.head?.isSome = true := by
    cases s.relay.relayed <;> simp
  rw [halerts, hrelayed, hresponse]
  unfold frontChoice
  split
  · next h => simp [h]
  · next h hf => simp [h, hfind (by rw [hf]; rfl)]
  · next h => simp [h]
  · next h => simp [h]
  · next p _ _ _ _ hslot =>
    rename_i ha _ hm hr
    cases h1 : p.sent1 <;> cases h2 : p.sent2 <;> simp [ha, hm, hr, h1, h2, hslot]
  · next ha _ hm hr hslot => simp [ha, hm, hr, hslot]

/-! ### The tick -/

theorem step_of_idle {s : State} (h : s.pending = []) : step s = .next (idleTick s) := by
  unfold step
  rw [h]

theorem idleTick_of_powered {s : State} (h : s.powered = true) : idleTick s =
    { s with
      timeBase := s.timeBase + 1
      pending := arrange (Config.expiryOrder s.free) (dueEvents { s with timeBase := s.timeBase + 1 })
      free := s.free + 1 } := if_pos h

theorem idleTick_of_unpowered {s : State} (h : s.powered = false) : idleTick s = s := by
  unfold idleTick
  rw [h]
  rfl

/-- Settles O2: the queue after the tick is an arrangement of the events due at the new time, and each is due on its
condition. -/
theorem emptyQueueTicks : Obligations.EmptyQueueTicks := by
  intro s hempty
  refine ⟨fun hpower => ?_, fun hpower => ?_⟩
  · rw [step_of_idle hempty, idleTick_of_unpowered hpower]
  · have htick := idleTick_of_powered hpower
    have hperm := arrange_perm (Config.expiryOrder s.free) (dueEvents { s with timeBase := s.timeBase + 1 })
    have hpending : (idleTick s).pending =
        arrange (Config.expiryOrder s.free) (dueEvents { s with timeBase := s.timeBase + 1 }) := by rw [htick]
    have hclock : (idleTick s).timeBase = s.timeBase + 1 := by rw [htick]
    refine ⟨idleTick s, step_of_idle hempty, hclock, (idleTick_touches s).within (by decide), by rwa [hpending], ?_, ?_⟩
    · rw [hpending]
      exact hperm.nodup_iff.mpr (dueEvents_nodup _)
    · intro past ran ended runs tallies r
      have hmem : ∀ d, d ∈ (idleTick s).pending ↔ d ∈ dueEvents { s with timeBase := s.timeBase + 1 } := fun d => by
        rw [hpending, hperm.mem_iff]
      simp only [hmem, mem_dueEvents, reduceCtorEq, false_and, true_and, exists_false, or_false, false_or,
        Instr.holdTimerExpiry.injEq, exists_eq_left', past, ran, ended, runs, tallies, r, hclock]
      exact ⟨lossExpired_iff { s with timeBase := s.timeBase + 1 }, refreshIsDue_iff { s with timeBase := s.timeBase + 1 },
        fun c => by rw [Bool.and_eq_true, beq_iff_eq, runLasted_iff]; rfl,
        timerExpired_iff _ _, reached_iff _ _ _, sessionExpired_iff { s with timeBase := s.timeBase + 1 },
        timerExpired_iff _ _, runLasted_iff _ _ _, reached_iff _ _ _,
        storeRuns_long_iff _ _ _ _, storeRuns_long_iff _ _ _ _, storeRuns_long_iff _ _ _ _, storeRuns_long_iff _ _ _ _,
        by rw [Bool.and_eq_true, firstPending_isSome_iff],
        by rw [Bool.and_eq_true, Bool.and_eq_true, firstPending_isNone_iff, and_assoc],
        by rw [Bool.and_eq_true, Option.isNone_iff_eq_none, Option.isSome_iff_ne_none],
        by rw [Bool.and_eq_true, Option.isNone_iff_eq_none, frontChoice_isSome_iff],
        rearReady_iff _⟩

end Sys2Proof.Machine
end

section
/-! The alert composer and the response queue under several raises and answers (R58, R161, R166, R168). -/

namespace Sys2Proof.Machine

open Sys2Proof

/-! ### The capture record beside the alert queue -/

/-- The composer after a request to fill the capture record with `k` (R166). -/
def captured (k : Capture) (a : Alerts) : Alerts :=
  { a with
    capture := some (a.capture.getD k)
    sinceCapture := if a.capture.isSome then satInc8 a.sinceCapture else a.sinceCapture }

theorem fillCapture_alerts (kind : CaptureKind) (subject : Subject) (commanded delivered : Nat) (s : State) :
    (fillCapture kind subject commanded delivered s).alerts =
      captured (captureRecord kind subject commanded delivered s) s.alerts := by
  unfold fillCapture captured
  cases h : s.alerts.capture with
  | none => rfl
  | some k => simp only [onAlerts_alerts, h, Option.getD_some, Option.isSome_some, if_true]

/-- A raise neither reads nor changes the capture record. -/
theorem placeAlert_beside_capture (now : Stamp) (e : Alert) (a : Alerts) (x : Option Capture) (n : Nat) :
    placeAlert now e { a with capture := x, sinceCapture := n } =
      { placeAlert now e a with capture := x, sinceCapture := n } := by
  unfold placeAlert
  dsimp only
  split
  · rfl
  · split
    · rfl
    · split
      · split <;> rfl
      · rfl

theorem placeAlert_capture (now : Stamp) (e : Alert) (a : Alerts) :
    (placeAlert now e a).capture = a.capture ∧ (placeAlert now e a).sinceCapture = a.sinceCapture :=
  have h : placeAlert now e a = { placeAlert now e a with capture := a.capture, sinceCapture := a.sinceCapture } :=
    placeAlert_beside_capture now e a a.capture a.sinceCapture
  ⟨(congrArg Alerts.capture h :), (congrArg Alerts.sinceCapture h :)⟩

/-- A raise and a request to fill the capture record do not meet. -/
theorem placeAlert_captured (now : Stamp) (e : Alert) (k : Capture) (a : Alerts) :
    placeAlert now e (captured k a) = captured k (placeAlert now e a) := by
  obtain ⟨hcapture, hsince⟩ := placeAlert_capture now e a
  rw [captured, placeAlert_beside_capture, captured, hcapture, hsince]

/-- A request to fill the capture record changes nothing but that record and its count. -/
theorem captured_beside (k : Capture) (a : Alerts) :
    captured k a = { a with capture := (captured k a).capture, sinceCapture := (captured k a).sinceCapture } := rfl

theorem captured_of_none {k : Capture} {a : Alerts} (h : a.capture = none) :
    (captured k a).capture = some k ∧ (captured k a).sinceCapture = a.sinceCapture := by
  rw [captured, h]
  exact ⟨rfl, rfl⟩

theorem captured_of_some {k x : Capture} {a : Alerts} (h : a.capture = some x) :
    (captured k a).capture = some x ∧ (captured k a).sinceCapture = min (a.sinceCapture + 1) 255 := by
  rw [captured, h]
  exact ⟨rfl, rfl⟩

/-- Raises made one after another, with the capture record filled before them. -/
theorem foldl_raises_captured {β : Type} (k : Capture) (raise : Alerts → β → Alerts)
    (h : ∀ a b, raise (captured k a) b = captured k (raise a b)) (l : List β) (a : Alerts) :
    l.foldl raise (captured k a) = captured k (l.foldl raise a) := by
  induction l generalizing a with
  | nil => rfl
  | cons b l ih => rw [List.foldl_cons, List.foldl_cons, h, ih]

theorem foldl_raises_capture {β : Type} (raise : Alerts → β → Alerts)
    (h : ∀ a b, (raise a b).capture = a.capture ∧ (raise a b).sinceCapture = a.sinceCapture) (l : List β) (a : Alerts) :
    (l.foldl raise a).capture = a.capture ∧ (l.foldl raise a).sinceCapture = a.sinceCapture :=
  ⟨foldl_same Alerts.capture raise l (fun a b _ => (h a b).1) a,
    foldl_same Alerts.sinceCapture raise l (fun a b _ => (h a b).2) a⟩

/-! ### Answers placed one after another -/

/-- The management engine after an entry is placed in the response queue, or lost at a full one (R168). -/
def placed (e : List CanFrame) (m : Mgmt) : Mgmt :=
  if m.queue.length < 4 then { m with queue := m.queue ++ [e] } else { m with responsesLost := satInc m.responsesLost }

/-- The management engine after entries are placed one after another. -/
def placedAll (es : List (List CanFrame)) (m : Mgmt) : Mgmt := es.foldl (fun m e => placed e m) m

theorem answer_mgmt (code : Nat) (tag : Byte) (a : Answer) (s : State) :
    (answer code tag a s).mgmt = placed [responseFrame s code (tag :: answerBytes a)] s.mgmt := rfl

@[simp] theorem placedAll_nil (m : Mgmt) : placedAll [] m = m := rfl

theorem placedAll_append (es fs : List (List CanFrame)) (m : Mgmt) : placedAll (es ++ fs) m = placedAll fs (placedAll es m) :=
  List.foldl_append

/-- Entries placed for one channel after another are all placed in that order. -/
theorem foldl_placedAll (g : Channel → List (List CanFrame)) (l : List Channel) (m : Mgmt) :
    l.foldl (fun m c => placedAll (g c) m) m = placedAll (l.flatMap g) m := List.foldl_flatMap.symm

/-- Only the response queue and the count of lost responses follow an entry placed. -/
theorem placed_beside (e : List CanFrame) (m : Mgmt) : ∃ q n, placed e m = { m with queue := q, responsesLost := n } := by
  unfold placed
  split
  · exact ⟨_, _, rfl⟩
  · exact ⟨_, _, rfl⟩

theorem placedAll_beside (es : List (List CanFrame)) (m : Mgmt) :
    ∃ q n, placedAll es m = { m with queue := q, responsesLost := n } := by
  induction es generalizing m with
  | nil => exact ⟨_, _, rfl⟩
  | cons e es ih =>
    obtain ⟨q, n, hone⟩ := placed_beside e m
    obtain ⟨q', n', hrest⟩ := ih (placed e m)
    exact ⟨q', n', hrest.trans (by rw [hone])⟩

/-- The queue takes the first entries up to four, and each further one is counted as lost. -/
theorem placedAll_queue (es : List (List CanFrame)) {m : Mgmt} (h : m.queue.length ≤ 4) :
    (placedAll es m).queue = (m.queue ++ es).take 4 ∧ (placedAll es m).responsesLost =
      (List.range ((m.queue ++ es).length - 4)).foldl (fun n _ => min (n + 1) 65535) m.responsesLost := by
  induction es generalizing m with
  | nil => simp [List.take_of_length_le h, Nat.sub_eq_zero_of_le h]
  | cons e es ih =>
    have hnext : placedAll (e :: es) m = placedAll es (placed e m) := rfl
    rw [hnext]
    by_cases hroom : m.queue.length < 4
    · have hplaced : placed e m = { m with queue := m.queue ++ [e] } := if_pos hroom
      have hshort : (placed e m).queue.length ≤ 4 := by
        rw [hplaced, List.length_append]
        exact hroom
      obtain ⟨hqueue, hlost⟩ := ih hshort
      rw [hqueue, hlost, hplaced]
      simp only [List.append_assoc, List.singleton_append, and_self]
    · have hplaced : placed e m = { m with responsesLost := satInc m.responsesLost } := if_neg hroom
      have hfull : m.queue.length = 4 := by omega
      obtain ⟨hqueue, hlost⟩ := ih (m := placed e m) (by rw [hplaced]; exact h)
      rw [hqueue, hlost, hplaced]
      refine ⟨?_, ?_⟩
      · simp only [List.take_append_of_le_length hfull.ge]
      · simp only [List.length_append, hfull, List.length_cons, Nat.add_sub_cancel_left, List.range_succ_eq_map,
          List.foldl_cons, List.foldl_map]
        rfl

/-! ### A pending halt that is cancelled -/

/-- COMPLETED(CANCELLED) of a channel's pending halt (R58). -/
def haltCancels (s : State) (r : ChannelRec) : List (List CanFrame) :=
  (r.haltPending.map fun h => [responseFrame s 10 [h.tag, 2, 4]]).toList

theorem haltCancels_of_none {s : State} {r : ChannelRec} (h : r.haltPending = none) : haltCancels s r = [] := by
  rw [haltCancels, h]
  rfl

theorem haltCancels_of_some {s : State} {r : ChannelRec} {h : PendingHalt} (hp : r.haltPending = some h) :
    haltCancels s r = [[responseFrame s 10 [h.tag, 2, 4]]] := by
  rw [haltCancels, hp]
  rfl

theorem responseFrame_congr {s t : State} (h : t.link = s.link) (code : Nat) (data : List Byte) :
    responseFrame t code data = responseFrame s code data := by
  rw [responseFrame, chainPosition, h, responseFrame, chainPosition]

theorem haltCancels_congr {s t : State} (h : t.link = s.link) (r : ChannelRec) : haltCancels t r = haltCancels s r := by
  simp only [haltCancels, responseFrame_congr h]

theorem flatMap_haltCancels (s : State) (rec : Channel → ChannelRec) (l : List Channel) :
    l.flatMap (fun c => haltCancels s (rec c)) =
      l.filterMap fun c => (rec c).haltPending.map fun h => [responseFrame s 10 [h.tag, 2, 4]] :=
  (List.filterMap_eq_flatMap_toList _ _).symm

theorem cancelPendingHalt_one (c : Channel) (s : State) : OneChannel c s (cancelPendingHalt c s) ∧
    chan (cancelPendingHalt c s) c = { chan s c with haltPending := none } ∧
    (cancelPendingHalt c s).alerts = s.alerts ∧
    (cancelPendingHalt c s).mgmt = placedAll (haltCancels s (chan s c)) s.mgmt ∧
    (cancelPendingHalt c s).store = s.store := by
  obtain ⟨hone, hchan⟩ := endPendingHalt_one c .cancelled s
  obtain ⟨halerts, hstore⟩ := endPendingHalt_rest c .cancelled s
  refine ⟨hone, hchan, halerts, ?_, hstore⟩
  cases hp : (chan s c).haltPending with
  | none =>
    rw [haltCancels_of_none hp, cancelPendingHalt, endPendingHalt, hp]
    rfl
  | some h => rw [haltCancels_of_some hp, cancelPendingHalt, endPendingHalt_mgmt hp]; rfl

end Sys2Proof.Machine
end

section
/-! The entry of a channel into FAULTED under either fault policy (R50, R51). -/

namespace Sys2Proof.Machine

open Sys2Proof

/-! ### Sympathy backups -/

/-- A channel in ACTIVE, HOLD or HALTED, which a sympathy backup moves (R51). -/
abbrev runs (r : ChannelRec) : Prop := r.state = .active ∨ r.state = .hold ∨ r.state = .halted

/-- A record after a sympathy backup that moves its channel (R51). -/
def backedUp (r : ChannelRec) : ChannelRec := { goTo .backup (some .sympathy) r with haltPending := none }

/-- The alerts after HALT_ABANDONED of a HALTED channel (R51, R59). -/
def abandonsHalt (s : State) (c : Channel) (r : ChannelRec) (a : Alerts) : Alerts :=
  if r.state = .halted then raisedAt s s.timeBase .haltAbandoned ⟨.channel, c.val + 1⟩ r.haltPressure a else a

theorem abandonsHalt_congr {s t : State} (h : t.timeBase = s.timeBase) (c : Channel) (r : ChannelRec) (a : Alerts) :
    abandonsHalt t c r a = abandonsHalt s c r a := by
  rw [abandonsHalt, raisedAt, h, abandonsHalt, raisedAt]

theorem abandonsHalt_captured (s : State) (c : Channel) (r : ChannelRec) (k : Capture) (a : Alerts) :
    abandonsHalt s c r (captured k a) = captured k (abandonsHalt s c r a) := by
  unfold abandonsHalt
  split
  · exact placeAlert_captured _ _ k a
  · rfl

/-- The move to BACKUP(SYMPATHY) with the cancellation of the pending halt. -/
theorem moveBack_one (c : Channel) (s : State) (t : State)
    (ht : t = cancelPendingHalt c (s.onChannel c (goTo .backup (some .sympathy)))) :
    OneChannel c s t ∧ chan t c = backedUp (chan s c) ∧ t.alerts = s.alerts ∧
      t.mgmt = placedAll (haltCancels s (chan s c)) s.mgmt ∧ t.store = s.store := by
  obtain ⟨hone, hchan, halerts, hmgmt, hstore⟩ := cancelPendingHalt_one c (s.onChannel c (goTo .backup (some .sympathy)))
  rw [chan_onChannel_same] at hchan hmgmt
  rw [ht]
  exact ⟨(OneChannel.onChannel c _ s).trans hone, hchan, halerts, hmgmt, hstore⟩

/-- A channel that runs is backed up. -/
theorem sympathyBackup_of_running {c : Channel} {s : State} (h : runs (chan s c)) :
    OneChannel c s (sympathyBackup c s) ∧ chan (sympathyBackup c s) c = backedUp (chan s c) ∧
      (sympathyBackup c s).alerts = abandonsHalt s c (chan s c) s.alerts ∧
      (sympathyBackup c s).mgmt = placedAll (haltCancels s (chan s c)) s.mgmt ∧ (sympathyBackup c s).store = s.store := by
  by_cases hh : (chan s c).state = .halted
  · have hraise : ChangesOnly [.alerts] s (raiseAbandoned c s) := raiseAlert_touches s _ _ _
    have hsame : chan (raiseAbandoned c s) c = chan s c := chan_frame hraise (by decide) c
    obtain ⟨hone, hchan, halerts, hmgmt, hstore⟩ := moveBack_one c (raiseAbandoned c s) (sympathyBackup c s)
      (by simp only [sympathyBackup, hh])
    rw [hsame] at hchan hmgmt
    exact ⟨(OneChannel.of_frame hraise (by decide) (by decide)).trans hone, hchan, halerts.trans (if_pos hh).symm, hmgmt,
      hstore⟩
  · obtain ⟨hone, hchan, halerts, hmgmt, hstore⟩ := moveBack_one c s (sympathyBackup c s) (by
      obtain h | h | h := h
      · simp only [sympathyBackup, h]
      · simp only [sympathyBackup, h]
      · exact absurd h hh)
    exact ⟨hone, hchan, halerts.trans (if_neg hh).symm, hmgmt, hstore⟩

/-- Another channel stays as it is. -/
theorem sympathyBackup_of_resting {c : Channel} {s : State} (h : ¬runs (chan s c)) : sympathyBackup c s = s := by
  unfold sympathyBackup
  dsimp only
  split
  case h_1 hs => exact absurd (.inl hs) h
  case h_2 hs => exact absurd (.inr (.inl hs)) h
  case h_3 hs => exact absurd (.inr (.inr hs)) h
  all_goals rfl

/-! ### The fault policy -/

/-- The policy backs up channel `d` at an entry of channel `c` into FAULTED (R51). -/
abbrev backsUp (s : State) (c d : Channel) (r : ChannelRec) : Prop :=
  t1PolicyAll s.tables.t1 = true ∧ d ≠ c ∧ runs r

/-- A record after the fault policy. -/
def afterPolicy (s : State) (c d : Channel) (r : ChannelRec) : ChannelRec := if backsUp s c d r then backedUp r else r

/-- The alerts after the fault policy for one channel. -/
def policyAlerts (s : State) (c d : Channel) (r : ChannelRec) (a : Alerts) : Alerts :=
  if backsUp s c d r then abandonsHalt s d r a else a

/-- The answers of the fault policy for one channel. -/
def policyAnswers (s : State) (c d : Channel) (r : ChannelRec) : List (List CanFrame) :=
  if backsUp s c d r then haltCancels s r else []

theorem policyAlerts_captured (s : State) (c d : Channel) (r : ChannelRec) (k : Capture) (a : Alerts) :
    policyAlerts s c d r (captured k a) = captured k (policyAlerts s c d r a) := by
  unfold policyAlerts
  split
  · exact abandonsHalt_captured s d r k a
  · rfl

section Congr

variable {s t : State} (h : ChannelsOnly s t)

include h

theorem backsUp_congr (c d : Channel) (r : ChannelRec) : backsUp t c d r ↔ backsUp s c d r := by
  rw [backsUp, h.tables]

theorem afterPolicy_congr (c d : Channel) (r : ChannelRec) : afterPolicy t c d r = afterPolicy s c d r :=
  if_congr (backsUp_congr h c d r) rfl rfl

theorem policyAlerts_congr (c d : Channel) (r : ChannelRec) (a : Alerts) :
    policyAlerts t c d r a = policyAlerts s c d r a :=
  if_congr (backsUp_congr h c d r) (abandonsHalt_congr h.clock d r a) rfl

theorem policyAnswers_congr (c d : Channel) (r : ChannelRec) : policyAnswers t c d r = policyAnswers s c d r :=
  if_congr (backsUp_congr h c d r) (haltCancels_congr h.link r) rfl

end Congr

/-- The step of the policy for one channel. -/
theorem policyStep_one {s : State} {c : Channel} (hp : t1PolicyAll s.tables.t1 = true) (d : Channel) :
    let t := if d = c then s else sympathyBackup d s
    OneChannel d s t ∧ chan t d = afterPolicy s c d (chan s d) ∧ t.alerts = policyAlerts s c d (chan s d) s.alerts ∧
      t.mgmt = placedAll (policyAnswers s c d (chan s d)) s.mgmt ∧ t.store = s.store := by
  unfold afterPolicy policyAlerts policyAnswers
  by_cases hb : backsUp s c d (chan s d)
  · rw [if_pos hb, if_pos hb, if_pos hb, if_neg hb.2.1]
    exact sympathyBackup_of_running hb.2.2
  · have hsame : (if d = c then s else sympathyBackup d s) = s :=
      ite_eq_left_iff.mpr fun hd => sympathyBackup_of_resting fun hr => hb ⟨hp, hd, hr⟩
    rw [if_neg hb, if_neg hb, if_neg hb, hsame]
    exact ⟨.refl d s, rfl, rfl, rfl, rfl⟩

/-- What the fault policy does to every channel, to the alerts and to the answers. -/
theorem applyPolicy_channels (c : Channel) (s : State) : ChannelsOnly s (applyPolicy c s) ∧
    (∀ d, chan (applyPolicy c s) d = afterPolicy s c d (chan s d)) ∧
    (applyPolicy c s).alerts = allChannels.foldl (fun a d => policyAlerts s c d (chan s d) a) s.alerts ∧
    (applyPolicy c s).mgmt = placedAll (allChannels.flatMap fun d => policyAnswers s c d (chan s d)) s.mgmt ∧
    (applyPolicy c s).store = s.store := by
  rw [← foldl_placedAll]
  by_cases hp : t1PolicyAll s.tables.t1 = true
  · have heq : applyPolicy c s = allChannels.foldl (fun s d => if d = c then s else sympathyBackup d s) s := if_pos hp
    obtain ⟨hall, hin, -, hrun⟩ := foldl_channels (m := s) (before := fun d => chan s d)
      (after := fun d => afterPolicy s c d (chan s d)) (π := fun t => (t.alerts, t.mgmt))
      (work := fun d w => (policyAlerts s c d (chan s d) w.1, placedAll (policyAnswers s c d (chan s d)) w.2))
      (f := fun s d => if d = c then s else sympathyBackup d s) (fun t d ht hd => by
        obtain ⟨hone, hchan, halerts, hmgmt, -⟩ :=
          policyStep_one (c := c) (s := t) (by rw [ht.tables]; exact hp) d
        refine ⟨hone, ?_, ?_⟩
        · rw [hchan, hd, afterPolicy_congr ht]
        · rw [halerts, hmgmt, hd, policyAlerts_congr ht, policyAnswers_congr ht])
      allChannels_nodup (ChannelsOnly.refl s) fun _ _ => rfl
    rw [heq]
    refine ⟨hall, fun d => hin d (mem_allChannels d), ?_, ?_, ?_⟩
    · exact (congrArg Prod.fst hrun).trans (List.foldl_hom Prod.fst (fun _ _ => rfl)).symm
    · exact (congrArg Prod.snd hrun).trans (List.foldl_hom Prod.snd (fun _ _ => rfl)).symm
    · rw [← heq]
      exact applyPolicy_touches s c .store (by decide)
  · have heq : applyPolicy c s = s := if_neg hp
    have hnone : ∀ d r, ¬backsUp s c d r := fun d r hb => hp hb.1
    have halerts : ∀ d ∈ allChannels, ∀ a, policyAlerts s c d (chan s d) a = a := fun d _ a => if_neg (hnone d _)
    have hmgmt : ∀ d ∈ allChannels, ∀ m, placedAll (policyAnswers s c d (chan s d)) m = m := fun d _ m => by
      rw [policyAnswers, if_neg (hnone d _), placedAll_nil]
    rw [heq, foldl_idle halerts, foldl_idle hmgmt]
    exact ⟨.refl s, fun d => (if_neg (hnone d _)).symm, rfl, rfl, rfl⟩

/-! ### The entry into FAULTED -/

/-- The capture record of a channel that enters FAULTED (R166). -/
def faultCapture (u : State) (c : Channel) : Capture :=
  captureRecord .channelFault ⟨.channel, c.val + 1⟩ (commandedOf u c) (chan u c).delivered u

/-- The alerts of a channel that enters FAULTED, before the fault policy (R50). -/
def faultAlerts (u : State) (c : Channel) (cause : FaultCause) (a : Alerts) : Alerts :=
  captured (faultCapture u c) (raisedAt u u.timeBase .channelFault ⟨.channel, c.val + 1⟩ (faultCauseCode cause) a)

/-- The entry as a change of one channel, before the fault policy. -/
theorem enterFaulted_before_policy (c : Channel) (cause : FaultCause) (u : State) :
    ∃ s, enterFaulted c cause u = applyPolicy c s ∧ OneChannel c u s ∧ chan s c = faultedRecord cause (chan u c) ∧
      s.alerts = faultAlerts u c cause u.alerts ∧ s.mgmt = placedAll (haltCancels u (chan u c)) u.mgmt ∧
      s.store = (requestTally 2 u).store := by
  unfold enterFaulted
  dsimp only
  generalize hu1 : u.onChannel c _ = u1
  have h1 : ChangesOnly [.arbiter] u u1 := hu1 ▸ onChannel_touches u c _
  have hone1 : OneChannel c u u1 := hu1 ▸ .onChannel c _ u
  have hc1 : chan u1 c = { goTo .faulted none (chan u c) with cause := some cause } := by rw [← hu1, chan_onChannel_same]
  have hdemand : demandLevel u1 = demandLevel u := hu1 ▸ rfl
  clear hu1
  have hclock : u1.timeBase = u.timeBase := h1 .clock (by decide)
  generalize hu2 : raiseAlert .channelFault _ _ u1 = u2
  have h2 : ChangesOnly [.alerts] u1 u2 := hu2 ▸ raiseAlert_touches u1 _ _ _
  have ha2 : u2.alerts = raisedAt u u.timeBase .channelFault ⟨.channel, c.val + 1⟩ (faultCauseCode cause) u.alerts := by
    rw [← hu2]
    show placeAlert u1.timeBase ⟨_, _, _, u1.timeBase, _, _⟩ u1.alerts = _
    rw [hclock, h1 .alerts (by decide)]
    rfl
  clear hu2
  generalize hu3 : requestTally tallyFaults u2 = u3
  have h3 : ChangesOnly [.store] u2 u3 := hu3 ▸ requestTally_touches u2 _
  have hs3 : u3.store = (requestTally 2 u).store := by
    have hclock2 : u2.timeBase = u.timeBase := Eq.trans (h2 .clock (by decide)) hclock
    have hstore2 : u2.store = u.store := Eq.trans (h2 .store (by decide)) (h1 .store (by decide))
    rw [← hu3, requestTally_store, requestTally_store, hclock2, hstore2]
    rfl
  clear hu3
  have h23 : ChangesOnly [.alerts, .store] u1 u3 := (h2.within (by decide)).andThen (h3.within (by decide))
  have h13 : ChangesOnly [.arbiter, .alerts, .store] u u3 := (h1.within (by decide)).andThen (h23.within (by decide))
  have hone3 : OneChannel c u u3 := hone1.trans (.of_frame h23 (by decide) (by decide))
  have hchan3 : chan u3 c = { goTo .faulted none (chan u c) with cause := some cause } := by
    rw [chan_frame h23 (by decide), hc1]
  have ha3 : u3.alerts = u2.alerts := h3 .alerts (by decide)
  have hcapture : captureRecord .channelFault (channelSubject c) (commandedOf u3 c) (chan u3 c).delivered u3 =
      faultCapture u c := by
    have hd3 : demandLevel u3 = demandLevel u := hone3.demandLevel
    have hr3 : u3.roll = u.roll := hone3.roll
    rw [captureRecord, commandedOf, hchan3, hone3.clock, hd3, hone3.inputValid, hone3.inputValid, hr3, inputValue,
      inputValue, hone3.input, hone3.input]
    rfl
  generalize hu4 : fillCaptureChannel .channelFault c u3 = u4
  have h4 : ChangesOnly [.alerts] u3 u4 := hu4 ▸ fillCaptureChannel_touches u3 _ _
  have ha4 : u4.alerts = faultAlerts u c cause u.alerts := by
    rw [← hu4, fillCaptureChannel, fillCapture_alerts, hcapture, ha3, ha2, faultAlerts]
  clear hu4
  have hone4 : OneChannel c u u4 := hone3.trans (.of_frame h4 (by decide) (by decide))
  have hchan4 : chan u4 c = { goTo .faulted none (chan u c) with cause := some cause } := by
    rw [chan_frame h4 (by decide), hchan3]
  obtain ⟨hone5, hchan5, halerts5, hmgmt5, hstore5⟩ := cancelPendingHalt_one c u4
  have hpending : (chan u4 c).haltPending = (chan u c).haltPending := by rw [hchan4]; rfl
  have hm4 : u4.mgmt = u.mgmt := Eq.trans (h4 .mgmt (by decide)) (h13 .mgmt (by decide))
  refine ⟨cancelPendingHalt c u4, rfl, hone4.trans hone5, ?_, halerts5.trans ha4, ?_, ?_⟩
  · rw [hchan5, hchan4]
    rfl
  · rw [hmgmt5, hm4, haltCancels_congr hone4.link, haltCancels, hpending, haltCancels]
  · exact hstore5.trans (Eq.trans (h4 .store (by decide)) hs3)

/-- The entry into FAULTED, told of every channel, the alerts, the answers and the table store. -/
theorem enterFaulted_channels (c : Channel) (cause : FaultCause) (u : State) :
    ChannelsOnly u (enterFaulted c cause u) ∧ chan (enterFaulted c cause u) c = faultedRecord cause (chan u c) ∧
    (∀ d, d ≠ c → chan (enterFaulted c cause u) d = afterPolicy u c d (chan u d)) ∧
    (enterFaulted c cause u).alerts =
      captured (faultCapture u c) (allChannels.foldl (fun a d => policyAlerts u c d (chan u d) a)
        (raisedAt u u.timeBase .channelFault ⟨.channel, c.val + 1⟩ (faultCauseCode cause) u.alerts)) ∧
    (enterFaulted c cause u).mgmt = placedAll (haltCancels u (chan u c) ++
      allChannels.flatMap fun d => policyAnswers u c d (chan u d)) u.mgmt ∧
    (enterFaulted c cause u).store = (requestTally 2 u).store := by
  obtain ⟨s, heq, hone, hchan, halerts, hmgmt, hstore⟩ := enterFaulted_before_policy c cause u
  obtain ⟨hall, hpolicy, hpalerts, hpmgmt, hpstore⟩ := applyPolicy_channels c s
  have own : ∀ r, ¬backsUp u c c r := fun r hb => hb.2.1 rfl
  have halertsOf : (fun a d => policyAlerts s c d (chan s d) a) = fun a d => policyAlerts u c d (chan u d) a := by
    funext a d
    rw [policyAlerts_congr hone.toChannelsOnly]
    by_cases hd : d = c
    · rw [hd, policyAlerts, if_neg (own _), policyAlerts, if_neg (own _)]
    · rw [hone.others d hd]
  have hanswersOf : (fun d => policyAnswers s c d (chan s d)) = fun d => policyAnswers u c d (chan u d) := by
    funext d
    rw [policyAnswers_congr hone.toChannelsOnly]
    by_cases hd : d = c
    · rw [hd, policyAnswers, if_neg (own _), policyAnswers, if_neg (own _)]
    · rw [hone.others d hd]
  rw [heq]
  refine ⟨hone.toChannelsOnly.trans hall, ?_, fun d hd => ?_, ?_, ?_, hpstore.trans hstore⟩
  · rw [hpolicy, afterPolicy_congr hone.toChannelsOnly, afterPolicy, if_neg (own _), hchan]
  · rw [hpolicy, afterPolicy_congr hone.toChannelsOnly, hone.others d hd]
  · rw [hpalerts, halertsOf, halerts, faultAlerts,
      foldl_raises_captured _ _ fun a d => policyAlerts_captured u c d (chan u d) _ a]
  · rw [hpmgmt, hanswersOf, hmgmt, placedAll_append]

end Sys2Proof.Machine
end

section
/-! Driver status records and the faults they bring (R34, R50, R51, R55). -/

namespace Sys2Proof.Machine

open Sys2Proof

/-! ### The entry into FAULTED beside the valve command port -/

section ValvePort

variable (f : ValvePort → ValvePort)

theorem cancelPendingHalt_onValve (c : Channel) (s : State) :
    cancelPendingHalt c (s.onValve f) = (cancelPendingHalt c s).onValve f := by
  unfold cancelPendingHalt endPendingHalt
  rw [show chan (s.onValve f) c = chan s c from rfl]
  cases (chan s c).haltPending with
  | none => rfl
  | some h => rfl

theorem sympathyBackup_onValve (c : Channel) (s : State) :
    sympathyBackup c (s.onValve f) = (sympathyBackup c s).onValve f := by
  unfold sympathyBackup
  rw [show chan (s.onValve f) c = chan s c from rfl]
  cases (chan s c).state with
  | active => exact cancelPendingHalt_onValve f c (s.onChannel c (goTo .backup (some .sympathy)))
  | hold => exact cancelPendingHalt_onValve f c (s.onChannel c (goTo .backup (some .sympathy)))
  | halted => exact cancelPendingHalt_onValve f c ((raiseAbandoned c s).onChannel c (goTo .backup (some .sympathy)))
  | start => rfl
  | backup => rfl
  | faulted => rfl

theorem applyPolicy_onValve (c : Channel) (s : State) : applyPolicy c (s.onValve f) = (applyPolicy c s).onValve f := by
  unfold applyPolicy
  rw [show (s.onValve f).tables = s.tables from rfl]
  split
  · refine List.foldl_hom (State.onValve f) fun t d => ?_
    split
    · rfl
    · exact sympathyBackup_onValve f d t
  · rfl

theorem requestTally_onValve (k : Fin 4) (s : State) : requestTally k (s.onValve f) = (requestTally k s).onValve f := by
  unfold requestTally
  rw [show tallyFull (s.onValve f) k = tallyFull s k from rfl, show storeBusy (s.onValve f) = storeBusy s from rfl]
  split
  · rfl
  · split <;> rfl

theorem fillCaptureChannel_onValve (kind : CaptureKind) (c : Channel) (s : State) :
    fillCaptureChannel kind c (s.onValve f) = (fillCaptureChannel kind c s).onValve f := by
  unfold fillCaptureChannel fillCapture
  rw [onValve_alerts]
  cases s.alerts.capture with
  | none => rfl
  | some k => rfl

theorem enterFaulted_onValve (c : Channel) (cause : FaultCause) (s : State) :
    enterFaulted c cause (s.onValve f) = (enterFaulted c cause s).onValve f := by
  unfold enterFaulted
  dsimp only
  have hraise : raiseAlert .channelFault (channelSubject c) (faultCauseCode cause)
      ((s.onValve f).onChannel c fun r => { goTo .faulted none r with cause := some cause }) =
        (raiseAlert .channelFault (channelSubject c) (faultCauseCode cause)
          (s.onChannel c fun r => { goTo .faulted none r with cause := some cause })).onValve f := rfl
  rw [hraise, requestTally_onValve, fillCaptureChannel_onValve, cancelPendingHalt_onValve, applyPolicy_onValve]

end ValvePort

/-! ### The examination of one channel -/

/-- A channel record with its error counter set to the threshold if it is below it (R55). -/
def atThreshold (s : State) (r : ChannelRec) : ChannelRec := { r with errors := max r.errors (t1Threshold s.tables.t1) }

/-- A status record faults a channel of this record: it is assigned, it is not FAULTED, and its driver reports `cause`. -/
abbrev reports (s : State) (bytes : List Byte) (c : Channel) (cause : FaultCause) : Prop :=
  t1Assigned s.tables.t1 c = true ∧ statusCause (driverStatus bytes c) = some cause

theorem examineStatus_of_report {s : State} {bytes : List Byte} {c : Channel} {cause : FaultCause}
    (h : reports s bytes c cause) (hf : (chan s c).state ≠ .faulted) : examineStatus bytes s c =
      enterFaulted c cause (s.onChannel c (atThreshold s)) := by
  unfold examineStatus assigned
  rw [h.2]
  exact (if_pos h.1).trans (if_neg hf)

theorem examineStatus_of_faulted {s : State} {c : Channel} (hf : (chan s c).state = .faulted) (bytes : List Byte) :
    examineStatus bytes s c = s := by
  unfold examineStatus
  split
  · exact ite_eq_right_iff.mpr fun _ => if_pos hf
  · rfl

theorem examineStatus_of_ok {s : State} {bytes : List Byte} {c : Channel}
    (h : t1Assigned s.tables.t1 c = true → driverStatus bytes c = .ok) : examineStatus bytes s c = s := by
  unfold examineStatus assigned
  by_cases ha : t1Assigned s.tables.t1 c = true
  · rw [h ha]
    rfl
  · split
    · exact if_neg ha
    · rfl

/-- What the examination of channel `c` leaves of the others: a FAULTED one stays as it is, and no other becomes so or has
its error counter changed. -/
structure Spares (s t : State) (d : Channel) : Prop where
  faulted : (chan s d).state = .faulted → chan t d = chan s d
  running : (chan s d).state ≠ .faulted → (chan t d).state ≠ .faulted
  errors : (chan t d).errors = (chan s d).errors

theorem Spares.refl (s : State) (d : Channel) : Spares s s d := ⟨fun _ => rfl, id, rfl⟩

theorem Spares.trans {s t u : State} {d : Channel} (h : Spares s t d) (k : Spares t u d) : Spares s u d :=
  ⟨fun hf => (k.faulted (by rw [h.faulted hf]; exact hf)).trans (h.faulted hf), fun hf => k.running (h.running hf),
    k.errors.trans h.errors⟩

theorem spares_of_policy {s t : State} {u : State} {c d : Channel} (h : chan t d = afterPolicy u c d (chan s d)) :
    Spares s t d := by
  unfold afterPolicy at h
  split at h
  · next hb =>
    refine ⟨fun hf => ?_, fun _ => by rw [h]; nofun, by rw [h]; rfl⟩
    exact absurd hb.2.2 (by rw [runs, hf]; simp)
  · exact ⟨fun _ => h, fun hf => by rw [h]; exact hf, by rw [h]⟩

/-- The examination of one channel, told of every channel. -/
theorem examineStatus_channels (bytes : List Byte) (s : State) (c : Channel) : ChannelsOnly s (examineStatus bytes s c) ∧
    (∀ d, d ≠ c → Spares s (examineStatus bytes s c) d) ∧
    ((chan s c).state = .faulted → examineStatus bytes s c = s) ∧
    ∀ cause, reports s bytes c cause → (chan s c).state ≠ .faulted → chan (examineStatus bytes s c) c =
      faultedRecord cause (atThreshold s (chan s c)) := by
  have faults : ∀ cause, reports s bytes c cause → (chan s c).state ≠ .faulted →
      ChannelsOnly s (examineStatus bytes s c) ∧ (∀ d, d ≠ c → Spares s (examineStatus bytes s c) d) ∧
        chan (examineStatus bytes s c) c =
          faultedRecord cause (atThreshold s (chan s c)) :=
    fun cause hr hf => by
    have hcount := OneChannel.onChannel c (atThreshold s) s
    obtain ⟨hall, hown, hothers, -⟩ := enterFaulted_channels c cause
      (s.onChannel c (atThreshold s))
    rw [examineStatus_of_report hr hf]
    refine ⟨hcount.toChannelsOnly.trans hall, fun d hd => ?_, ?_⟩
    · have hrec := hothers d hd
      rw [hcount.others d hd] at hrec
      exact spares_of_policy hrec
    · rw [hown, chan_onChannel_same]
  by_cases hf : (chan s c).state = .faulted
  · rw [examineStatus_of_faulted hf]
    exact ⟨.refl s, fun d _ => .refl s d, fun _ => rfl, fun _ _ hn => absurd hf hn⟩
  · cases hcause : statusCause (driverStatus bytes c) with
    | none =>
      have hsame : examineStatus bytes s c = s := by
        unfold examineStatus
        rw [hcause]
      rw [hsame]
      exact ⟨.refl s, fun d _ => .refl s d, fun _ => rfl, fun _ h => absurd (hcause.symm.trans h.2) nofun⟩
    | some cause =>
      by_cases ha : t1Assigned s.tables.t1 c = true
      · obtain ⟨hall, hothers, -⟩ := faults cause ⟨ha, hcause⟩ hf
        exact ⟨hall, hothers, fun h => absurd h hf, fun cause' h _ => (faults cause' h hf).2.2⟩
      · have hsame : examineStatus bytes s c = s := examineStatus_of_ok fun h => absurd h ha
        rw [hsame]
        exact ⟨.refl s, fun d _ => .refl s d, fun _ => rfl, fun _ h => absurd h.1 ha⟩

/-! ### The examination of all channels -/

section Run

variable (bytes : List Byte) (l : List Channel) (s : State)

theorem examine_channelsOnly : ChannelsOnly s (l.foldl (examineStatus bytes) s) :=
  foldl_keeps (ChannelsOnly s) _ l (fun t c _ h => h.trans (examineStatus_channels bytes t c).1) s (.refl s)

theorem examine_spares {d : Channel} (hd : d ∉ l) : Spares s (l.foldl (examineStatus bytes) s) d :=
  foldl_keeps (fun t => Spares s t d) _ l (fun t c hc h =>
    h.trans ((examineStatus_channels bytes t c).2.1 d fun heq => hd (heq ▸ hc))) s (.refl s d)

/-- A channel that is FAULTED stays as it is. -/
theorem examine_faulted {c : Channel} (hf : (chan s c).state = .faulted) :
    chan (l.foldl (examineStatus bytes) s) c = chan s c := by
  refine foldl_keeps (fun t => chan t c = chan s c) _ l (fun t d _ h => ?_) s rfl
  have hft : (chan t c).state = .faulted := by rw [h]; exact hf
  obtain ⟨-, hothers, hown, -⟩ := examineStatus_channels bytes t d
  by_cases hd : c = d
  · rw [hown (hd ▸ hft), h]
  · exact ((hothers c hd).faulted hft).trans h

/-- A channel that is reported ends FAULTED, whatever the entries of the channels before it did to it. -/
theorem examine_reported {c : Channel} {cause : FaultCause} (hc : c ∈ l) (hl : l.Nodup) (h : reports s bytes c cause)
    (hf : (chan s c).state ≠ .faulted) : ∃ r : ChannelRec, r.errors = (chan s c).errors ∧
      chan (l.foldl (examineStatus bytes) s) c =
        faultedRecord cause (atThreshold s r) := by
  obtain ⟨before, after, rfl⟩ := List.append_of_mem hc
  have hc : c ∉ before := fun hm =>
    (List.nodup_append.mp hl).2.2 c hm c List.mem_cons_self rfl
  rw [List.foldl_append, List.foldl_cons]
  have hall := examine_channelsOnly bytes before s
  have hspared := examine_spares bytes before s hc
  generalize before.foldl (examineStatus bytes) s = t at hall hspared
  obtain ⟨-, -, -, hown⟩ := examineStatus_channels bytes t c
  have hrec := hown cause (by rw [reports, hall.tables]; exact h) (hspared.running hf)
  rw [atThreshold, hall.tables] at hrec
  refine ⟨chan t c, hspared.errors, ?_⟩
  rw [examine_faulted bytes after _ (by rw [hrec]; rfl), hrec, atThreshold]

/-- Channels that are not reported pass a record by. -/
theorem examine_ok (h : ∀ c ∈ l, t1Assigned s.tables.t1 c = true → driverStatus bytes c = .ok) :
    l.foldl (examineStatus bytes) s = s :=
  foldl_keeps (· = s) _ l (fun t c hc ht => by rw [ht]; exact examineStatus_of_ok (h c hc)) s rfl

/-- Where one channel alone is reported, a record is the examination of that channel. -/
theorem examine_single {c : Channel} (hc : c ∈ l) (hl : l.Nodup)
    (h : ∀ d ∈ l, d ≠ c → t1Assigned s.tables.t1 d = true → driverStatus bytes d = .ok) :
    l.foldl (examineStatus bytes) s = examineStatus bytes s c := by
  obtain ⟨before, after, rfl⟩ := List.append_of_mem hc
  have hdistinct := List.nodup_append.mp hl
  have hbefore : ∀ d ∈ before, d ≠ c := fun d hd => hdistinct.2.2 d hd c List.mem_cons_self
  have hafter : ∀ d ∈ after, d ≠ c := fun d hd heq => (List.nodup_cons.mp hdistinct.2.1).1 (heq ▸ hd)
  rw [List.foldl_append, List.foldl_cons,
    examine_ok bytes before s fun d hd => h d (List.mem_append_left _ hd) (hbefore d hd)]
  refine examine_ok bytes after _ fun d hd => ?_
  rw [(examineStatus_channels bytes s c).1.tables]
  exact h d (List.mem_append_right _ (List.mem_cons_of_mem _ hd)) (hafter d hd)

end Run

/-! ### A status record -/

theorem driverStatusRecord_of_bad {bytes : List Byte} (h : driverStatusOk bytes = false) (s : State) :
    driverStatusRecord bytes s = s.onValve fun v => { v with statusErrors := satInc v.statusErrors } := by
  unfold driverStatusRecord
  rw [h]
  rfl

theorem driverStatusRecord_of_good {bytes : List Byte} (h : driverStatusOk bytes = true) (s : State) :
    driverStatusRecord bytes s = allChannels.foldl (examineStatus bytes) (s.onValve (takeStatus bytes)) := if_pos h

theorem takeStatus_eq (bytes : List Byte) (v : ValvePort) : takeStatus bytes v = { v with
    answered := true
    lastStatus := (takeStatus bytes v).lastStatus
    lateStatus := if v.lastSent = some (bytes.getD 0 0) then v.lateStatus else min (v.lateStatus + 1) 65535 } := by
  simp only [takeStatus, eq_comm, satInc, satAdd]

/-- The record of a status record that is taken (the first part of O18). -/
theorem driverStatusRecord_taken (s : State) {bytes : List Byte} (hok : driverStatusOk bytes = true) :
    let t := driverStatusRecord bytes s
    t.valve = takeStatus bytes s.valve ∧
    (∀ c cause, t1Assigned s.tables.t1 c = true → statusCause (driverStatus bytes c) = some cause →
      (chan s c).state ≠ .faulted → ∃ r : ChannelRec, r.errors = (chan s c).errors ∧
        chan t c = faultedRecord cause (atThreshold s r)) ∧
    (∀ c, (chan s c).state = .faulted → chan t c = chan s c) ∧
    ((∀ c, t1Assigned s.tables.t1 c = true → driverStatus bytes c = .ok) → t = s.onValve (takeStatus bytes)) ∧
    ∀ c cause, t1Assigned s.tables.t1 c = true → statusCause (driverStatus bytes c) = some cause →
      (chan s c).state ≠ .faulted → (∀ d, d ≠ c → t1Assigned s.tables.t1 d = true → driverStatus bytes d = .ok) →
      t = (enterFaulted c cause (s.onChannel c (atThreshold s))).onValve (takeStatus bytes) := by
  rw [driverStatusRecord_of_good hok]
  refine ⟨?_, fun c cause ha hcause hf => ?_, fun c hf => ?_, fun h => ?_, fun c cause ha hcause hf h => ?_⟩
  · exact (examine_channelsOnly bytes allChannels (s.onValve (takeStatus bytes))).frame .valve (by decide)
  · exact examine_reported bytes allChannels (s.onValve (takeStatus bytes)) (mem_allChannels c) allChannels_nodup
      ⟨ha, hcause⟩ hf
  · exact examine_faulted bytes allChannels (s.onValve (takeStatus bytes)) hf
  · exact examine_ok bytes allChannels (s.onValve (takeStatus bytes)) fun c _ => h c
  · have hreport := examineStatus_of_report (s := s.onValve (takeStatus bytes)) (c := c) ⟨ha, hcause⟩ hf
    rw [examine_single bytes allChannels (s.onValve (takeStatus bytes)) (mem_allChannels c) allChannels_nodup
      fun d _ hd => h d hd, hreport, ← enterFaulted_onValve]
    rfl

/-! ### The obligation -/

theorem faultCauseCode_eq (cause : FaultCause) : faultCauseCode cause = match cause with
    | .counter => 0
    | .coilOpen => 1
    | .coilShort => 2
    | .overTemp => 3
    | .deliveredInvalid => 4 := by
  cases cause <;> rfl

/-- The alerts of the fault policy are HALT_ABANDONED of the channels it takes out of HALTED, in order. -/
theorem foldl_policyAlerts (u : State) (c : Channel) (a : Alerts) :
    allChannels.foldl (fun a d => policyAlerts u c d (chan u d) a) a =
      (allChannels.filter fun d => decide (t1PolicyAll u.tables.t1 = true ∧ d ≠ c ∧ (chan u d).state = .halted)).foldl
        (fun a d => raisedAt u u.timeBase .haltAbandoned ⟨.channel, d.val + 1⟩ (chan u d).haltPressure a) a := by
  have hstep : (fun a d => policyAlerts u c d (chan u d) a) = fun a d =>
      if decide (t1PolicyAll u.tables.t1 = true ∧ d ≠ c ∧ (chan u d).state = .halted) = true then
        raisedAt u u.timeBase .haltAbandoned ⟨.channel, d.val + 1⟩ (chan u d).haltPressure a else a := by
    funext a d
    unfold policyAlerts abandonsHalt
    by_cases hh : (chan u d).state = .halted
    · simp [hh, backsUp, runs]
    · simp [hh]
  rw [List.foldl_filter, hstep]

theorem enterFaulted_capture (c : Channel) (cause : FaultCause) (u : State) :
    (u.alerts.capture = none → (enterFaulted c cause u).alerts.capture = some (faultCapture u c) ∧
      (enterFaulted c cause u).alerts.sinceCapture = u.alerts.sinceCapture) ∧
    ∀ k, u.alerts.capture = some k → (enterFaulted c cause u).alerts.capture = some k ∧
      (enterFaulted c cause u).alerts.sinceCapture = min (u.alerts.sinceCapture + 1) 255 := by
  obtain ⟨-, -, -, halerts, -⟩ := enterFaulted_channels c cause u
  have hraise : ∀ a d, (policyAlerts u c d (chan u d) a).capture = a.capture ∧
      (policyAlerts u c d (chan u d) a).sinceCapture = a.sinceCapture := fun a d => by
    unfold policyAlerts abandonsHalt
    split
    · split
      · exact placeAlert_capture _ _ _
      · exact ⟨rfl, rfl⟩
    · exact ⟨rfl, rfl⟩
  obtain ⟨hcapture, hsince⟩ := foldl_raises_capture _ hraise allChannels
    (raisedAt u u.timeBase .channelFault ⟨.channel, c.val + 1⟩ (faultCauseCode cause) u.alerts)
  have hfirst := placeAlert_capture u.timeBase
    ⟨.channelFault, ⟨.channel, c.val + 1⟩, faultCauseCode cause, u.timeBase, false, false⟩ u.alerts
  rw [raisedAt, hfirst.1] at hcapture
  rw [raisedAt, hfirst.2] at hsince
  rw [halerts]
  refine ⟨fun hnone => ?_, fun k hk => ?_⟩
  · obtain ⟨h1, h2⟩ := captured_of_none (k := faultCapture u c) (hcapture.trans hnone)
    exact ⟨h1, h2.trans hsince⟩
  · obtain ⟨h1, h2⟩ := captured_of_some (k := faultCapture u c) (hcapture.trans hk)
    exact ⟨h1, h2.trans (by rw [← hsince])⟩

/-- Settles O18: the run over the channels read channel by channel, and the entry into FAULTED read off its parts. -/
theorem driverStatusFaultsItsChannel : Obligations.DriverStatusFaultsItsChannel := by
  refine ⟨fun s bytes hpowered => ⟨fun hbad => ?_, fun hok => ?_⟩, fun u c cause => ?_⟩
  · rw [exec_powered rfl hpowered, driverStatusRecord_of_bad hbad]
    rfl
  · obtain ⟨hvalve, hreported, hfaulted, hok', hsingle⟩ := driverStatusRecord_taken s hok
    refine ⟨_, exec_powered rfl hpowered, ?_, fun c => ?_, fun c cause ha hcause hf => ?_, hfaulted, fun h => ?_,
      fun c cause ha hcause hf h => ?_, (driverStatusRecord_touches s bytes).within (by decide)⟩
    · rw [hvalve]
      exact takeStatus_eq bytes s.valve
    · rw [hvalve]
      exact quadGet_map _ _ c
    · obtain ⟨r, herrors, hrec⟩ := hreported c cause ha hcause hf
      rw [hrec, ← herrors]
      exact ⟨rfl, rfl, rfl, rfl⟩
    · rw [hok' h]
      exact onValve_touches s _
    · rw [hsingle c cause ha hcause hf h]
      rfl
  · intro t all backed halted code
    obtain ⟨hall, hown, hothers, halerts, hmgmt, hstore⟩ := enterFaulted_channels c cause u
    obtain ⟨hempty, hfilled⟩ := enterFaulted_capture c cause u
    have hcode : code = faultCauseCode cause := (faultCauseCode_eq cause).symm
    refine ⟨hown, fun d hd => ⟨fun hb => (hothers d hd).trans (if_pos hb), fun hb => (hothers d hd).trans (if_neg hb)⟩,
      ?_, hstore, fun hnone => ⟨(hempty hnone).2, ?_⟩, hfilled, fun h hh hquiet hroom => ?_, fun ⟨hquiet, hnone⟩ => ?_,
      (enterFaulted_touches u c cause).within (by decide)⟩
    · rw [hcode]
      refine Eq.trans ?_ (congrArg (fun a : Alerts =>
        { a with capture := t.alerts.capture, sinceCapture := t.alerts.sinceCapture }) (foldl_policyAlerts u c _))
      exact halerts.trans (by rw [captured_beside, ← halerts])
    · rw [show t.alerts.capture = _ from (hempty hnone).1]
      rfl
    · have hanswers : (allChannels.flatMap fun d => policyAnswers u c d (chan u d)) = [] :=
        List.flatMap_eq_nil_iff.mpr fun d _ => if_neg (hquiet d)
      rw [show t.mgmt = _ from hmgmt, hanswers, haltCancels_of_some (Option.mem_def.mp hh)]
      exact congrArg Mgmt.queue (if_pos hroom : placed _ u.mgmt = _)
    · have hanswers : (allChannels.flatMap fun d => policyAnswers u c d (chan u d)) = [] :=
        List.flatMap_eq_nil_iff.mpr fun d _ => by
          rcases hquiet d with hb | hb
          · exact if_neg hb
          · rw [policyAnswers, haltCancels_of_none hb, ite_self]
      rw [show t.mgmt = _ from hmgmt, hanswers, haltCancels_of_none hnone]
      rfl

end Sys2Proof.Machine
end

section
/-! An accepted sample set as a whole: the port record, the end of a loss, and the five blocks (R25, R31, R46, R47). -/

namespace Sys2Proof.Machine

open Sys2Proof

/-! ### The fail-safe state at the end of a loss -/

/-- The fail-safe state while samples arrive (R46). -/
def failSafeOnSamples (s : State) : FailSafe := if s.link.state = .lost then .fsA else .normal

/-- A channel record after the fail-safe state is evaluated while samples arrive (R47). -/
def movedOnSamples (s : State) (c : Channel) (r : ChannelRec) : ChannelRec :=
  if s.arbiter.failSafe = failSafeOnSamples s then r
  else if failSafeOnSamples s = .fsA then channelEntersFsA s c r
  else channelEntersNormal r

theorem failSafeOf_on_samples {s : State} (h : s.sample.loss ≠ .lost) : failSafeOf s = failSafeOnSamples s := if_neg h

theorem evaluateFailSafe_of_same {s : State} (h : s.arbiter.failSafe = failSafeOf s) : evaluateFailSafe s = s :=
  if_pos h.symm

theorem evaluateFailSafe_to_fsA {s : State} (h : failSafeOf s = .fsA) (hne : s.arbiter.failSafe ≠ .fsA) :
    evaluateFailSafe s = s.onArbiter fun a =>
      { a with failSafe := .fsA, channels := quadMap (channelEntersFsA s) a.channels } := by
  unfold evaluateFailSafe
  dsimp only
  rw [h, if_neg (Ne.symm hne)]
  rfl

theorem evaluateFailSafe_to_normal {s : State} (h : failSafeOf s = .normal) (hne : s.arbiter.failSafe ≠ .normal) :
    evaluateFailSafe s = s.onArbiter fun a =>
      { a with failSafe := .normal, channels := quadMap (fun _ r => channelEntersNormal r) a.channels } := by
  unfold evaluateFailSafe
  dsimp only
  rw [h, if_neg (Ne.symm hne)]
  rfl

theorem movedOnSamples_of_same {s : State} (h : s.arbiter.failSafe = failSafeOnSamples s) (c : Channel) (r : ChannelRec) :
    movedOnSamples s c r = r := if_pos h

theorem movedOnSamples_of_changed {s : State} (h : s.arbiter.failSafe ≠ failSafeOnSamples s) (c : Channel)
    (r : ChannelRec) : movedOnSamples s c r =
      if failSafeOnSamples s = .fsA then channelEntersFsA s c r else channelEntersNormal r := if_neg h

theorem evaluateFailSafe_on_samples {s : State} (h : s.sample.loss ≠ .lost) : ChangesOnly [.arbiter] s (evaluateFailSafe s) ∧
    (evaluateFailSafe s).arbiter =
      { s.arbiter with failSafe := failSafeOnSamples s, channels := (evaluateFailSafe s).arbiter.channels } ∧
    ∀ c, chan (evaluateFailSafe s) c = movedOnSamples s c (chan s c) := by
  have hof := failSafeOf_on_samples h
  by_cases hsame : s.arbiter.failSafe = failSafeOnSamples s
  · rw [evaluateFailSafe_of_same (hsame.trans hof.symm)]
    exact ⟨ChangesOnly.nothing _ s, by rw [← hsame], fun c => (movedOnSamples_of_same hsame c _).symm⟩
  · have hmoved := movedOnSamples_of_changed hsame
    cases hnow : failSafeOnSamples s with
    | fsA =>
      rw [hnow] at hof hsame
      rw [evaluateFailSafe_to_fsA hof hsame]
      exact ⟨onArbiter_touches s _, rfl, fun c => (quadGet_map _ _ c).trans (by rw [hmoved, if_pos hnow]; rfl)⟩
    | normal =>
      rw [hnow] at hof hsame
      rw [evaluateFailSafe_to_normal hof hsame]
      refine ⟨onArbiter_touches s _, rfl, fun c => (quadGet_map _ _ c).trans ?_⟩
      rw [hmoved, if_neg (by rw [hnow]; nofun)]
      rfl
    | fsB => exact absurd hnow (by unfold failSafeOnSamples; split <;> nofun)

theorem heldOrFailsafe_iff (r : ChannelRec) :
    heldOrFailsafe r = true ↔ r.state = .hold ∨ (r.state = .backup ∧ r.reason = some .failsafe) := by
  simp only [heldOrFailsafe, Bool.or_eq_true, Bool.and_eq_true, beq_iff_eq]

theorem movedOnSamples_eq (s : State) (c : Channel) (r : ChannelRec) : movedOnSamples s c r =
    if s.arbiter.failSafe = failSafeOnSamples s then r
    else if failSafeOnSamples s = .fsA ∧ t1FsaBackup s.tables.t1 c = true then
      if r.state = .active ∨ r.state = .hold ∨ (r.state = .backup ∧ r.reason = some .failsafe) then
        goTo .backup (some .failsafe) r else r
    else if r.state = .hold ∨ (r.state = .backup ∧ r.reason = some .failsafe) then goTo .start none r else r := by
  unfold movedOnSamples channelEntersFsA channelEntersNormal
  simp only [heldOrFailsafe_iff]
  by_cases hfs : failSafeOnSamples s = .fsA
  · by_cases hb : t1FsaBackup s.tables.t1 c = true
    · simp only [hfs, hb, if_true, and_self]
    · simp only [hfs, hb, if_true, true_and]
  · simp only [hfs, false_and, if_false]

/-! ### The fail-safe state while a set is taken -/

theorem superviseChannel_only (s : State) (c : Channel) : ChannelsOnly s (superviseChannel s c) := by
  by_cases hl : inputLost s c (chan s c)
  · rw [superviseChannel_of_lost hl]
    exact (OneChannel.onChannel c _ s).toChannelsOnly.trans (enterFaulted_channels c _ _).1
  · by_cases hs : strays s c (chan s c)
    · obtain ⟨s1, -, hone, -, heq⟩ := superviseChannel_of_strays hs
      rw [heq]
      split
      · exact hone.toChannelsOnly.trans (enterFaulted_channels c _ _).1
      · exact hone.toChannelsOnly
    · rw [superviseChannel_of_quiet hl hs]
      exact .refl s

theorem halted_only (m : State) : ChannelsOnly m (halted m) := by
  have hsupervise : ChannelsOnly m (allChannels.foldl superviseChannel m) :=
    foldl_keeps (ChannelsOnly m) _ _ (fun t c _ h => h.trans (superviseChannel_only t c)) m (.refl m)
  have hchecked : ChannelsOnly m (checked m) := hsupervise.trans (controlLineChecks_only _)
  exact foldl_keeps (ChannelsOnly m) _ _ (fun t c _ h => h.trans (haltStep_one t c).1.toChannelsOnly) _ hchecked

theorem arbiterTakesSet_failSafe (s : State) : (arbiterTakesSet s).arbiter.failSafe = s.arbiter.failSafe := by
  have hjudged : ChannelsOnly (measured s) (arbiterJudges s) := by
    rw [arbiterJudges_eq]
    exact (halted_only _).trans (leaveStarts_only _)
  have hmeasured : (measured s).arbiter.failSafe = s.arbiter.failSafe := rfl
  have hfs := hjudged.failSafe.trans hmeasured
  rw [arbiterTakesSet, arbiterCommands_arbiter]
  generalize arbiterJudges s = j at hfs
  exact hfs

theorem handSet_failSafe (s : State) : (handSet s).arbiter.failSafe = s.arbiter.failSafe := by
  have keep : ∀ {ps : List Part} {t u : State}, ChangesOnly ps t u → Part.arbiter ∉ ps →
      t.arbiter.failSafe = s.arbiter.failSafe → u.arbiter.failSafe = s.arbiter.failSafe := fun h hp ht => by
    rw [h.arbiter hp, ht]
  exact handSet_keeps (fun t => t.arbiter.failSafe = s.arbiter.failSafe)
    (fun t => keep (spend_touches t) (by decide)) (fun t => keep (estimatorTakesSet_touches t) (by decide))
    (fun t ht => (arbiterTakesSet_failSafe t).trans ht) (fun t => keep (airTakesSet_touches t) (by decide))
    (fun t => keep (rollTakesSet_touches t) (by decide)) (fun t => keep (tyresTakeSet_touches t) (by decide)) rfl

/-- The set is composed into a record at the present time (R32). -/
theorem handSet_composedAt (s : State) : (handSet s).valve.composedAt = some s.timeBase := by
  obtain ⟨u, hu, ht⟩ := handSet_arbiter s
  have hvalve : (handSet s).valve = (arbiterTakesSet u).valve := ht.frame .valve (by decide)
  have hclock : u.timeBase = s.timeBase := hu.frame .clock (by decide)
  obtain ⟨hcomposed, -⟩ := sendRecord_eq (normalRecord u) u.timeBase u.valve
  rw [hvalve, arbiterTakesSet_valve, hcomposed, hclock]

/-! ### The obligation -/

/-- The state in which an accepted set is handed to the five blocks (R25, R31). -/
def beforeTakers (bytes : List Byte) (s : State) : State :=
  if s.sample.loss = .lost then evaluateFailSafe (s.onSample (acceptSet bytes s.timeBase))
  else s.onSample (acceptSet bytes s.timeBase)

theorem takeSet_eq (bytes : List Byte) (s : State) : takeSet bytes s = handSet (beforeTakers bytes s) := rfl

theorem acceptSet_running (bytes : List Byte) (now : Stamp) (p : SamplePort) : (acceptSet bytes now p).loss ≠ .lost := nofun

theorem beforeTakers_frame (bytes : List Byte) (s : State) : ChangesOnly [.sample, .arbiter] s (beforeTakers bytes s) ∧
    (beforeTakers bytes s).sample = acceptSet bytes s.timeBase s.sample := by
  have hport : ChangesOnly [.sample, .arbiter] s (s.onSample (acceptSet bytes s.timeBase)) :=
    (onSample_touches s _).within (by decide)
  unfold beforeTakers
  split
  · obtain ⟨hframe, -⟩ := evaluateFailSafe_on_samples (s := s.onSample (acceptSet bytes s.timeBase))
      (acceptSet_running _ _ _)
    exact ⟨hport.andThen (hframe.within (by decide)), hframe .sample (by decide)⟩
  · exact ⟨hport, rfl⟩

theorem beforeTakers_of_loss (bytes : List Byte) {s : State} (h : s.sample.loss = .lost) :
    (beforeTakers bytes s).arbiter =
      { s.arbiter with failSafe := failSafeOnSamples s, channels := (beforeTakers bytes s).arbiter.channels } ∧
    ∀ c, chan (beforeTakers bytes s) c = movedOnSamples s c (chan s c) := by
  obtain ⟨-, harb, hchan⟩ := evaluateFailSafe_on_samples (s := s.onSample (acceptSet bytes s.timeBase))
    (acceptSet_running _ _ _)
  rw [beforeTakers, if_pos h]
  exact ⟨harb, hchan⟩

/-- Settles O10: the set is handed from the state after the port record and the end of the loss, in an arrangement of the
five blocks. -/
theorem acceptedSetUpdatesThePort : Obligations.AcceptedSetUpdatesThePort := by
  intro s bytes haccepts
  obtain ⟨hframe, hsample⟩ := beforeTakers_frame bytes s
  have hclock : (beforeTakers bytes s).timeBase = s.timeBase := hframe .clock (by decide)
  have hport := takeSet_sample bytes s
  refine ⟨takeSet bytes s, exec_acceptedSet haccepts, ?_, ?_, (takeSet_touches s bytes).within (by decide),
    beforeTakers bytes s, arrange (Config.blockOrder (beforeTakers bytes s).free) setTakers, arrange_perm _ _, rfl,
    hframe, hsample.trans hport.symm, ?_, fun hrunning => ?_, fun hlost => ?_⟩
  · rw [hport]
    rfl
  · rw [takeSet_eq, handSet_composedAt, hclock]
  · rw [takeSet_eq, handSet_failSafe]
  · rw [beforeTakers, if_neg hrunning]
    rfl
  · obtain ⟨harb, hchan⟩ := beforeTakers_of_loss bytes hlost
    exact ⟨harb, fun c => (hchan c).trans (movedOnSamples_eq s c _)⟩

end Sys2Proof.Machine
end

section
/-! The declaration of SAMPLE_LOST: the port, the arbiter, the roll monitor and the air supervisor (R30, R46, R47, R83, R94). -/

namespace Sys2Proof.Machine

open Sys2Proof

/-! ### The entry into FS_B -/

/-- A channel record after the entry into FS_B (R47). -/
def enteredFsB (s : State) (c : Channel) (r : ChannelRec) : ChannelRec :=
  if r.state = .active ∨ r.state = .halted then
    if t1FsbHold s.tables.t1 c = true then
      { goHold (if r.state = .active then r.cmdTarget else min r.haltPressure r.ceiling) s.timeBase r with
        haltPending := none }
    else { goTo .backup (some .failsafe) r with haltPending := none }
  else { r with haltPending := none }

theorem enteredFsB_congr {s t : State} (h : ChannelsOnly s t) (c : Channel) (r : ChannelRec) :
    enteredFsB t c r = enteredFsB s c r := by
  unfold enteredFsB
  rw [h.tables, h.clock]

/-- A channel that leaves its state for FS_B, before its pending halt is cancelled. -/
theorem leaveForFsB_one {c : Channel} {s t : State} (held : Nat) (ht : t = cancelPendingHalt c
      (s.onChannel c (if t1FsbHold s.tables.t1 c then goHold held s.timeBase else goTo .backup (some .failsafe)))) :
    OneChannel c s t ∧ chan t c = (if t1FsbHold s.tables.t1 c = true then
        { goHold held s.timeBase (chan s c) with haltPending := none }
      else { goTo .backup (some .failsafe) (chan s c) with haltPending := none }) ∧
    t.alerts = s.alerts ∧ t.mgmt = placedAll (haltCancels s (chan s c)) s.mgmt := by
  rw [ht]
  split
  · obtain ⟨hone, hchan, halerts, hmgmt, -⟩ := cancelPendingHalt_one c (s.onChannel c (goHold held s.timeBase))
    rw [chan_onChannel_same] at hchan hmgmt
    exact ⟨(OneChannel.onChannel c _ s).trans hone, hchan, halerts, hmgmt⟩
  · obtain ⟨hone, hchan, halerts, hmgmt, -⟩ := cancelPendingHalt_one c (s.onChannel c (goTo .backup (some .failsafe)))
    rw [chan_onChannel_same] at hchan hmgmt
    exact ⟨(OneChannel.onChannel c _ s).trans hone, hchan, halerts, hmgmt⟩

theorem channelEntersFsB_of_resting {s : State} {c : Channel} (ha : (chan s c).state ≠ .active)
    (hh : (chan s c).state ≠ .halted) : channelEntersFsB c s = cancelPendingHalt c s := by
  unfold channelEntersFsB
  dsimp only
  split
  case h_1 h => exact absurd h ha
  case h_2 h => exact absurd h hh
  all_goals rfl

/-- The entry of one channel into FS_B, told of its record, the alerts and the answers. -/
theorem channelEntersFsB_one (c : Channel) (s : State) : OneChannel c s (channelEntersFsB c s) ∧
    chan (channelEntersFsB c s) c = enteredFsB s c (chan s c) ∧
    (channelEntersFsB c s).alerts = abandonsHalt s c (chan s c) s.alerts ∧
    (channelEntersFsB c s).mgmt = placedAll (haltCancels s (chan s c)) s.mgmt := by
  by_cases ha : (chan s c).state = .active
  · have hh : (chan s c).state ≠ .halted := by rw [ha]; nofun
    obtain ⟨hone, hchan, halerts, hmgmt⟩ := leaveForFsB_one (s := s) (c := c) (chan s c).cmdTarget
      (show channelEntersFsB c s = _ by simp only [channelEntersFsB, ha])
    rw [enteredFsB, if_pos (.inl ha), if_pos ha, abandonsHalt, if_neg hh]
    exact ⟨hone, hchan, halerts, hmgmt⟩
  · by_cases hh : (chan s c).state = .halted
    · have hraise : ChangesOnly [.alerts] s (raiseAbandoned c s) := raiseAlert_touches s _ _ _
      obtain ⟨hone, hchan, halerts, hmgmt⟩ := leaveForFsB_one (s := raiseAbandoned c s) (c := c)
        (min (chan s c).haltPressure (chan s c).ceiling)
        (show channelEntersFsB c s = _ by simp only [channelEntersFsB, hh])
      rw [chan_frame hraise (by decide)] at hchan hmgmt
      rw [enteredFsB, if_pos (.inr hh), if_neg ha, abandonsHalt, if_pos hh]
      exact ⟨(OneChannel.of_frame hraise (by decide) (by decide)).trans hone, hchan, halerts, hmgmt⟩
    · obtain ⟨hone, hchan, halerts, hmgmt, -⟩ := cancelPendingHalt_one c s
      rw [channelEntersFsB_of_resting ha hh, enteredFsB, if_neg (not_or.mpr ⟨ha, hh⟩), abandonsHalt, if_neg hh]
      exact ⟨hone, hchan, halerts, hmgmt⟩

/-- The entry of all channels into FS_B. -/
theorem channelsEnterFsB (s : State) :
    let t := allChannels.foldl (fun s c => channelEntersFsB c s) s
    ChannelsOnly s t ∧ (∀ c, chan t c = enteredFsB s c (chan s c)) ∧
    t.alerts = allChannels.foldl (fun a c => abandonsHalt s c (chan s c) a) s.alerts ∧
    t.mgmt = placedAll (allChannels.flatMap fun c => haltCancels s (chan s c)) s.mgmt := by
  intro t
  obtain ⟨hall, hin, -, hrun⟩ := foldl_channels (m := s) (before := fun c => chan s c)
    (after := fun c => enteredFsB s c (chan s c)) (π := fun t => (t.alerts, t.mgmt))
    (work := fun c w => (abandonsHalt s c (chan s c) w.1, placedAll (haltCancels s (chan s c)) w.2))
    (f := fun s c => channelEntersFsB c s) (fun u c hu hc => by
      obtain ⟨hone, hchan, halerts, hmgmt⟩ := channelEntersFsB_one c u
      refine ⟨hone, ?_, ?_⟩
      · rw [hchan, hc, enteredFsB_congr hu]
      · rw [halerts, hmgmt, hc, abandonsHalt_congr hu.clock, haltCancels_congr hu.link])
    allChannels_nodup (ChannelsOnly.refl s) fun _ _ => rfl
  rw [← foldl_placedAll]
  exact ⟨hall, fun c => hin c (mem_allChannels c),
    (congrArg Prod.fst hrun).trans (List.foldl_hom Prod.fst (fun _ _ => rfl)).symm,
    (congrArg Prod.snd hrun).trans (List.foldl_hom Prod.snd (fun _ _ => rfl)).symm⟩

/-- The fail-safe state evaluated at a loss of samples (R46, R47). -/
structure EntersFsB (s t : State) : Prop where
  arbiter : t.arbiter = { s.arbiter with failSafe := .fsB, channels := t.arbiter.channels }
  channels : ∀ c, chan t c = if s.arbiter.failSafe = .fsB then chan s c else enteredFsB s c (chan s c)
  alerts : t.alerts = if s.arbiter.failSafe = .fsB then s.alerts
    else allChannels.foldl (fun a c => abandonsHalt s c (chan s c) a) s.alerts
  mgmt : t.mgmt = if s.arbiter.failSafe = .fsB then s.mgmt
    else placedAll (allChannels.flatMap fun c => haltCancels s (chan s c)) s.mgmt

theorem evaluateFailSafe_at_loss {s : State} (h : s.sample.loss = .lost) : EntersFsB s (evaluateFailSafe s) := by
  have hof : failSafeOf s = .fsB := if_pos h
  by_cases hsame : s.arbiter.failSafe = .fsB
  · rw [evaluateFailSafe_of_same (hsame.trans hof.symm)]
    exact ⟨by rw [← hsame], fun c => (if_pos hsame).symm, (if_pos hsame).symm, (if_pos hsame).symm⟩
  · have heq : evaluateFailSafe s = allChannels.foldl (fun s c => channelEntersFsB c s)
        (s.onArbiter fun a => { a with failSafe := .fsB }) := by
      unfold evaluateFailSafe
      dsimp only
      rw [hof, if_neg (Ne.symm hsame)]
    obtain ⟨hall, hchan, halerts, hmgmt⟩ := channelsEnterFsB (s.onArbiter fun a => { a with failSafe := .fsB })
    rw [heq]
    exact ⟨hall.arbiter, fun c => (hchan c).trans (if_neg hsame).symm, halerts.trans (if_neg hsame).symm,
      hmgmt.trans (if_neg hsame).symm⟩

/-! ### The port and the driver demand -/

theorem input_of_lost {s t : State} (h : t.sample = loseSamples s.sample) (i : Fin 16) :
    input t i = loseInput (input s i) := by
  rw [input, h]
  exact gridGet_map _ _ i

theorem loseInput_eq (r : InputRec) : loseInput r = if r.status = .valid ∨ r.status = .held then
    { r with status := .invalid, holdStart := none } else r := by
  unfold loseInput
  cases h : r.status <;> simp

/-- No input is valid after the loss, so that the driver demand is the link's or none (R41). -/
theorem inputValid_of_lost {s t : State} (h : t.sample = loseSamples s.sample) (i : Fin 16) : inputValid t i = false := by
  unfold inputValid
  rw [input_of_lost h]
  unfold loseInput
  cases hs : (input s i).status <;> simp [hs]

theorem derivedDemand_of_lost {s t : State} (h : t.sample = loseSamples s.sample) (hl : t.link = s.link) :
    derivedDemand t = if s.link.state = .fresh ∨ s.link.state = .stale then (s.link.demand, .electric) else (0, .nothing) := by
  have hnone : reading t inputControl = none := reading_none.mpr (inputValid_of_lost h _)
  unfold derivedDemand
  rw [hnone, hl]
  cases hs : s.link.state <;> simp

/-- The declaration up to the driver demand: the port, the raise, the capture record and the demand. -/
def lossNoted (s : State) : State :=
  let t := raiseAlert .sampleLost (blockSubject blockSP) (s.sample.lastSeq.getD 0).toNat (s.onSample loseSamples)
  deriveDemand (fillCaptureBlock .sampleLost (blockSubject blockSP) t)

theorem declareLoss_eq (s : State) : declareLoss s = airTakesLoss (rollTakesLoss (evaluateFailSafe (lossNoted s))) := rfl

/-- SAMPLE_LOST raised at the sample port (R30). -/
def lossAlert (s : State) : Alerts :=
  raisedAt s s.timeBase .sampleLost ⟨.block, 1⟩ (s.sample.lastSeq.getD 0).toNat s.alerts

theorem lossNoted_parts (s : State) : ChangesOnly [.sample, .arbiter, .alerts] s (lossNoted s) ∧
    (lossNoted s).sample = loseSamples s.sample ∧
    (let electric := s.link.state = .fresh ∨ s.link.state = .stale
     (lossNoted s).arbiter = { s.arbiter with
       demand := if electric then s.link.demand else 0, source := if electric then .electric else .nothing }) ∧
    ∃ k : Capture, (k.kind, k.subject, k.time, k.commanded, k.delivered) = (.sampleLost, ⟨.block, 1⟩, s.timeBase, 0, 0) ∧
      (lossNoted s).alerts = captured k (lossAlert s) := by
  unfold lossNoted
  dsimp only
  generalize ht : raiseAlert _ _ _ _ = t
  have hframe : ChangesOnly [.sample, .alerts] s t := ht ▸
    ((onSample_touches s _).within (by decide)).andThen ((raiseAlert_touches _ _ _ _).within (by decide))
  have hsample : t.sample = loseSamples s.sample := ht ▸ rfl
  have halerts : t.alerts = lossAlert s := ht ▸ rfl
  clear ht
  generalize hu : fillCaptureBlock _ _ t = u
  have hfill : ChangesOnly [.alerts] t u := hu ▸ fillCaptureBlock_touches t _ _
  have hualerts : u.alerts = captured (captureRecord .sampleLost ⟨.block, 1⟩ 0 0 t) (lossAlert s) := by
    rw [← hu, ← halerts]
    exact fillCapture_alerts _ _ _ _ t
  clear hu
  have hu : ChangesOnly [.sample, .alerts] s u := hframe.andThen (hfill.within (by decide))
  have hdemand := derivedDemand_of_lost (Eq.trans (hfill .sample (by decide)) hsample) (hu .link (by decide))
  refine ⟨(hu.within (by decide)).andThen ((deriveDemand_touches u).within (by decide)),
    Eq.trans (hfill .sample (by decide)) hsample, ?_, captureRecord .sampleLost ⟨.block, 1⟩ 0 0 t, ?_, hualerts⟩
  · show Arbiter.mk .. = _
    rw [hdemand, hu.arbiter (by decide)]
    split
    · rfl
    · rfl
  · exact congrArg (fun x : Stamp => (CaptureKind.sampleLost, (⟨.block, 1⟩ : Subject), x, 0, 0)) (hframe .clock (by decide))

/-! ### The roll monitor and the air supervisor -/

theorem goIdle_roll (s : State) : (goIdle s).roll =
      { leavingRoll s s.roll with state := .idle, timer := none, contributions := Quad.const 0, stretch := 0 } ∧
    (goIdle s).air = leavingAir s := by
  unfold goIdle leaveTest leavingRoll leavingAir
  split
  · exact ⟨rfl, rfl⟩
  · exact ⟨rfl, rfl⟩

theorem rollTakesLoss_eq (s : State) : (rollTakesLoss s).roll = { leavingRoll s s.roll with
      state := .idle, timer := none, contributions := Quad.const 0, stretch := 0, suspended := true
      aborts := if s.roll.state = .test then min (s.roll.aborts + 1) 65535 else s.roll.aborts } ∧
    (rollTakesLoss s).air = leavingAir s := by
  unfold rollTakesLoss abortToIdle
  by_cases ht : s.roll.state = .test
  · have hcounted : (s.onRoll fun r => { r with aborts := satInc r.aborts }).roll.state = .test := ht
    obtain ⟨hroll, hair⟩ := goIdle_roll (s.onRoll fun r => { r with aborts := satInc r.aborts })
    rw [leavingAir, if_pos hcounted] at hair
    rw [if_pos ht, if_pos ht, onRoll_roll, onRoll_air, hroll, hair, leavingRoll, if_pos hcounted, leavingRoll, if_pos ht,
      leavingAir, if_pos ht]
    exact ⟨rfl, rfl⟩
  · obtain ⟨hroll, hair⟩ := goIdle_roll s
    rw [if_neg ht, if_neg ht, onRoll_roll, onRoll_air, hroll, hair]
    unfold leavingRoll
    rw [if_neg ht]
    exact ⟨rfl, rfl⟩

theorem leavingRoll_congr {s t : State} (h : t.roll = s.roll) (r : Roll) : leavingRoll t r = leavingRoll s r := by
  rw [leavingRoll, h, leavingRoll]

theorem leavingAir_congr {s t : State} (h : t.roll = s.roll) (ha : t.air = s.air) : leavingAir t = leavingAir s := by
  rw [leavingAir, h, ha, leavingAir]

/-! ### The obligation -/

/-- The alerts of the entry into FS_B are HALT_ABANDONED of the HALTED channels, in order. -/
theorem foldl_abandonsHalt (s : State) (a : Alerts) : allChannels.foldl (fun a c => abandonsHalt s c (chan s c) a) a =
    (allChannels.filter fun c => (chan s c).state == .halted).foldl
      (fun a c => raisedAt s s.timeBase .haltAbandoned ⟨.channel, c.val + 1⟩ (chan s c).haltPressure a) a := by
  simp only [List.foldl_filter, abandonsHalt, beq_iff_eq]

theorem abandonsHalt_capture (s : State) (c : Channel) (r : ChannelRec) (a : Alerts) :
    (abandonsHalt s c r a).capture = a.capture ∧ (abandonsHalt s c r a).sinceCapture = a.sinceCapture := by
  unfold abandonsHalt
  split
  · exact placeAlert_capture _ _ _
  · exact ⟨rfl, rfl⟩

/-- The raises of a declaration: SAMPLE_LOST, and HALT_ABANDONED of the HALTED channels when FS_B is entered. -/
def lossRaises (s : State) : Alerts :=
  if s.arbiter.failSafe = .fsB then lossAlert s
  else allChannels.foldl (fun a c => abandonsHalt s c (chan s c) a) (lossAlert s)

theorem lossRaises_capture (s : State) : (lossRaises s).capture = s.alerts.capture ∧
    (lossRaises s).sinceCapture = s.alerts.sinceCapture := by
  have hfirst : (lossAlert s).capture = s.alerts.capture ∧ (lossAlert s).sinceCapture = s.alerts.sinceCapture :=
    placeAlert_capture _ _ _
  unfold lossRaises
  split
  · exact hfirst
  · obtain ⟨hcapture, hsince⟩ := foldl_raises_capture _ (fun a c => abandonsHalt_capture s c (chan s c) a) allChannels
      (lossAlert s)
    exact ⟨hcapture.trans hfirst.1, hsince.trans hfirst.2⟩

theorem lossRaises_eq (s : State) :
    let last : Nat := match s.sample.lastSeq with
      | some n => n.toNat
      | none => 0
    let lost := raisedAt s s.timeBase .sampleLost ⟨.block, 1⟩ last s.alerts
    lossRaises s = if s.arbiter.failSafe ≠ .fsB then (allChannels.filter fun c => (chan s c).state == .halted).foldl
      (fun a c => raisedAt s s.timeBase .haltAbandoned ⟨.channel, c.val + 1⟩ (chan s c).haltPressure a) lost else lost := by
  intro last lost
  have hlost : lossAlert s = lost := by
    unfold lossAlert lost last
    cases s.sample.lastSeq with
    | none => rfl
    | some n => rfl
  rw [lossRaises, foldl_abandonsHalt, hlost, ite_not]

/-- What the declaration makes of the arbiter, the channels, the alerts and the answers. -/
structure DeclaresLoss (s t : State) : Prop where
  arbiter : t.arbiter = { s.arbiter with
    channels := t.arbiter.channels, failSafe := .fsB
    demand := if s.link.state = .fresh ∨ s.link.state = .stale then s.link.demand else 0
    source := if s.link.state = .fresh ∨ s.link.state = .stale then .electric else .nothing }
  channels : ∀ c, chan t c = if s.arbiter.failSafe = .fsB then chan s c else enteredFsB s c (chan s c)
  alerts : ∃ k : Capture,
    (k.kind, k.subject, k.time, k.commanded, k.delivered) = (.sampleLost, ⟨.block, 1⟩, s.timeBase, 0, 0) ∧
      t.alerts = captured k (lossRaises s)
  mgmt : t.mgmt = if s.arbiter.failSafe = .fsB then s.mgmt
    else placedAll (allChannels.flatMap fun c => haltCancels s (chan s c)) s.mgmt

theorem declaresLoss_arbiter (s : State) : DeclaresLoss s (evaluateFailSafe (lossNoted s)) := by
  obtain ⟨hframe, hsample, harb, k, hk, halerts⟩ := lossNoted_parts s
  have hloss : (lossNoted s).sample.loss = .lost := by rw [hsample]; rfl
  obtain ⟨harb', hchan', halerts', hmgmt'⟩ := evaluateFailSafe_at_loss hloss
  generalize lossNoted s = u at *
  have hfs : u.arbiter.failSafe = s.arbiter.failSafe := (congrArg Arbiter.failSafe harb :)
  have hchan : ∀ c, chan u c = chan s c := fun c => (congrArg (fun a : Arbiter => quadGet a.channels c) harb :)
  have hclock : u.timeBase = s.timeBase := hframe .clock (by decide)
  have hentered : ∀ c r, enteredFsB u c r = enteredFsB s c r := fun c r => by
    unfold enteredFsB
    rw [hclock, show u.tables = s.tables from hframe .tables (by decide)]
  have habandons : ∀ c r a, abandonsHalt u c r a = abandonsHalt s c r a := abandonsHalt_congr hclock
  have hcancels : ∀ r, haltCancels u r = haltCancels s r := haltCancels_congr (hframe .link (by decide))
  have hmgmt : u.mgmt = s.mgmt := hframe .mgmt (by decide)
  refine ⟨?_, fun c => ?_, ⟨k, hk, ?_⟩, ?_⟩
  · rw [harb', harb]
  · rw [hchan', hfs, hchan, hentered]
  · rw [halerts', hfs, halerts, lossRaises]
    simp only [hchan, habandons]
    split
    · rfl
    · exact foldl_raises_captured k _ (fun a c => abandonsHalt_captured s c (chan s c) k a) _ _
  · simp only [hmgmt', hfs, hmgmt, hchan, hcancels]

/-- Settles O15: the declaration is followed through the port, the arbiter, the roll monitor and the air supervisor. -/
theorem sampleLossIsDeclaredWhole : Obligations.SampleLossIsDeclaredWhole := by
  intro s st hpowered hloss hstart
  have hexec : exec .lossTimerExpiry s = .next (lossTimerExpiry s) := exec_powered rfl hpowered
  refine ⟨fun hearly => ?_, fun hlate => ?_⟩
  · have hnot : lossExpired s = false := by
      rw [← Bool.not_eq_true, lossExpired_iff]
      rintro ⟨-, a, ha, hle⟩
      rw [hstart, Option.mem_some_iff] at ha
      subst ha
      omega
    rw [hexec, lossTimerExpiry, hnot]
    rfl
  · have hdue : lossExpired s = true := (lossExpired_iff s).mpr ⟨hloss, st, hstart, hlate⟩
    have htouch := lossTimerExpiry_touches s
    obtain ⟨harb, hchan, ⟨k, hk, halerts⟩, hmgmt⟩ := declaresLoss_arbiter s
    obtain ⟨hnoted, hsample, -⟩ := lossNoted_parts s
    have heval := evaluateFailSafe_touches (lossNoted s)
    have heq : lossTimerExpiry s = airTakesLoss (rollTakesLoss (evaluateFailSafe (lossNoted s))) := by
      rw [lossTimerExpiry, if_pos hdue, declareLoss_eq]
    rw [hexec]
    generalize lossTimerExpiry s = t at *
    generalize evaluateFailSafe (lossNoted s) = u at *
    have hend : ChangesOnly [.air, .roll] u t := heq ▸
      (rollTakesLoss_touches u).andThen ((airTakesLoss_touches _).within (by decide))
    have hroll : u.roll = s.roll := Eq.trans (heval .roll (by decide)) (hnoted .roll (by decide))
    have hair : u.air = s.air := Eq.trans (heval .air (by decide)) (hnoted .air (by decide))
    have hport : t.sample = loseSamples s.sample :=
      Eq.trans (hend .sample (by decide)) (Eq.trans (heval .sample (by decide)) hsample)
    have htarb : t.arbiter = u.arbiter := hend.arbiter (by decide)
    have htalerts : t.alerts = captured k (lossRaises s) := Eq.trans (hend .alerts (by decide)) halerts
    have htmgmt : t.mgmt = _ := Eq.trans (hend .mgmt (by decide)) hmgmt
    obtain ⟨hcapture, hsince⟩ := lossRaises_capture s
    obtain ⟨hrollLoss, hairLoss⟩ := rollTakesLoss_eq u
    refine ⟨t, rfl, ?_, fun i => ?_, ⟨?_, fun c => ?_, ?_, fun hroom => ?_⟩, ?_, fun hnone => ?_, fun x hx => ?_, ⟨?_, ?_⟩,
      htouch⟩
    · rw [hport]
      rfl
    · rw [input_of_lost hport, loseInput_eq]
    · rw [htarb, harb]
    · rw [chan_frame hend (by decide), hchan]
      simp only [ne_eq, not_not]
      rfl
    · rw [htalerts]
      exact (captured_beside k _).trans (congrArg (fun a : Alerts => { a with
        capture := (captured k (lossRaises s)).capture, sinceCapture := (captured k (lossRaises s)).sinceCapture })
        (lossRaises_eq s))
    · rw [htmgmt]
      by_cases hfs : s.arbiter.failSafe = .fsB
      · rw [if_pos hfs, if_neg (not_not_intro hfs)]
      · rw [if_neg hfs, if_pos hfs, flatMap_haltCancels]
        exact (placedAll_queue _ hroom).1
    · rw [htalerts]
      rfl
    · obtain ⟨hcaptured, hsame⟩ := captured_of_none (k := k) (hcapture.trans hnone)
      rw [htalerts, hcaptured, hsame, hsince]
      exact ⟨rfl, congrArg some hk⟩
    · obtain ⟨hcaptured, hcounted⟩ := captured_of_some (k := k) (hcapture.trans hx)
      rw [htalerts, hcaptured, hcounted, hsince]
      exact ⟨rfl, rfl⟩
    · rw [leavingRoll_congr hroll, hroll] at hrollLoss
      rw [heq]
      exact hrollLoss
    · rw [leavingAir_congr hroll hair] at hairLoss
      rw [heq, airTakesLoss, onAir_air, hairLoss]
      rw [show (leavingAir s).state = s.air.state by unfold leavingAir; split <;> rfl]

end Sys2Proof.Machine
end

section
/-! What a functional reset ends: pending halts, the learning session and the store's operation (R172, R175 to R180). -/

namespace Sys2Proof.Machine

open Sys2Proof

/-! ### Operations that are cancelled -/

theorem storeRuns_iff (t : Store) (st : StoreState) : storeRuns t st = true ↔ t.state = st ∧ t.ended = false := by
  rw [storeRuns, Bool.and_eq_true, beq_iff_eq, Bool.not_eq_true']

/-- The store's operation is one that a functional reset ends (R175, R176). -/
abbrev storeEnds (t : Store) : Prop :=
  (t.state = .writing ∧ t.ended = false) ∨ (t.state = .erasing ∧ t.ended = false)

theorem storeEnds_iff (t : Store) : (storeRuns t .writing || storeRuns t .erasing) = true ↔ storeEnds t := by
  rw [Bool.or_eq_true, storeRuns_iff, storeRuns_iff]

/-- The answers of a functional reset to what it ends, in their order (R180; log 78). -/
def cancelledWork (s : State) : List (List CanFrame) :=
  (allChannels.filterMap fun c => (chan s c).haltPending.map fun h => [responseFrame s 10 [h.tag, 2, 4]]) ++
    (s.tyres.session.toList.map fun l => [responseFrame s 14 [l.tag, 2, 4]]) ++
    if storeEnds s.store then s.mgmt.storeTag.toList.map fun x => [responseFrame s x.code [x.tag, 2, 4]] else []

theorem cancelHalts (s : State) :
    let t := allChannels.foldl (fun s c => cancelPendingHalt c s) s
    (∀ c, chan t c = { chan s c with haltPending := none }) ∧ t.mgmt = placedAll
      (allChannels.filterMap fun c => (chan s c).haltPending.map fun h => [responseFrame s 10 [h.tag, 2, 4]]) s.mgmt := by
  intro t
  obtain ⟨-, hin, -, hrun⟩ := foldl_channels (m := s) (before := fun c => chan s c)
    (after := fun c => { chan s c with haltPending := none }) (π := State.mgmt)
    (work := fun c m => placedAll (haltCancels s (chan s c)) m) (f := fun s c => cancelPendingHalt c s)
    (fun u c hu hc => by
      obtain ⟨hone, hchan, -, hmgmt, -⟩ := cancelPendingHalt_one c u
      exact ⟨hone, by rw [hchan, hc], by rw [hmgmt, hc, haltCancels_congr hu.link]⟩)
    allChannels_nodup (ChannelsOnly.refl s) fun _ _ => rfl
  rw [← flatMap_haltCancels, ← foldl_placedAll]
  exact ⟨fun c => hin c (mem_allChannels c), hrun⟩

theorem endSession_parts (s : State) : (endSession .cancelled s).tyres = { s.tyres with session := none } ∧
    (endSession .cancelled s).mgmt =
      placedAll (s.tyres.session.toList.map fun l => [responseFrame s 14 [l.tag, 2, 4]]) s.mgmt := by
  unfold endSession
  cases h : s.tyres.session with
  | none => exact ⟨show s.tyres = { s.tyres with session := none } by rw [← h], rfl⟩
  | some l => exact ⟨rfl, rfl⟩

theorem completeStore_mgmt (s : State) : (completeStore .cancelled s).mgmt =
    { placedAll (s.mgmt.storeTag.toList.map fun x => [responseFrame s x.code [x.tag, 2, 4]]) s.mgmt with
      storeTag := none } := by
  unfold completeStore
  cases h : s.mgmt.storeTag with
  | none => exact show s.mgmt = { s.mgmt with storeTag := none } by rw [← h]
  | some x =>
    rw [answer_mgmt]
    show placed _ { s.mgmt with storeTag := none } = { placed _ s.mgmt with storeTag := none }
    unfold placed
    split
    · rfl
    · rfl

/-- What the answers to the ended operations make of the channels, the tyre table and the management engine. -/
structure EndsOperations (s t : State) : Prop where
  frame : ChangesOnly [.arbiter, .tyres, .mgmt] s t
  channels : ∀ c, chan t c = { chan s c with haltPending := none }
  tyres : t.tyres = { s.tyres with session := none }
  mgmt : t.mgmt = { placedAll (cancelledWork s) s.mgmt with
    storeTag := if storeEnds s.store then none else s.mgmt.storeTag }

theorem cancelOperations_ends (s : State) : EndsOperations s (cancelOperations s) := by
  have hframe := cancelOperations_touches s
  have hhaltsFrame : ChangesOnly [.arbiter, .mgmt] s (allChannels.foldl (fun s c => cancelPendingHalt c s) s) :=
    foldl_touches _ _ (fun t c => cancelPendingHalt_touches t c) s
  obtain ⟨hhaltsChan, hhaltsMgmt⟩ := cancelHalts s
  unfold cancelOperations at hframe ⊢
  dsimp only at hframe ⊢
  generalize allChannels.foldl (fun s c => cancelPendingHalt c s) s = u at *
  obtain ⟨hsessionTyres, hsessionMgmt⟩ := endSession_parts u
  have hsessionFrame := endSession_touches u .cancelled
  generalize endSession .cancelled u = v at *
  have huTyres : u.tyres = s.tyres := hhaltsFrame .tyres (by decide)
  have huLink : u.link = s.link := hhaltsFrame .link (by decide)
  have hvLink : v.link = s.link := Eq.trans (hsessionFrame .link (by decide)) huLink
  have hvStore : v.store = s.store := Eq.trans (hsessionFrame .store (by decide)) (hhaltsFrame .store (by decide))
  have hvChan : ∀ c, chan v c = { chan s c with haltPending := none } := fun c => by
    rw [chan_frame hsessionFrame (by decide), hhaltsChan]
  have hvTyres : v.tyres = { s.tyres with session := none } := by rw [hsessionTyres, huTyres]
  have hvMgmt : v.mgmt = placedAll ((allChannels.filterMap fun c =>
      (chan s c).haltPending.map fun h => [responseFrame s 10 [h.tag, 2, 4]]) ++
        s.tyres.session.toList.map fun l => [responseFrame s 14 [l.tag, 2, 4]]) s.mgmt := by
    rw [hsessionMgmt, hhaltsMgmt, placedAll_append, huTyres]
    simp only [responseFrame_congr huLink]
  have hvTag : v.mgmt.storeTag = s.mgmt.storeTag := by
    rw [hvMgmt]
    obtain ⟨q, n, heq⟩ := placedAll_beside ((allChannels.filterMap fun c =>
      (chan s c).haltPending.map fun h => [responseFrame s 10 [h.tag, 2, 4]]) ++
        s.tyres.session.toList.map fun l => [responseFrame s 14 [l.tag, 2, 4]]) s.mgmt
    rw [heq]
  by_cases hends : storeEnds s.store
  · rw [if_pos ((storeEnds_iff _).mpr (hvStore ▸ hends))] at hframe ⊢
    have hstoreFrame := completeStore_touches v .cancelled
    refine ⟨hframe, fun c => ?_, ?_, ?_⟩
    · rw [chan_frame hstoreFrame (by decide), hvChan]
    · exact Eq.trans (hstoreFrame .tyres (by decide)) hvTyres
    · rw [completeStore_mgmt, hvTag, hvMgmt, ← placedAll_append, if_pos hends, cancelledWork, if_pos hends]
      simp only [responseFrame_congr hvLink]
  · rw [if_neg fun h => hends (hvStore ▸ (storeEnds_iff _).mp h)] at hframe ⊢
    refine ⟨hframe, hvChan, hvTyres, ?_⟩
    rw [if_neg hends, cancelledWork, if_neg hends, List.append_nil, ← hvTag, hvMgmt]

/-! ### The nonvolatile store -/

theorem nvAtReset_of_untouched {t : Store} (hw : ¬(t.state = .writing ∧ t.ended = false))
    (he : ¬(t.state = .erasing ∧ t.ended = false)) (n : Nat) : nvAtReset n t = t.nv := by
  unfold nvAtReset
  rw [if_neg (mt (storeRuns_iff t .erasing).mp he), if_neg (mt (storeRuns_iff t .writing).mp hw)]

/-- A tally erase that is abandoned leaves the other blocks as they are (R176). -/
theorem nvAtReset_of_erasing {t : Store} (hwf : Memory.wf t.nv = true) (he : t.state = .erasing ∧ t.ended = false) (n a : Nat)
    (ha : a < 1280 ∨ 1536 ≤ a) : memRead (nvAtReset n t) a = memRead t.nv a := by
  unfold nvAtReset partlyErased
  rw [if_pos ((storeRuns_iff t .erasing).mpr he), memRead_memWriteBytes hwf _ _ (by simp [blockAddr, memorySize])]
  refine if_neg fun h => ?_
  simp only [blockAddr, List.length_map, List.length_range] at h
  omega

/-- A block write that is abandoned leaves no marker, and the other blocks as they are (R175). -/
theorem nvAtReset_of_writing {t : Store} (hwf : Memory.wf t.nv = true) (hr : t.state = .writing ∧ t.ended = false)
    {w : Writing} (hw : t.writing = some w) (n : Nat) : markerPresent (nvAtReset n t) w.block.val = false ∧
      ∀ a, a < 256 * w.block.val ∨ 256 * w.block.val + 256 ≤ a → memRead (nvAtReset n t) a = memRead t.nv a := by
  have hblock : w.block.val < 5 := w.block.isLt
  have hnv : nvAtReset n t = abandonedBlock n w.block.val t.nv := by
    unfold nvAtReset
    rw [if_neg (mt (storeRuns_iff t .erasing).mp fun h => absurd (hr.1.symm.trans h.1) nofun),
      if_pos ((storeRuns_iff t .writing).mpr hr), hw]
  have hlen : ((List.range 255).map (Config.leftByte n) ++ [erasedByte]).length = 256 := by simp
  have hread : ∀ a, memRead (nvAtReset n t) a = if 256 * w.block.val ≤ a ∧ a < 256 * w.block.val + 256 then
      ((List.range 255).map (Config.leftByte n) ++ [erasedByte]).getD (a - 256 * w.block.val) 0 else memRead t.nv a :=
    fun a => by
    rw [hnv, abandonedBlock, memRead_memWriteBytes hwf _ _ (by rw [hlen]; simp only [blockAddr, memorySize]; omega), hlen]
    rfl
  refine ⟨?_, fun a ha => ?_⟩
  · have hmarker : memRead (nvAtReset n t) (blockAddr w.block.val 255) = erasedByte := by
      rw [hread, if_pos (by simp only [blockAddr]; omega), blockAddr, Nat.add_sub_cancel_left]
      simp
    rw [markerPresent, hmarker]
    decide
  · rw [hread, if_neg (by omega)]

/-! ### Tally requests at a store that runs no ended operation -/

/-- A tally request changes nothing of the table store but these fields (R172, R176). -/
def TallyAsked (t t' : Store) : Prop :=
  t' = { t with
    state := t'.state, since := t'.since, pendingTally := t'.pendingTally, tally := t'.tally, discarded := t'.discarded }

theorem TallyAsked.refl (t : Store) : TallyAsked t t := rfl

theorem TallyAsked.trans {t t' t'' : Store} (h : TallyAsked t t') (k : TallyAsked t' t'') : TallyAsked t t'' := by
  unfold TallyAsked at *
  rw [k, h]

theorem TallyAsked.ended {t t' : Store} (h : TallyAsked t t') : t'.ended = t.ended := (congrArg Store.ended h :)

theorem storeOnRequest_asked {t : Store} (h : t.ended = false) (k : Fin 4) (now : Stamp) :
    TallyAsked t (storeOnRequest k now t) := by
  unfold storeOnRequest TallyAsked
  split
  · rfl
  · split
    · rfl
    · simp only [h]

end Sys2Proof.Machine
end

section
/-! The raises of a functional reset: STORE_INCOMPLETE of the load and CHANNEL_FAULT of the channels at their threshold
(R39, R160, R161, R166, R178). -/

namespace Sys2Proof.Machine

open Sys2Proof

/-! ### Raises that each request the capture record -/

/-- A raise followed by a request to fill the capture record. -/
def raisedWith (now : Stamp) (a : Alerts) (e : Alert × Capture) : Alerts := captured e.2 (placeAlert now e.1 a)

/-- The capture record after requests to fill it (R166). -/
def captureAfter (ks : List Capture) : Option Capture → Option Capture
  | some x => some x
  | none => ks.head?

/-- The count of the requests that found the capture record filled (R166). -/
def countAfter (ks : List Capture) (x : Option Capture) (n : Nat) : Nat :=
  (if x = none then ks.drop 1 else ks).foldl (fun n _ => min (n + 1) 255) n

theorem countAfter_of_some (ks : List Capture) (x : Capture) (n : Nat) :
    countAfter ks (some x) n = ks.foldl (fun n _ => min (n + 1) 255) n := by
  rw [countAfter, if_neg nofun]

theorem countAfter_of_none (ks : List Capture) (n : Nat) :
    countAfter ks none n = (ks.drop 1).foldl (fun n _ => min (n + 1) 255) n := by
  rw [countAfter, if_pos rfl]

theorem captureAfter_map {β : Type} (k : β → Capture) (l : List β) (x : Option Capture) :
    captureAfter (l.map k) x = match x with
      | some x => some x
      | none => l.head?.map k := by
  cases x with
  | none => exact List.head?_map
  | some x => rfl

theorem countAfter_map {β : Type} (k : β → Capture) (l : List β) (x : Option Capture) (n : Nat) :
    countAfter (l.map k) x n = (if x = none then l.drop 1 else l).foldl (fun n _ => min (n + 1) 255) n := by
  cases x with
  | none => rw [countAfter_of_none, ← List.map_drop, List.foldl_map, if_pos rfl]
  | some x => rw [countAfter_of_some, List.foldl_map, if_neg nofun]

/-- Raises that each request the capture record fill the queue as raises do, and the capture record by their order. -/
theorem foldl_raisedWith (now : Stamp) (l : List (Alert × Capture)) (a : Alerts) : l.foldl (raisedWith now) a =
    { (l.map Prod.fst).foldl (fun a e => placeAlert now e a) a with
      capture := captureAfter (l.map Prod.snd) a.capture
      sinceCapture := countAfter (l.map Prod.snd) a.capture a.sinceCapture } := by
  induction l generalizing a with
  | nil =>
    cases h : a.capture with
    | none => rw [countAfter_of_none]; exact congrArg (fun x => { a with capture := x }) h
    | some x => rw [countAfter_of_some]; exact congrArg (fun x => { a with capture := x }) h
  | cons e l ih =>
    have hraise : ∀ k (b : Alerts) (e : Alert), placeAlert now e (captured k b) = captured k (placeAlert now e b) :=
      fun k b e => placeAlert_captured now e k b
    obtain ⟨hcapture, hsince⟩ := placeAlert_capture now e.1 a
    rw [List.foldl_cons, ih, raisedWith, foldl_raises_captured e.2 _ (hraise e.2), List.map_cons, List.map_cons,
      List.foldl_cons]
    cases h : a.capture with
    | none =>
      obtain ⟨hfilled, hkept⟩ := captured_of_none (k := e.2) (hcapture.trans h)
      rw [hfilled, hkept, hsince, countAfter_of_some, countAfter_of_none]
      rfl
    | some x =>
      obtain ⟨hkept, hcounted⟩ := captured_of_some (k := e.2) (hcapture.trans h)
      rw [hkept, hcounted, hsince, countAfter_of_some, countAfter_of_some]
      rfl

/-! ### Alerts of one cause and time -/

theorem insertAlert_last {now : Stamp} {new : Alert} {q : List Alert} (h : ∀ e ∈ q, standsBefore now new e = true) :
    insertAlert now new q = q ++ [new] := by
  induction q with
  | nil => rfl
  | cons e q ih =>
    rw [insertAlert, if_pos (h e List.mem_cons_self), ih fun d hd => h d (List.mem_cons_of_mem _ hd), List.cons_append]

/-- Alerts of one cause and time and of different subjects stand in the order in which they are raised (R161). -/
theorem foldl_placeAlert_in_order {now : Stamp} {cause : Cause} (l : List Alert) {q : List Alert} (a : Alerts)
    (hcause : ∀ e ∈ q ++ l, e.cause = cause ∧ e.time = now) (hsubject : (q ++ l).Pairwise fun e d => e.subject ≠ d.subject)
    (hlen : (q ++ l).length ≤ 4) :
    l.foldl (fun a e => placeAlert now e a) { a with queue := q } = { a with queue := q ++ l } := by
  induction l generalizing q with
  | nil => rw [List.append_nil, List.foldl_nil]
  | cons e l ih =>
    have hnext : q ++ e :: l = (q ++ [e]) ++ l := by rw [List.append_assoc, List.singleton_append]
    obtain ⟨he, htime⟩ := hcause e (by simp)
    have hnew : q.any (sameAlert e.cause e.subject) = false := by
      rw [List.any_eq_false]
      intro d hd
      have hne := (List.pairwise_append.mp hsubject).2.2 d hd e List.mem_cons_self
      simp [sameAlert, hne]
    have hroom : q.length < 4 := by
      rw [List.length_append, List.length_cons] at hlen
      omega
    have hbefore : ∀ d ∈ q, standsBefore now e d = true := fun d hd => by
      obtain ⟨hd, hdtime⟩ := hcause d (List.mem_append_left _ hd)
      simp [standsBefore, he, hd, htime, hdtime]
    have hplaced : placeAlert now e { a with queue := q } = { a with queue := q ++ [e] } := by
      unfold placeAlert
      dsimp only
      rw [hnew, if_neg Bool.false_ne_true, if_pos hroom, insertAlert_last hbefore]
    rw [List.foldl_cons, hplaced, hnext]
    rw [hnext] at hcause hsubject hlen
    exact ih hcause hsubject hlen

/-! ### The load -/

/-- STORE_INCOMPLETE of each block of a load that is not good (R178). -/
def loadAlerts (nv : Memory) (now : Stamp) (bs : List Nat) : List Alert :=
  bs.filterMap fun b => (blockFinding nv b).map fun v => ⟨.storeIncomplete, ⟨.storeBlock, b⟩, v, now, false, false⟩

theorem loadAlerts_cons (nv : Memory) (now : Stamp) (b : Nat) (bs : List Nat) : loadAlerts nv now (b :: bs) =
    ((blockFinding nv b).map fun v => ⟨.storeIncomplete, ⟨.storeBlock, b⟩, v, now, false, false⟩ : Option Alert).toList ++
      loadAlerts nv now bs := by
  unfold loadAlerts
  rw [List.filterMap_cons]
  cases blockFinding nv b with
  | none => rfl
  | some v => rfl

theorem loadAlerts_in_order (nv : Memory) (now : Stamp) {n : Nat} (h : n ≤ 4) (a : Alerts) :
    (loadAlerts nv now (List.range n)).foldl (fun a e => placeAlert now e a) { a with queue := [] } =
      { a with queue := loadAlerts nv now (List.range n) } := by
  have hmem : ∀ e ∈ loadAlerts nv now (List.range n), e.cause = .storeIncomplete ∧ e.time = now := fun e he => by
    obtain ⟨b, -, v, -, rfl⟩ : ∃ b ∈ List.range n, ∃ v, blockFinding nv b = some v ∧
        (⟨.storeIncomplete, ⟨.storeBlock, b⟩, v, now, false, false⟩ : Alert) = e := by
      simpa [loadAlerts, List.mem_filterMap] using he
    exact ⟨rfl, rfl⟩
  have hsubject : (loadAlerts nv now (List.range n)).Pairwise fun e d => e.subject ≠ d.subject := by
    refine List.Pairwise.filterMap _ (fun b b' hne e he d hd => ?_) List.nodup_range
    obtain ⟨v, -, rfl⟩ := Option.map_eq_some_iff.mp he
    obtain ⟨v', -, rfl⟩ := Option.map_eq_some_iff.mp hd
    exact fun heq => hne (congrArg Subject.number heq)
  have hlen : (loadAlerts nv now (List.range n)).length ≤ 4 := by
    have hle := List.length_filterMap_le (fun b => (blockFinding nv b).map fun v =>
      (⟨.storeIncomplete, ⟨.storeBlock, b⟩, v, now, false, false⟩ : Alert)) (List.range n)
    rw [List.length_range] at hle
    exact hle.trans h
  exact foldl_placeAlert_in_order _ a hmem hsubject hlen

/-- What the capture record is filled with reads neither the alerts nor the store, nor the channel records. -/
theorem captureRecord_congr {s t : State} (h : ChannelsOnly s t) (kind : CaptureKind) (subject : Subject) (m n : Nat) :
    captureRecord kind subject m n t = captureRecord kind subject m n s := by
  unfold captureRecord inputValue
  rw [h.clock, h.demandLevel, h.inputValid, h.inputValid, h.input, h.input, h.roll]

/-- A raise of the load with the capture record that it requests. -/
def loadEvent (s : State) (e : Alert) : Alert × Capture := (e, captureRecord .storeIncomplete e.subject 0 0 s)

theorem raiseIncomplete_parts (b : Nat) (s : State) :
    (raiseIncomplete b s).alerts = (loadAlerts s.store.nv s.timeBase [b]).foldl
      (fun a e => raisedWith s.timeBase a (loadEvent s e)) s.alerts ∧
    (raiseIncomplete b s).store = { s.store with
      defaults := (loadAlerts s.store.nv s.timeBase [b]).foldl (fun n _ => min (n + 1) 65535) s.store.defaults } := by
  unfold raiseIncomplete
  rw [loadAlerts_cons]
  cases blockFinding s.store.nv b with
  | none => exact ⟨rfl, rfl⟩
  | some v =>
    have hfill : ChangesOnly [.alerts] s (fillCaptureBlock .storeIncomplete (storeSubject b)
        (raiseAlert .storeIncomplete (storeSubject b) v s)) :=
      (raiseAlert_touches s _ _ _).andThen (fillCaptureBlock_touches _ _ _)
    refine ⟨?_, ?_⟩
    · rw [onStore_alerts, fillCaptureBlock, fillCapture_alerts]
      rfl
    · rw [onStore_store, show (fillCaptureBlock .storeIncomplete (storeSubject b)
        (raiseAlert .storeIncomplete (storeSubject b) v s)).store = s.store from hfill .store (by decide)]
      rfl

theorem raiseLoad_parts (bs : List Nat) (s : State) :
    (raiseLoad bs s).alerts = (loadAlerts s.store.nv s.timeBase bs).foldl
      (fun a e => raisedWith s.timeBase a (loadEvent s e)) s.alerts ∧
    (raiseLoad bs s).store = { s.store with
      defaults := (loadAlerts s.store.nv s.timeBase bs).foldl (fun n _ => min (n + 1) 65535) s.store.defaults } := by
  induction bs generalizing s with
  | nil => exact ⟨rfl, rfl⟩
  | cons b bs ih =>
    have hframe : ChangesOnly [.alerts, .store] s (raiseIncomplete b s) := raiseIncomplete_touches s b
    have honly : ChannelsOnly s (raiseIncomplete b s) := .of_frame hframe (by decide) (by decide)
    obtain ⟨halerts, hstore⟩ := raiseIncomplete_parts b s
    obtain ⟨halerts', hstore'⟩ := ih (raiseIncomplete b s)
    have hnv : (raiseIncomplete b s).store.nv = s.store.nv := by rw [hstore]
    have hevent : loadEvent (raiseIncomplete b s) = loadEvent s := by
      funext e
      rw [loadEvent, captureRecord_congr honly, loadEvent]
    have hsplit : loadAlerts s.store.nv s.timeBase (b :: bs) =
        loadAlerts s.store.nv s.timeBase [b] ++ loadAlerts s.store.nv s.timeBase bs := List.filterMap_append (l := [b])
    have hnext : raiseLoad (b :: bs) s = raiseLoad bs (raiseIncomplete b s) := rfl
    rw [hnext, halerts', hstore', hnv, honly.clock, hevent, halerts, hstore, hsplit, List.foldl_append, List.foldl_append]
    exact ⟨rfl, rfl⟩

/-! ### Channels at their threshold -/

/-- No channel is in a state from which the fault policy would take it, and none has a halt pending. -/
def AtRest (s : State) : Prop := ∀ d, ¬runs (chan s d) ∧ (chan s d).haltPending = none

/-- A channel that enters FAULTED by its error counter (R39). -/
abbrev faultsByCount (s : State) (r : ChannelRec) : Prop := r.state ≠ .faulted ∧ t1Threshold s.tables.t1 ≤ r.errors

/-- A record after a channel is judged by its error counter (R39). -/
def judgedByCount (s : State) (r : ChannelRec) : ChannelRec := if faultsByCount s r then faultedRecord .counter r else r

/-- CHANNEL_FAULT of a channel at its threshold with the capture record that it requests. -/
def countEvent (s : State) (c : Channel) : Alert × Capture :=
  (⟨.channelFault, ⟨.channel, c.val + 1⟩, 0, s.timeBase, false, false⟩,
    captureRecord .channelFault ⟨.channel, c.val + 1⟩ (commandedOf s c) (chan s c).delivered s)

/-- The entry into FAULTED of a channel at rest among channels at rest. -/
theorem faultByThreshold_at_rest {s : State} (h : AtRest s) (c : Channel) :
    OneChannel c s (faultByThreshold s c) ∧ chan (faultByThreshold s c) c = judgedByCount s (chan s c) ∧
    (faultByThreshold s c).alerts =
      (if faultsByCount s (chan s c) then raisedWith s.timeBase s.alerts (countEvent s c) else s.alerts) ∧
    (faultByThreshold s c).mgmt = s.mgmt ∧
    (faultByThreshold s c).store = if faultsByCount s (chan s c) then (requestTally 2 s).store else s.store := by
  unfold faultByThreshold judgedByCount
  by_cases hf : faultsByCount s (chan s c)
  · rw [if_pos hf, if_pos hf, if_pos hf, if_pos hf]
    have hnone : ∀ d r, r = chan s d → ¬backsUp s c d r := fun d r hr hb => (h d).1 (hr ▸ hb.2.2)
    obtain ⟨hall, hown, hothers, halerts, hmgmt, hstore⟩ := enterFaulted_channels c .counter s
    have hpolicy : ∀ d ∈ allChannels, ∀ a, policyAlerts s c d (chan s d) a = a := fun d _ a => if_neg (hnone d _ rfl)
    have hanswers : (allChannels.flatMap fun d => policyAnswers s c d (chan s d)) = [] :=
      List.flatMap_eq_nil_iff.mpr fun d _ => if_neg (hnone d _ rfl)
    refine ⟨⟨hall, fun d hd => (hothers d hd).trans (if_neg (hnone d _ rfl))⟩, hown, ?_, ?_, hstore⟩
    · rw [halerts, foldl_idle hpolicy]
      rfl
    · rw [hmgmt, hanswers, haltCancels_of_none (h c).2]
      rfl
  · rw [if_neg hf, if_neg hf, if_neg hf, if_neg hf]
    exact ⟨.refl c s, rfl, rfl, rfl, rfl⟩

theorem AtRest.judged {s t : State} (h : AtRest s) {c : Channel} (hone : OneChannel c s t)
    (hchan : chan t c = judgedByCount s (chan s c)) : AtRest t := by
  intro d
  by_cases hd : d = c
  · rw [hd, hchan, judgedByCount]
    split
    · exact ⟨by simp [runs, faultedRecord, goTo], rfl⟩
    · exact h c
  · rw [hone.others d hd]
    exact h d

/-- The channels of a list that enter FAULTED by their error counters. -/
def faultedByCount (s : State) (l : List Channel) : List Channel :=
  l.filter fun c => decide (faultsByCount s (chan s c))

theorem faultedByCount_concat (s : State) (l : List Channel) (c : Channel) : faultedByCount s (l ++ [c]) =
    faultedByCount s l ++ if faultsByCount s (chan s c) then [c] else [] := by
  rw [faultedByCount, List.filter_append, faultedByCount]
  by_cases hf : faultsByCount s (chan s c)
  · rw [if_pos hf]
    simp [hf]
  · rw [if_neg hf]
    simp [hf]

/-- What the judgement of the channels of a list by their error counters leaves. -/
structure Judges (s : State) (l : List Channel) (t : State) : Prop where
  only : ChannelsOnly s t
  rest : AtRest t
  judged : ∀ c ∈ l, chan t c = judgedByCount s (chan s c)
  others : ∀ d ∉ l, chan t d = chan s d
  alerts : t.alerts = (faultedByCount s l).foldl
    (fun a c => raisedWith s.timeBase a (countEvent s c)) s.alerts
  mgmt : t.mgmt = s.mgmt
  store : s.store.ended = false → TallyAsked s.store t.store
  quiet : faultedByCount s l = [] → t.store = s.store

theorem countEvent_congr {s t : State} (h : ChannelsOnly s t) {c : Channel} (hc : chan t c = chan s c) :
    countEvent t c = countEvent s c := by
  rw [countEvent, captureRecord_congr h, commandedOf, hc, h.clock, countEvent, commandedOf]

theorem judges_channels {s : State} (h : AtRest s) {l : List Channel} (hl : l.Nodup) :
    Judges s l (l.foldl faultByThreshold s) := by
  induction l using List.reverseRecOn with
  | nil => exact ⟨.refl s, h, nofun, fun _ _ => rfl, rfl, rfl, fun _ => .refl _, fun _ => rfl⟩
  | append_singleton l c ih =>
    obtain ⟨hl, -, hdistinct⟩ := List.nodup_append.mp hl
    have hc : c ∉ l := fun hm => hdistinct c hm c List.mem_cons_self rfl
    obtain ⟨only, rest, judged, others, alerts, mgmt, store, quiet⟩ := ih hl
    rw [List.foldl_append, List.foldl_cons, List.foldl_nil]
    generalize l.foldl faultByThreshold s = u at *
    have hsame : chan u c = chan s c := others c hc
    obtain ⟨hone, hchan, halerts, hmgmt, hstore⟩ := faultByThreshold_at_rest rest c
    have hcount : ∀ r, faultsByCount u r ↔ faultsByCount s r := fun r => by rw [faultsByCount, only.tables]
    have hrec : ∀ r, judgedByCount u r = judgedByCount s r := fun r => if_congr (hcount r) rfl rfl
    refine ⟨only.trans hone.toChannelsOnly, rest.judged hone hchan, fun d hd => ?_, fun d hd => ?_, ?_, hmgmt.trans mgmt,
      fun hended => ?_, fun hquiet => ?_⟩
    · rcases List.mem_append.mp hd with hd | hd
      · rw [hone.others d fun heq => hc (heq ▸ hd), judged d hd]
      · rw [List.mem_singleton.mp hd, hchan, hrec, hsame]
    · obtain ⟨hdl, hdc⟩ := not_or.mp (mt List.mem_append.mpr hd)
      rw [hone.others d (mt List.mem_singleton.mpr hdc), others d hdl]
    · rw [halerts, hsame, alerts, faultedByCount_concat, List.foldl_append, only.clock, countEvent_congr only hsame]
      by_cases hf : faultsByCount s (chan s c)
      · rw [if_pos ((hcount _).mpr hf), if_pos hf]
        rfl
      · rw [if_neg (mt (hcount _).mp hf), if_neg hf]
        rfl
    · have hasked := store hended
      rw [hstore]
      split
      · rw [requestTally_store]
        exact hasked.trans (storeOnRequest_asked (hasked.ended.trans hended) _ _)
      · exact hasked
    · rw [faultedByCount_concat] at hquiet
      obtain ⟨hql, hqc⟩ := List.append_eq_nil_iff.mp hquiet
      have hf : ¬faultsByCount s (chan s c) := fun hf => by
        rw [if_pos hf] at hqc
        exact absurd hqc nofun
      rw [hstore, hsame, if_neg (mt (hcount _).mp hf), quiet hql]

end Sys2Proof.Machine
end

section
/-! A functional reset as a whole: what it leaves of each block (R36, R178). -/

namespace Sys2Proof.Machine

open Sys2Proof

/-! ### The blocks before the raises -/

/-- A functional reset up to its raises: the operations are answered and every block takes its after-reset values. -/
def resetReady (s : State) : State :=
  arbiterAfterReset (resetBlocks (cancelOperations (s.onAlerts fun a => { a with queue := [] })))

theorem functionalReset_eq (s : State) :
    functionalReset s = allChannels.foldl faultByThreshold (raiseLoad (List.range 4) (resetReady s)) := rfl

/-- The blocks as a functional reset leaves them before its raises. -/
structure ReadyBlocks (s w : State) : Prop where
  frame : ChangesOnly resetParts s w
  tables : w.tables = loadTables w.store.nv s.tables.t6
  sample : w.sample = samplePortLoaded w.tables.t1 (if s.resetLine then none else some s.timeBase)
  valve : w.valve = valvePortReset
  load : w.load = estimatesLoaded w.tables.t2 s.timeBase
  air : w.air = airReset
  roll : w.roll = rollAtReset s.roll
  rx : w.rx = receiverReset s.rx.carrier
  tyres : w.tyres = tyresAtReset w.tables.t4 (mapOfTable (loadedTable w.store.nv 3 5 t5Default)) s.timeBase s.tyres
  link : w.link = linkAtReset s.timeBase s.link
  channels : ∀ c, chan w c = channelAtReset w.tables.t1 s.straps.startHalted c (chan s c)
  store : w.store = storeAtReset s.free s.timeBase s.store
  alerts : w.alerts = { s.alerts with queue := [] }
  mgmt : w.mgmt = engineAtReset (storeRunsOn s.store) { placedAll (cancelledWork s) s.mgmt with
    storeTag := if storeEnds s.store then none else s.mgmt.storeTag }

theorem resetReady_blocks (s : State) : ReadyBlocks s (resetReady s) ∧
    ∃ v : State, v.sample = (resetReady s).sample ∧ v.link = (resetReady s).link ∧ (resetReady s).arbiter =
      { channels := (resetReady s).arbiter.channels, demand := (derivedDemand v).1, source := (derivedDemand v).2
        failSafe := failSafeOf v, strapHalt := s.straps.startHalted, backupNext := false } := by
  obtain ⟨hframe, hchan, htyres, hmgmt⟩ := cancelOperations_ends (s.onAlerts fun a => { a with queue := [] })
  unfold resetReady
  generalize cancelOperations (s.onAlerts fun a => { a with queue := [] }) = u at *
  have hu : ChangesOnly [.arbiter, .tyres, .alerts, .mgmt] s u :=
    ((onAlerts_touches s _).within (by decide)).andThen (hframe.within (by decide))
  have hclock : u.timeBase = s.timeBase := hu .clock (by decide)
  have hstore : u.store = s.store := hu .store (by decide)
  have hfree : u.free = s.free := hu .free (by decide)
  have hline : u.resetLine = s.resetLine := hu .line (by decide)
  have hroll : u.roll = s.roll := hu .roll (by decide)
  have hrx : u.rx = s.rx := hu .rx (by decide)
  have hlink : u.link = s.link := hu .link (by decide)
  have hstraps : u.straps = s.straps := hu .straps (by decide)
  have htables : u.tables = s.tables := hu .tables (by decide)
  have halerts : u.alerts = { s.alerts with queue := [] } := hframe .alerts (by decide)
  have hderive : ∀ v : State, ChangesOnly [.arbiter] v (arbiterAfterReset v) := fun v =>
    (onArbiter_touches v _).andThen (onArbiter_touches _ _)
  have hw : ChangesOnly resetParts s (arbiterAfterReset (resetBlocks u)) :=
    ((hu.within (by decide)).andThen (resetBlocks_touches u)).andThen ((hderive _).within (by decide))
  refine ⟨⟨hw, ?_, ?_, rfl, ?_, rfl, ?_, ?_, ?_, ?_, fun c => ?_, ?_, halerts, ?_⟩,
    (resetBlocks u).onArbiter fun a => { a with failSafe := failSafeOf (resetBlocks u) }, rfl, rfl, ?_⟩
  · show loadTables _ u.tables.t6 = _
    rw [htables]
    rfl
  · show samplePortLoaded _ (if u.resetLine then none else some u.timeBase) = _
    rw [hline, hclock]
    rfl
  · show estimatesLoaded _ u.timeBase = _
    rw [hclock]
    rfl
  · exact congrArg rollAtReset hroll
  · exact congrArg (fun r : Receiver => receiverReset r.carrier) hrx
  · show tyresAtReset _ _ u.timeBase u.tyres = _
    rw [hclock, htyres]
    rfl
  · show linkAtReset u.timeBase u.link = _
    rw [hclock, hlink]
  · refine (quadGet_map (channelAtReset _ u.straps.startHalted) _ c).trans ?_
    rw [show quadGet u.arbiter.channels c = _ from hchan c, hstraps]
    rfl
  · show storeAtReset u.free u.timeBase u.store = _
    rw [hfree, hclock, hstore]
  · show engineAtReset (storeRunsOn u.store) u.mgmt = _
    rw [hstore, hmgmt]
    rfl
  · show Arbiter.mk _ _ _ _ u.straps.startHalted false = _
    rw [hstraps]
    rfl

/-! ### Inputs, the driver demand and the fail-safe state after it -/

section Inputs

variable {v : State} {t1 : Table} {start : Option Stamp} (h : v.sample = samplePortLoaded t1 start)

include h

theorem input_of_loaded (i : Fin 16) : input v i = inputReset (t1InputEnabled t1 i) := by
  rw [input, h]
  exact gridGet_map _ _ i

/-- After a reset no input is valid and each reads 0. -/
theorem input_unread (i : Fin 16) : inputValid v i = false ∧ inputValue v i = 0 := by
  rw [inputValid, inputValue, input_of_loaded h]
  cases t1InputEnabled t1 i with
  | false => exact ⟨rfl, rfl⟩
  | true => exact ⟨rfl, rfl⟩

theorem derivedDemand_of_loaded : derivedDemand v =
    if v.link.state = .fresh ∨ v.link.state = .stale then (v.link.demand, .electric) else (0, .nothing) := by
  have hnone : reading v inputControl = none := reading_none.mpr (input_unread h _).1
  unfold derivedDemand
  rw [hnone]
  cases v.link.state <;> simp

theorem failSafeOf_of_loaded : failSafeOf v = if v.link.state = .lost then .fsA else .normal := by
  have hloss : v.sample.loss ≠ .lost := by
    rw [h]
    nofun
  exact if_neg hloss

theorem captureRecord_of_loaded (hroll : v.roll.state = .idle) (kind : CaptureKind) (subject : Subject) :
    captureRecord kind subject 0 0 v =
      { kind := kind, subject := subject, time := v.timeBase, demand := demandLevel v, commanded := 0, delivered := 0
        supply := 0, supplyValid := false, reservoir := 0, reservoirValid := false, roll := .idle } := by
  obtain ⟨hsupplyValid, hsupply⟩ := input_unread h inputSupply
  obtain ⟨hreservoirValid, hreservoir⟩ := input_unread h inputReservoir
  rw [captureRecord, hsupplyValid, hsupply, hreservoirValid, hreservoir, hroll]

end Inputs

theorem linkAtReset_eq (now : Stamp) (l : Link) : linkAtReset now l =
    { l with demandTimer := if l.state = .nothing then some ⟨now, 1000⟩ else l.demandTimer } := by
  by_cases h : l.state = .nothing
  · rw [if_pos h, linkAtReset, h]
  · rw [if_neg h]
    unfold linkAtReset
    split
    case h_1 hn => exact absurd hn h
    all_goals rfl

theorem resetReady_arbiter (s : State) :
    (resetReady s).arbiter =
      { channels := (resetReady s).arbiter.channels
        demand := if s.link.state = .fresh ∨ s.link.state = .stale then s.link.demand else 0
        source := if s.link.state = .fresh ∨ s.link.state = .stale then .electric else .nothing
        failSafe := if s.link.state = .lost then .fsA else .normal
        strapHalt := s.straps.startHalted, backupNext := false } := by
  obtain ⟨hblocks, v, hsample, hlink, harb⟩ := resetReady_blocks s
  have hloaded := hsample.trans hblocks.sample
  have hstate : v.link.state = s.link.state ∧ v.link.demand = s.link.demand := by
    rw [hlink, hblocks.link, linkAtReset_eq]
    exact ⟨rfl, rfl⟩
  refine harb.trans ?_
  rw [derivedDemand_of_loaded hloaded, failSafeOf_of_loaded hloaded, hstate.1, hstate.2]
  split
  · rfl
  · rfl

/-! ### The channels after it -/

/-- A channel that has reached its threshold in force (R39). -/
abbrev atLimit (t1 : Table) (r : ChannelRec) : Prop := t1Threshold t1 ≤ r.errors

theorem channelAtReset_state (t1 : Table) (strap : Bool) (c : Channel) (r : ChannelRec) :
    (channelAtReset t1 strap c r).state = (if r.state = .faulted ∧ atLimit t1 r then .faulted else .start) ∧
      (channelAtReset t1 strap c r).errors = r.errors ∧ (channelAtReset t1 strap c r).haltPending = none ∧
      (channelAtReset t1 strap c r).cmdPressure = false ∧ (channelAtReset t1 strap c r).delivered = 0 := by
  unfold channelAtReset
  dsimp only
  split
  · exact ⟨rfl, rfl, rfl, rfl, rfl⟩
  · exact ⟨rfl, rfl, rfl, rfl, rfl⟩

/-- A channel that is at its threshold and was not FAULTED before a reset is the one that enters FAULTED at it. -/
theorem faultsByCount_at_reset (x : State) (strap : Bool) (c : Channel) (r : ChannelRec) :
    faultsByCount x (channelAtReset x.tables.t1 strap c r) ↔ r.state ≠ .faulted ∧ atLimit x.tables.t1 r := by
  obtain ⟨hstate, herrors, -⟩ := channelAtReset_state x.tables.t1 strap c r
  rw [faultsByCount, hstate, herrors]
  by_cases hf : r.state = .faulted
  · by_cases hl : atLimit x.tables.t1 r
    · simp [hf, hl]
    · simp only [hf, ne_eq, not_true, false_and, iff_false, not_and]
      exact fun _ => hl
  · simp [hf]

theorem judgedByCount_at_reset (x : State) (strap : Bool) (c : Channel) (r : ChannelRec) :
    judgedByCount x (channelAtReset x.tables.t1 strap c r) = {
      state := if atLimit x.tables.t1 r then .faulted else .start, reason := none, driverTarget := 0, rollContribution := 0
      emergency := 0, haltPressure := 0, derate := 4096, ceiling := t1PMax x.tables.t1 c, cmdPressure := false
      cmdTarget := 0, delivered := 0, deviation := none, holdTimer := none, heldTarget := 0, errors := r.errors
      cause := if ¬atLimit x.tables.t1 r then none else if r.state = .faulted then r.cause else some .counter
      haltPending := none, strapPending := strap } := by
  unfold judgedByCount
  rw [if_congr (faultsByCount_at_reset x strap c r) rfl rfl]
  unfold channelAtReset
  dsimp only
  by_cases hl : atLimit x.tables.t1 r
  · by_cases hf : r.state = .faulted
    · rw [if_neg fun h => h.1 hf, if_pos ⟨hf, hl⟩, if_pos hl, if_neg (not_not_intro hl), if_pos hf]
      rfl
    · rw [if_pos ⟨hf, hl⟩, if_neg fun h => hf h.1, if_pos hl, if_neg (not_not_intro hl), if_neg hf]
      rfl
  · rw [if_neg fun h => hl h.2, if_neg fun h => hl h.2, if_neg hl, if_pos hl]
    rfl

/-! ### The reset with its raises -/

/-- The state of a functional reset after the raises of the load. -/
def resetLoaded (s : State) : State := raiseLoad (List.range 4) (resetReady s)

/-- The raises of the load leave everything but the alerts and the count of defaults. -/
theorem resetLoaded_parts (s : State) : ChangesOnly [.alerts, .store] (resetReady s) (resetLoaded s) ∧
    (resetLoaded s).alerts = (loadAlerts (nvAtReset s.free s.store) s.timeBase (List.range 4)).foldl
      (fun a e => raisedWith s.timeBase a (loadEvent (resetReady s) e)) { s.alerts with queue := [] } ∧
    (resetLoaded s).store = { storeAtReset s.free s.timeBase s.store with
      defaults := (loadAlerts (nvAtReset s.free s.store) s.timeBase (List.range 4)).foldl (fun n _ => min (n + 1) 65535)
        s.store.defaults } := by
  obtain ⟨hblocks, -⟩ := resetReady_blocks s
  obtain ⟨halerts, hstore⟩ := raiseLoad_parts (List.range 4) (resetReady s)
  have hclock : (resetReady s).timeBase = s.timeBase := hblocks.frame .clock (by decide)
  rw [hblocks.store, hclock] at halerts hstore
  rw [hblocks.alerts] at halerts
  exact ⟨raiseLoad_touches _ _, halerts, hstore⟩

theorem resetLoaded_rest (s : State) : AtRest (resetLoaded s) := by
  obtain ⟨hblocks, -⟩ := resetReady_blocks s
  obtain ⟨hframe, -⟩ := resetLoaded_parts s
  intro d
  rw [chan_frame hframe (by decide), hblocks.channels]
  obtain ⟨hstate, -, hpending, -⟩ := channelAtReset_state (resetReady s).tables.t1 s.straps.startHalted d (chan s d)
  refine ⟨?_, hpending⟩
  rw [runs, hstate]
  split <;> simp

theorem functionalReset_judges (s : State) : Judges (resetLoaded s) allChannels (functionalReset s) := by
  rw [functionalReset_eq]
  exact judges_channels (resetLoaded_rest s) allChannels_nodup

/-- What the raises change of the blocks beside the arbiter, the alerts, the answers and the table store: nothing. -/
theorem functionalReset_frame (s : State) :
    ChangesOnly [.arbiter, .alerts, .mgmt, .store] (resetReady s) (functionalReset s) :=
  ((resetLoaded_parts s).1.within (by decide)).andThen (functionalReset_judges s).only.frame

theorem functionalReset_nv (s : State) : (functionalReset s).store.nv = nvAtReset s.free s.store ∧
    TallyAsked { storeAtReset s.free s.timeBase s.store with
      defaults := (loadAlerts (nvAtReset s.free s.store) s.timeBase (List.range 4)).foldl (fun n _ => min (n + 1) 65535)
        s.store.defaults } (functionalReset s).store := by
  obtain ⟨-, -, hstore⟩ := resetLoaded_parts s
  have hasked := (functionalReset_judges s).store (by rw [hstore]; rfl)
  rw [hstore] at hasked
  exact ⟨(congrArg Store.nv hasked :), hasked⟩

/-- The tables in force after a functional reset are those its load found (R178). -/
theorem functionalReset_tables (s : State) : (functionalReset s).tables = (resetReady s).tables ∧
    (functionalReset s).tables = loadTables (functionalReset s).store.nv s.tables.t6 := by
  have hsame : (functionalReset s).tables = (resetReady s).tables := functionalReset_frame s .tables (by decide)
  obtain ⟨hblocks, -⟩ := resetReady_blocks s
  refine ⟨hsame, ?_⟩
  rw [hsame, hblocks.tables, hblocks.store, (functionalReset_nv s).1]
  rfl

/-- The channels that enter FAULTED at a functional reset (R39). -/
def faultedAtReset (s : State) : List Channel :=
  allChannels.filter fun c =>
    decide ((chan s c).state ≠ .faulted ∧ t1Threshold (functionalReset s).tables.t1 ≤ (chan s c).errors)

theorem resetLoaded_channel (s : State) (c : Channel) :
    chan (resetLoaded s) c = channelAtReset (resetLoaded s).tables.t1 s.straps.startHalted c (chan s c) ∧
      (resetLoaded s).tables = (functionalReset s).tables := by
  obtain ⟨hframe, -⟩ := resetLoaded_parts s
  obtain ⟨hblocks, -⟩ := resetReady_blocks s
  have htables : (resetLoaded s).tables = (resetReady s).tables := hframe .tables (by decide)
  exact ⟨by rw [chan_frame hframe (by decide), hblocks.channels, htables],
    htables.trans (functionalReset_tables s).1.symm⟩

theorem faultedByCount_loaded (s : State) : faultedByCount (resetLoaded s) allChannels = faultedAtReset s := by
  refine List.filter_congr fun c _ => ?_
  obtain ⟨hchan, htables⟩ := resetLoaded_channel s c
  rw [hchan, decide_eq_decide, faultsByCount_at_reset, htables]

theorem functionalReset_channel (s : State) (c : Channel) : chan (functionalReset s) c = {
      state := if atLimit (functionalReset s).tables.t1 (chan s c) then .faulted else .start, reason := none
      driverTarget := 0, rollContribution := 0, emergency := 0, haltPressure := 0, derate := 4096
      ceiling := t1PMax (functionalReset s).tables.t1 c, cmdPressure := false
      cmdTarget := 0, delivered := 0, deviation := none, holdTimer := none, heldTarget := 0, errors := (chan s c).errors
      cause := if ¬atLimit (functionalReset s).tables.t1 (chan s c) then none
        else if (chan s c).state = .faulted then (chan s c).cause else some .counter
      haltPending := none, strapPending := s.straps.startHalted } := by
  obtain ⟨hchan, htables⟩ := resetLoaded_channel s c
  rw [(functionalReset_judges s).judged c (mem_allChannels c), hchan, judgedByCount_at_reset, htables]

theorem functionalReset_arbiter (s : State) : (functionalReset s).arbiter =
      { channels := (functionalReset s).arbiter.channels
        demand := if s.link.state = .fresh ∨ s.link.state = .stale then s.link.demand else 0
        source := if s.link.state = .fresh ∨ s.link.state = .stale then .electric else .nothing
        failSafe := if s.link.state = .lost then .fsA else .normal
        strapHalt := s.straps.startHalted, backupNext := false } := by
  have hloaded : (resetLoaded s).arbiter = (resetReady s).arbiter := (resetLoaded_parts s).1.arbiter (by decide)
  have honly := (functionalReset_judges s).only.arbiter
  have hready := resetReady_arbiter s
  rw [hloaded] at honly
  generalize functionalReset s = t at honly
  generalize resetReady s = w at honly hready
  exact honly.trans (by rw [hready])

theorem functionalReset_mgmt (s : State) : (functionalReset s).mgmt = engineAtReset (storeRunsOn s.store)
    { placedAll (cancelledWork s) s.mgmt with storeTag := if storeEnds s.store then none else s.mgmt.storeTag } := by
  have hloaded : (resetLoaded s).mgmt = (resetReady s).mgmt := (resetLoaded_parts s).1 .mgmt (by decide)
  obtain ⟨hblocks, -⟩ := resetReady_blocks s
  rw [(functionalReset_judges s).mgmt, hloaded, hblocks.mgmt]

/-! ### The alerts and the capture record -/

/-- What the capture record is filled with after a functional reset (R166). -/
def resetCapture (s : State) (e : CaptureKind × Subject) : Capture :=
  { kind := e.1, subject := e.2, time := s.timeBase, demand := demandLevel (functionalReset s), commanded := 0
    delivered := 0, supply := 0, supplyValid := false, reservoir := 0, reservoirValid := false, roll := .idle }

theorem captureRecord_at_reset (s : State) (kind : CaptureKind) (subject : Subject) :
    captureRecord kind subject 0 0 (resetReady s) = resetCapture s (kind, subject) := by
  obtain ⟨hblocks, -⟩ := resetReady_blocks s
  obtain ⟨hframe, -⟩ := resetLoaded_parts s
  have honly : ChannelsOnly (resetReady s) (functionalReset s) :=
    (ChannelsOnly.of_frame hframe (by decide) (by decide)).trans (functionalReset_judges s).only
  have hclock : (resetReady s).timeBase = s.timeBase := hblocks.frame .clock (by decide)
  rw [captureRecord_of_loaded hblocks.sample (by rw [hblocks.roll]; rfl), hclock, ← honly.demandLevel, resetCapture]

theorem countEvent_at_reset (s : State) (c : Channel) : countEvent (resetLoaded s) c =
    (⟨.channelFault, ⟨.channel, c.val + 1⟩, 0, s.timeBase, false, false⟩,
      resetCapture s (.channelFault, ⟨.channel, c.val + 1⟩)) := by
  obtain ⟨hframe, -⟩ := resetLoaded_parts s
  obtain ⟨hblocks, -⟩ := resetReady_blocks s
  have honly : ChannelsOnly (resetReady s) (resetLoaded s) := .of_frame hframe (by decide) (by decide)
  have hclock : (resetLoaded s).timeBase = s.timeBase := honly.clock.trans (hblocks.frame .clock (by decide))
  obtain ⟨hchan, -⟩ := resetLoaded_channel s c
  obtain ⟨-, -, -, hcmd, hdelivered⟩ :=
    channelAtReset_state (resetLoaded s).tables.t1 s.straps.startHalted c (chan s c)
  rw [← hchan] at hcmd hdelivered
  rw [countEvent, commandedOf, hcmd, hdelivered, if_neg Bool.false_ne_true, captureRecord_congr honly,
    captureRecord_at_reset, hclock]

/-- The raises of a functional reset in their order, with the capture records that they request (R39, R178). -/
def resetEvents (s : State) : List (Alert × Capture) :=
  (loadAlerts (functionalReset s).store.nv s.timeBase (List.range 4)).map
      (fun e => (e, resetCapture s (.storeIncomplete, e.subject))) ++
    (faultedAtReset s).map fun c => (⟨.channelFault, ⟨.channel, c.val + 1⟩, 0, s.timeBase, false, false⟩,
      resetCapture s (.channelFault, ⟨.channel, c.val + 1⟩))

theorem functionalReset_events (s : State) : (functionalReset s).alerts =
    (resetEvents s).foldl (raisedWith s.timeBase) { s.alerts with queue := [] } := by
  obtain ⟨hframe, hloaded, -⟩ := resetLoaded_parts s
  obtain ⟨hblocks, -⟩ := resetReady_blocks s
  have hclock : (resetLoaded s).timeBase = s.timeBase :=
    Eq.trans (hframe .clock (by decide)) (hblocks.frame .clock (by decide))
  have hload : loadEvent (resetReady s) = fun e => (e, resetCapture s (.storeIncomplete, e.subject)) := by
    funext e
    rw [loadEvent, captureRecord_at_reset]
  rw [(functionalReset_judges s).alerts, hloaded, hclock, faultedByCount_loaded, hload, funext (countEvent_at_reset s),
    resetEvents, List.foldl_append, List.foldl_map, List.foldl_map, (functionalReset_nv s).1]

/-- The kinds and subjects of the raises in their order. -/
def resetKinds (s : State) : List (CaptureKind × Subject) :=
  (loadAlerts (functionalReset s).store.nv s.timeBase (List.range 4)).map (fun e => (.storeIncomplete, e.subject)) ++
    (faultedAtReset s).map fun c => (.channelFault, ⟨.channel, c.val + 1⟩)

theorem functionalReset_alerts (s : State) : (functionalReset s).alerts =
    { (faultedAtReset s).foldl (fun a c => raisedAt s s.timeBase .channelFault ⟨.channel, c.val + 1⟩ 0 a)
        { s.alerts with queue := loadAlerts (functionalReset s).store.nv s.timeBase (List.range 4) } with
      capture := captureAfter ((resetKinds s).map (resetCapture s)) s.alerts.capture
      sinceCapture := countAfter ((resetKinds s).map (resetCapture s)) s.alerts.capture s.alerts.sinceCapture } := by
  have hcaptures : (resetEvents s).map Prod.snd = (resetKinds s).map (resetCapture s) := by
    simp only [resetEvents, resetKinds, List.map_append, List.map_map, Function.comp_def]
  have hraises : ((resetEvents s).map Prod.fst).foldl (fun a e => placeAlert s.timeBase e a) { s.alerts with queue := [] } =
      (faultedAtReset s).foldl (fun a c => raisedAt s s.timeBase .channelFault ⟨.channel, c.val + 1⟩ 0 a)
        { s.alerts with queue := loadAlerts (functionalReset s).store.nv s.timeBase (List.range 4) } := by
    rw [← loadAlerts_in_order _ _ le_rfl, resetEvents, List.map_append, List.map_map, List.map_map, List.foldl_append,
      List.foldl_map, List.foldl_map]
    rfl
  rw [functionalReset_events, foldl_raisedWith, hcaptures, hraises]

end Sys2Proof.Machine
end

section
/-! A functional reset by the RESET line or by RESTART, as the obligation states it (R36, R178 to R180). -/

namespace Sys2Proof.Machine

open Sys2Proof

/-! ### The beginning of a functional reset -/

/-- The state `s0` in which a functional reset begins at `s`: the line may be asserted, a frame and a request may have been
counted, and answers `first` placed. -/
structure BeginsReset (first : List (List CanFrame)) (taken : Nat) (s s0 : State) : Prop where
  frame : ChangesOnly [.line, .relay, .mgmt] s s0
  relay : { s0.relay with frontArrivals := s.relay.frontArrivals } = s.relay
  mgmt : s0.mgmt = placedAll first { s.mgmt with taken := taken }

theorem beginsReset_at_assertion (s : State) : BeginsReset [] s.mgmt.taken s { s with resetLine := true } := by
  have hframe : ChangesOnly [.line] s { s with resetLine := true } := fun p hp => by
    cases p with
    | line => exact absurd List.mem_cons_self hp
    | _ => rfl
  exact ⟨hframe.within (by decide), rfl, rfl⟩

theorem beginsReset_at_restart (s : State) (tag : Byte) : BeginsReset [[responseFrame s 18 [tag, 0, 0]]]
    (min (s.mgmt.taken + 1) 65535) s (answer 18 tag .done (requestTaken s)) := by
  have htaken : ChangesOnly [.relay, .mgmt] s (requestTaken s) := (onRelay_touches s fun r =>
    { r with frontArrivals := min (r.frontArrivals + 1) 65535 }).within (by decide) |>.andThen
      ((onMgmt_touches _ fun m => { m with taken := min (m.taken + 1) 65535 }).within (by decide))
  have hanswer := answer_touches (requestTaken s) 18 tag .done
  refine ⟨(htaken.within (by decide)).andThen (hanswer.within (by decide)), ?_, rfl⟩
  rw [show (answer 18 tag .done (requestTaken s)).relay = (requestTaken s).relay from hanswer .relay (by decide)]
  rfl

theorem assertion_resets {s t : State} (hpowered : s.powered = true) (hline : s.resetLine = false)
    (h : exec .resetLineAsserted s = .next t) : t = functionalReset { s with resetLine := true } := by
  rw [exec_assert hpowered, hline, if_neg Bool.false_ne_true] at h
  exact (Host.Outcome.next.inj h).symm

theorem restart_resets {s t : State} {q : ReqFrame} {tag : Byte} (htakes : TakesRequest s q 1 tag)
    (hidle : s.store.state = .idle) (h : exec (.restart q) s = .next t) :
    t = functionalReset (answer 18 tag .done (requestTaken s)) := by
  rw [exec_restart htakes, if_pos hidle] at h
  exact (Host.Outcome.next.inj h).symm

/-- What the two ways into a functional reset share. -/
theorem reset_begins {s t : State} (hpowered : s.powered = true)
    (h : (s.resetLine = false ∧ exec .resetLineAsserted s = .next t) ∨
      (∃ q tag, TakesRequest s q 1 tag ∧ s.store.state = .idle ∧ exec (.restart q) s = .next t)) :
    ∃ first taken s0, BeginsReset first taken s s0 ∧ t = functionalReset s0 := by
  rcases h with ⟨hline, hexec⟩ | ⟨q, tag, htakes, hidle, hexec⟩
  · exact ⟨_, _, _, beginsReset_at_assertion s, assertion_resets hpowered hline hexec⟩
  · exact ⟨_, _, _, beginsReset_at_restart s tag, restart_resets htakes hidle hexec⟩

/-! ### The table store and the management engine -/

/-- An operation of the table store is in progress. -/
abbrev inProgress (t : Store) (st : StoreState) : Prop := t.state = st ∧ t.ended = false

theorem storeRunsOn_iff (t : Store) : storeRunsOn t = true ↔ inProgress t .tally ∨ inProgress t .protecting := by
  rw [storeRunsOn, Bool.or_eq_true, storeRuns_iff, storeRuns_iff]

theorem storeAtReset_eq (n : Nat) (now : Stamp) (t : Store) : storeAtReset n now t =
    let runsOn := inProgress t .tally ∨ inProgress t .protecting
    { t with
      nv := nvAtReset n t, protForce := if inProgress t .protecting then t.protForce else t.protStored
      copyDue := decide (inProgress t .protecting), state := if runsOn then t.state else .idle, ended := false
      since := if runsOn then t.since else now, pendingTally := Quad.const 0, writing := none
      tally := if runsOn then t.tally else none, newWord := if runsOn then t.newWord else none
      abandoned := if inProgress t .writing then min (t.abandoned + 1) 65535 else t.abandoned
      lostAtReset := min (t.lostAtReset + (quadList t.pendingTally).sum) 65535 } := by
  have hcopy : storeRuns t .protecting = decide (inProgress t .protecting) := by
    rw [Bool.eq_iff_iff, storeRuns_iff, decide_eq_true_iff]
  unfold storeAtReset
  dsimp only
  simp only [storeRunsOn_iff, storeRuns_iff, satInc, satAdd]
  rw [hcopy]

theorem not_storeEnds_of_runsOn {t : Store} (h : inProgress t .tally ∨ inProgress t .protecting) : ¬storeEnds t := by
  rintro (⟨he, -⟩ | ⟨he, -⟩) <;> rcases h with ⟨hr, -⟩ | ⟨hr, -⟩ <;> exact absurd (hr.symm.trans he) nofun

section Begins

variable {first : List (List CanFrame)} {taken : Nat} {s s0 : State} (h : BeginsReset first taken s s0)

include h

theorem BeginsReset.chan (c : Channel) : chan s0 c = chan s c := chan_frame h.frame (by decide) c

theorem BeginsReset.clock : s0.timeBase = s.timeBase := h.frame .clock (by decide)

theorem BeginsReset.store : s0.store = s.store := h.frame .store (by decide)

theorem BeginsReset.storeTag : s0.mgmt.storeTag = s.mgmt.storeTag := by
  obtain ⟨q, n, heq⟩ := placedAll_beside first { s.mgmt with taken := taken }
  rw [h.mgmt, heq]

theorem BeginsReset.cancelledWork : cancelledWork s0 = cancelledWork s := by
  have hlink : s0.link = s.link := h.frame .link (by decide)
  have htyres : s0.tyres = s.tyres := h.frame .tyres (by decide)
  unfold Machine.cancelledWork
  simp only [responseFrame_congr hlink, h.chan, htyres, h.store, h.storeTag]

/-- The answers of a reset stand behind those that were placed before it. -/
theorem functionalReset_answers : ∃ q n, placedAll (first ++ cancelledWork s) { s.mgmt with taken := taken } =
      { s.mgmt with taken := taken, queue := q, responsesLost := n } ∧
    (functionalReset s0).mgmt =
      { queue := q, openTable := none, buffer := List.replicate 144 0, segments := []
        storeTag := if inProgress s.store .tally ∨ inProgress s.store .protecting then s.mgmt.storeTag else none
        taken := taken, malformed := s.mgmt.malformed, unknown := s.mgmt.unknown, responsesLost := n } := by
  obtain ⟨q, n, heq⟩ := placedAll_beside (first ++ cancelledWork s) { s.mgmt with taken := taken }
  refine ⟨q, n, heq, ?_⟩
  rw [functionalReset_mgmt, h.cancelledWork, h.store, h.storeTag, h.mgmt, ← placedAll_append, heq, engineAtReset]
  by_cases hruns : inProgress s.store .tally ∨ inProgress s.store .protecting
  · rw [if_pos hruns, if_neg (not_storeEnds_of_runsOn hruns), if_pos ((storeRunsOn_iff _).mpr hruns)]
  · rw [if_neg hruns, if_neg (mt (storeRunsOn_iff _).mp hruns)]

/-- The response queue takes the answers up to four, and the others are counted as lost (R168). -/
theorem functionalReset_responses : (functionalReset s0).mgmt.taken = taken ∧ (s.mgmt.queue.length ≤ 4 →
    (functionalReset s0).mgmt.queue = (s.mgmt.queue ++ first ++ Machine.cancelledWork s).take 4 ∧
      (functionalReset s0).mgmt.responsesLost =
        (List.range ((s.mgmt.queue ++ first ++ Machine.cancelledWork s).length - 4)).foldl (fun n _ => min (n + 1) 65535)
          s.mgmt.responsesLost) := by
  obtain ⟨q, n, hplaced, hmgmt⟩ := functionalReset_answers h
  rw [hmgmt]
  refine ⟨rfl, fun hroom => ?_⟩
  have hqueue := placedAll_queue (first ++ Machine.cancelledWork s) (m := { s.mgmt with taken := taken }) hroom
  rw [hplaced] at hqueue
  rw [List.append_assoc]
  exact hqueue

end Begins

/-! ### The obligation -/

section Clauses

variable {first : List (List CanFrame)} {taken : Nat} {s s0 : State} (h : BeginsReset first taken s s0)

include h

theorem faultedAtReset_eq : faultedAtReset s0 = allChannels.filter fun c =>
    decide ((chan s c).state ≠ .faulted ∧ t1Threshold (functionalReset s0).tables.t1 ≤ (chan s c).errors) := by
  refine List.filter_congr fun c _ => ?_
  rw [h.chan]

/-- The table store after a functional reset, as far as a tally request of R39 does not change it. -/
theorem functionalReset_store :
    let t := functionalReset s0
    let k := s.store
    let runsOn := inProgress k .tally ∨ inProgress k .protecting
    t.store = { k with
      nv := t.store.nv, protForce := if inProgress k .protecting then k.protForce else k.protStored
      copyDue := decide (inProgress k .protecting), state := t.store.state, ended := false, since := t.store.since
      pendingTally := t.store.pendingTally, writing := none, tally := t.store.tally
      newWord := if runsOn then k.newWord else none
      abandoned := if inProgress k .writing then min (k.abandoned + 1) 65535 else k.abandoned
      discarded := t.store.discarded
      lostAtReset := min (k.lostAtReset + (quadList k.pendingTally).sum) 65535
      defaults := (loadAlerts t.store.nv s.timeBase (List.range 4)).foldl (fun n _ => min (n + 1) 65535) k.defaults } := by
  intro t k runsOn
  obtain ⟨hnv, hasked⟩ := functionalReset_nv s0
  rw [← hnv, storeAtReset_eq, h.store, h.clock] at hasked
  refine Eq.trans hasked ?_
  rw [hnv, h.store]

/-- Without a channel that enters FAULTED no tally is requested (R50). -/
theorem functionalReset_quiet (hquiet : faultedAtReset s0 = []) :
    let t := functionalReset s0
    let k := s.store
    let runsOn := inProgress k .tally ∨ inProgress k .protecting
    t.store.state = (if runsOn then k.state else .idle) ∧ t.store.pendingTally = Quad.const 0 ∧
      t.store.tally = (if runsOn then k.tally else none) ∧ t.store.since = (if runsOn then k.since else s.timeBase) ∧
      t.store.discarded = k.discarded := by
  intro t k runsOn
  obtain ⟨-, -, hstore⟩ := resetLoaded_parts s0
  have hsame := (functionalReset_judges s0).quiet ((faultedByCount_loaded s0).trans hquiet)
  rw [hstore, storeAtReset_eq, h.store, h.clock] at hsame
  have ht : t.store = _ := hsame
  rw [ht]
  exact ⟨rfl, rfl, rfl, rfl, rfl⟩

theorem functionalReset_nv_kept :
    let t := functionalReset s0
    let k := s.store
    (¬inProgress k .writing → ¬inProgress k .erasing → t.store.nv = k.nv) ∧
    (StoreInv s → (inProgress k .erasing → ∀ a, a < 1280 ∨ 1536 ≤ a → memRead t.store.nv a = memRead k.nv a) ∧
      ∀ w ∈ k.writing, markerPresent t.store.nv w.block.val = false ∧
        ∀ a, a < 256 * w.block.val ∨ 256 * w.block.val + 256 ≤ a → memRead t.store.nv a = memRead k.nv a) := by
  have hnv := (functionalReset_nv s0).1
  rw [h.store] at hnv
  generalize functionalReset s0 = t at hnv
  intro t' k
  rw [show t'.store.nv = _ from hnv]
  refine ⟨fun hw he => nvAtReset_of_untouched hw he _, fun hinv => ?_⟩
  obtain ⟨hwf, -, -, hwriting, -⟩ := hinv
  refine ⟨fun he a ha => nvAtReset_of_erasing hwf he _ a ha, fun w hw => ?_⟩
  exact nvAtReset_of_writing hwf (hwriting.mp (Option.isSome_of_mem hw)) hw _

/-- The alerts and the capture record after a functional reset (R160, R166). -/
theorem functionalReset_alerts_of_begin :
    let t := functionalReset s0
    let incomplete := loadAlerts t.store.nv s.timeBase (List.range 4)
    let events : List (CaptureKind × Subject) := incomplete.map (fun e => (.storeIncomplete, e.subject)) ++
      (faultedAtReset s0).map fun c => (.channelFault, ⟨.channel, c.val + 1⟩)
    t.alerts = { (faultedAtReset s0).foldl
        (fun a c => raisedAt s s.timeBase .channelFault ⟨.channel, c.val + 1⟩ 0 a) { s.alerts with queue := incomplete } with
      capture := match s.alerts.capture with
        | some x => some x
        | none => events.head?.map fun e =>
          { kind := e.1, subject := e.2, time := s.timeBase, demand := demandLevel t, commanded := 0, delivered := 0
            supply := 0, supplyValid := false, reservoir := 0, reservoirValid := false, roll := .idle }
      sinceCapture := (if s.alerts.capture = none then events.drop 1 else events).foldl (fun n _ => min (n + 1) 255)
        s.alerts.sinceCapture } := by
  have hall := functionalReset_alerts s0
  have halerts : s0.alerts = s.alerts := h.frame .alerts (by decide)
  have hraised : ∀ sub a, raisedAt s0 s.timeBase .channelFault sub 0 a = raisedAt s s.timeBase .channelFault sub 0 a :=
    fun sub a => by rw [raisedAt, h.clock, raisedAt]
  have hcaptures : resetCapture s0 = fun e : CaptureKind × Subject =>
      { kind := e.1, subject := e.2, time := s.timeBase, demand := demandLevel (functionalReset s0), commanded := 0
        delivered := 0, supply := 0, supplyValid := false, reservoir := 0, reservoirValid := false, roll := .idle } := by
    funext e
    rw [resetCapture, h.clock]
  unfold resetKinds at hall
  rw [halerts, hcaptures, h.clock, captureAfter_map, countAfter_map] at hall
  simp only [hraised] at hall
  generalize faultedAtReset s0 = faulted at hall
  generalize functionalReset s0 = t at hall
  exact hall

/-- The blocks that a functional reset leaves without a raise (R1, R24, R34, R63, R86, R100, R132, R148). -/
theorem functionalReset_blocks :
    let t := functionalReset s0
    t.load = estimatesLoaded t.tables.t2 s.timeBase ∧ t.valve = valvePortReset ∧ t.air = airReset ∧
    t.sample = samplePortLoaded t.tables.t1 (if t.resetLine then none else some s.timeBase) ∧
    t.rx = receiverReset s.rx.carrier ∧ t.roll = rollAtReset s.roll ∧
    t.link = { s.link with
      demandTimer := if s.link.state = .nothing then some ⟨s.timeBase, 1000⟩ else s.link.demandTimer } ∧
    { t.relay with frontArrivals := s.relay.frontArrivals } = s.relay ∧
    t.tyres = tyresAtReset t.tables.t4 (mapOfTable (loadedTable t.store.nv 3 5 t5Default)) s.timeBase s.tyres := by
  obtain ⟨hblocks, -⟩ := resetReady_blocks s0
  obtain ⟨htables, -⟩ := functionalReset_tables s0
  have hframe := functionalReset_frame s0
  have hnv : (functionalReset s0).store.nv = (resetReady s0).store.nv := by
    rw [(functionalReset_nv s0).1, hblocks.store]
    rfl
  have hline : (functionalReset s0).resetLine = s0.resetLine := functionalReset_touches s0 .line (by decide)
  have hrelay : (functionalReset s0).relay = s0.relay := functionalReset_touches s0 .relay (by decide)
  have hlink : s0.link = s.link := h.frame .link (by decide)
  have hroll : s0.roll = s.roll := h.frame .roll (by decide)
  have hrx : s0.rx = s.rx := h.frame .rx (by decide)
  have htyres : s0.tyres = s.tyres := h.frame .tyres (by decide)
  obtain ⟨-, -, hsample, hvalve, hload, hair, hroll', hrx', htyres', hlink', -⟩ := hblocks
  rw [h.clock] at hsample hload htyres' hlink'
  rw [← hline] at hsample
  rw [hrx] at hrx'
  rw [hroll] at hroll'
  rw [htyres] at htyres'
  rw [hlink, linkAtReset_eq] at hlink'
  rw [← htables] at hsample hload htyres'
  rw [← hnv] at htyres'
  generalize resetReady s0 = w at *
  generalize functionalReset s0 = t at *
  exact ⟨(hframe .load (by decide)).trans hload, (hframe .valve (by decide)).trans hvalve,
    (hframe .air (by decide)).trans hair, (hframe .sample (by decide)).trans hsample,
    (hframe .rx (by decide)).trans hrx', (hframe .roll (by decide)).trans hroll', (hframe .link (by decide)).trans hlink',
    (congrArg (fun r : Relay => { r with frontArrivals := s.relay.frontArrivals }) hrelay).trans h.relay,
    (hframe .tyres (by decide)).trans htyres'⟩

end Clauses

/-- The tyre table after a functional reset, position by position (R111, R112). -/
theorem tyresAtReset_positions {t : State} {t4 t5 : Table} {now : Stamp} {y : Tyres}
    (h : t.tyres = tyresAtReset t4 (mapOfTable t5) now y) :
    t.tyres = {
      map := t.tyres.map, records := t.tyres.records, derates := ⟨false, false, false, false⟩, zeroRun := none
      unknown := Quad.const none, session := none, waiting := false, unsaved := false, changedSinceStore := false
      checkStart := now, readings := y.readings, repeats := y.repeats, misses := y.misses, marks := y.marks } ∧
    ∀ p, gridGet t.tyres.map p = (if t5Id t5 p.val = 0 then none else some (t5Id t5 p.val)) ∧
      tyre t p = tyreFresh (if t4PositionEnabled t4 p = false then .disabled
        else if t5Id t5 p.val = 0 then .absent else .noData) now := by
  have hmap : ∀ p, gridGet (mapOfTable t5) p = if t5Id t5 p.val = 0 then none else some (t5Id t5 p.val) :=
    fun p => gridGet_map _ _ p
  refine ⟨by rw [h]; rfl, fun p => ⟨?_, ?_⟩⟩
  · rw [h]
    exact hmap p
  · rw [tyre, h]
    refine (gridGet_map _ _ p).trans ?_
    rw [hmap]
    by_cases he : t4PositionEnabled t4 p = true
    · by_cases hid : t5Id t5 p.val = 0
      · simp [he, hid]
      · simp [he]
    · simp [he]

/-- Settles O7: both ways into the reset begin it in a state that differs from the first one in the line, the counts and the
answers placed; each clause is then read off the reset. -/
theorem functionalResetTakesEveryBlock : Obligations.FunctionalResetTakesEveryBlock := by
  intro s t hpowered hway
  obtain ⟨first, taken, s0, h, ht⟩ := reset_begins hpowered hway
  have hclock : (functionalReset s0).timeBase = s.timeBase :=
    Eq.trans (functionalReset_touches s0 .clock (by decide)) h.clock
  have htables := (functionalReset_tables s0).2
  have ht6 : s0.tables = s.tables := h.frame .tables (by decide)
  have hstraps : s0.straps = s.straps := h.frame .straps (by decide)
  have hlink : s0.link = s.link := h.frame .link (by decide)
  obtain ⟨hload, hvalve, hair, hsample, hrx, hroll, hlink', hrelay, htyres⟩ := functionalReset_blocks h
  have hchannel := functionalReset_channel s0
  have harbiter := functionalReset_arbiter s0
  obtain ⟨hrecord, hpositions⟩ := tyresAtReset_positions htyres
  have hfaulted := faultedAtReset_eq h
  have hstore := functionalReset_store h
  have hquiet := functionalReset_quiet h
  obtain ⟨hnv, hnvInv⟩ := functionalReset_nv_kept h
  have halerts := functionalReset_alerts_of_begin h
  obtain ⟨q, n, -, hmgmt⟩ := functionalReset_answers h
  rw [hfaulted] at hquiet halerts
  rw [ht6] at htables
  rw [hlink, hstraps] at harbiter
  simp only [h.chan, hstraps] at hchannel
  rw [← ht] at hclock htables hload hvalve hair hsample hrx hroll hlink' hrelay hchannel harbiter hrecord hpositions
  rw [← ht] at hstore hquiet hnv hnvInv halerts hmgmt
  have hloaded : ∀ t' : Tables, t' = loadTables t.store.nv s.tables.t6 → t'.t6 = s.tables.t6 ∧
      t'.t1 = loadedTable t.store.nv 0 1 t1Default ∧ t'.t2 = loadedTable t.store.nv 1 2 t2Default ∧
      t'.t3 = loadedTable t.store.nv 2 3 t3Default ∧ t'.t4 = loadedTable t.store.nv 3 4 t4Default := by
    rintro _ rfl
    exact ⟨rfl, rfl, rfl, rfl, rfl⟩
  obtain ⟨h6, h1, h2, h3, h4⟩ := hloaded _ htables
  refine ⟨hclock, h6, h1, h2, h3, h4, hload, hvalve, hair, hsample, hrx, hroll, hlink', hrelay, hchannel, harbiter,
    ⟨hrecord, hpositions⟩, hstore, hquiet, hnv, hnvInv, halerts, ?_, fun hline hexec => ?_, fun q' tag htakes hidle hexec => ?_⟩
  · rw [hmgmt]
  · have hanswers := functionalReset_responses (beginsReset_at_assertion s)
    rw [← assertion_resets hpowered hline hexec] at hanswers
    exact hanswers
  · have hanswers := functionalReset_responses (beginsReset_at_restart s tag)
    rw [← restart_resets htakes hidle hexec] at hanswers
    exact hanswers

end Sys2Proof.Machine
end

section
/-! The HOLD timer, and the management requests to one channel: HALT_CHANNEL, RUN_CHANNEL and CLEAR_CHANNEL (R48, R57, R60,
R61). -/

namespace Sys2Proof.Machine

open Sys2Proof

/-! ### The HOLD timer (R48) -/

section HoldTimer

variable {s : State} {c : Channel}

theorem holdTimerExpiry_of_lasted (hstate : (chan s c).state = .hold)
    (hlong : runLasted s.timeBase (chan s c).holdTimer 500 = true) :
    holdTimerExpiry c s = s.onChannel c (goTo .backup (some .failsafe)) := if_pos ⟨hstate, hlong⟩

theorem holdTimerExpiry_of_waiting
    (h : (chan s c).state ≠ .hold ∨ runLasted s.timeBase (chan s c).holdTimer 500 = false) : holdTimerExpiry c s = s :=
  if_neg fun ⟨hstate, hlong⟩ => h.elim (· hstate) fun hshort => Bool.false_ne_true (hshort.symm.trans hlong)

end HoldTimer

/-- Settles O19: either the HOLD timer has run its 500 ms, or the command finds nothing due. -/
theorem holdEndsAfterHalfASecond : Obligations.HoldEndsAfterHalfASecond := by
  intro s c h hpowered
  rw [exec_powered rfl hpowered]
  refine ⟨fun hstate htimer hlong => ?_, fun hwait => ?_⟩
  · have hlasted : runLasted s.timeBase (chan s c).holdTimer 500 = true := by
      rw [htimer, runLasted_some, reached_iff]
      exact hlong
    rw [holdTimerExpiry_of_lasted hstate hlasted]
    exact ⟨_, rfl, chan_onChannel_same c _ s, fun d hd => chan_onChannel_other hd _ s, rfl, rfl, onChannel_touches s c _⟩
  · rw [holdTimerExpiry_of_waiting (hwait.imp_right fun ⟨htimer, hshort⟩ => ?_)]
    rw [htimer, runLasted_some, reached_false_iff]
    exact hshort

/-! ### The channel number of a request (12.1) -/

theorem channelOf_number (c : Channel) : channelOf (c.val + 1) = some c := by
  fin_cases c <;> rfl

theorem channelOf_outside {n : Nat} (h : n < 1 ∨ 4 < n) : channelOf n = none := by
  unfold channelOf
  split
  case h_5 => rfl
  all_goals omega

/-! ### HALT_CHANNEL (R57) -/

/-- The conditions under which HALT_CHANNEL is refused STATE (step 2 of R57). -/
abbrev haltBarred (s : State) (c : Channel) : Prop :=
  t1Assigned s.tables.t1 c = false ∨ (chan s c).state = .faulted ∨
    ((chan s c).state = .backup ∧ (chan s c).reason = some .sympathy) ∨ s.arbiter.failSafe = .fsB ∨
    s.air.presence ≠ .present ∨ vehicleSpeed s = none ∨ (∃ v, vehicleSpeed s = some v ∧ 200 < v) ∨
    inputValid s (inputDelivered c) = false

theorem haltRefused_iff (s : State) (c : Channel) : haltRefused s c = true ↔ haltBarred s c := by
  simp only [haltRefused, haltBarred, Bool.or_eq_true, Bool.and_eq_true, Bool.not_eq_true', beq_iff_eq, bne_iff_ne,
    Option.isNone_iff_eq_none, speedAbove200_iff, Option.mem_def, assigned, or_assoc]

section Halt

variable {s : State} {q : ReqFrame} {tag : Byte}

theorem exec_haltChannel (h : TakesRequest s q 4 tag) : exec (.haltChannel q) s =
    .next (haltChannel tag (dataByte q.data 1) (dataWord q.data 2) (requestTaken s)) := by
  obtain ⟨hpowered, -⟩ := id h
  rw [exec_powered rfl hpowered, request_reaches h (code := codeHaltChannel) (by decide) (by decide)]
  rfl

theorem haltChannel_outside {n p : Nat} (h : n < 1 ∨ 4 < n ∨ 1000 < p) (s : State) :
    haltChannel tag n p s = answer 10 tag (.refused .range) s := by
  unfold haltChannel
  split
  · rfl
  next c hc =>
    have hnumber : ¬(n < 1 ∨ 4 < n) := fun hn => nomatch hc.symm.trans (channelOf_outside hn)
    exact if_pos (by omega)

/-- HALT_CHANNEL of a channel with a pressure in range: the conditions of R57 in their order. -/
theorem haltChannel_number {p : Nat} (hp : p ≤ 1000) (s : State) (c : Channel) : haltChannel tag (c.val + 1) p s =
    if haltRefused s c then answer 10 tag (.refused .state) s
    else if (chan s c).state = .halted then answer 10 tag .done (s.onChannel c fun r => { r with haltPressure := p })
    else if (chan s c).haltPending.isSome then answer 10 tag (.refused .busy) s
    else if rollIdle s && demandLow s then answer 10 tag .done (s.onChannel c (goHalted p))
    else answer 10 tag .accepted (s.onChannel c fun r => { r with haltPending := some ⟨p, tag⟩ }) := by
  unfold haltChannel
  rw [channelOf_number]
  exact if_neg (Nat.not_lt.mpr hp)

section InRange

variable {p : Nat} {c : Channel} (hp : p ≤ 1000)

include hp

theorem haltChannel_of_barred (h : haltBarred s c) :
    haltChannel tag (c.val + 1) p s = answer 10 tag (.refused .state) s := by
  rw [haltChannel_number hp, if_pos ((haltRefused_iff s c).mpr h)]

variable (h : ¬haltBarred s c)

include h

theorem haltChannel_of_halted (hstate : (chan s c).state = .halted) : haltChannel tag (c.val + 1) p s =
    answer 10 tag .done (s.onChannel c fun r => { r with haltPressure := p }) := by
  rw [haltChannel_number hp, if_neg ((haltRefused_iff s c).not.mpr h), if_pos hstate]

variable (hstate : (chan s c).state ≠ .halted)

include hstate

theorem haltChannel_of_pending (hpending : (chan s c).haltPending.isSome = true) :
    haltChannel tag (c.val + 1) p s = answer 10 tag (.refused .busy) s := by
  rw [haltChannel_number hp, if_neg ((haltRefused_iff s c).not.mpr h), if_neg hstate, if_pos hpending]

/-- A halt that is neither barred nor already asked for is done at once or waits for the roll monitor and the demand. -/
theorem haltChannel_of_free (hpending : (chan s c).haltPending = none) : haltChannel tag (c.val + 1) p s =
    if s.roll.state = .idle ∧ demandLevel s ≤ 30 then answer 10 tag .done (s.onChannel c (goHalted p))
    else answer 10 tag .accepted (s.onChannel c fun r => { r with haltPending := some ⟨p, tag⟩ }) := by
  rw [haltChannel_number hp, if_neg ((haltRefused_iff s c).not.mpr h), if_neg hstate, if_neg (by simp [hpending])]
  simp only [Bool.and_eq_true, rollIdle_iff, demandLow_iff]

end InRange

end Halt

/-- Settles O20: the request reaches the judgement of R57, whose conditions the counts of the request do not touch. -/
theorem haltIsJudgedInOrder : Obligations.HaltIsJudgedInOrder := by
  intro s q tag h
  dsimp only
  rw [exec_haltChannel h]
  refine ⟨fun hout => by rw [haltChannel_outside hout], fun c hn hp => ?_⟩
  rw [hn]
  refine ⟨fun hbarred => congrArg _ (haltChannel_of_barred hp hbarred),
    fun hgo hstate => congrArg _ (haltChannel_of_halted hp hgo hstate),
    fun hgo hstate hpending => congrArg _ (haltChannel_of_pending hp hgo hstate hpending),
    fun hgo hstate hpending hroll hlow => ?_, fun hgo hstate hpending hbusy => ?_⟩
  · exact congrArg _ ((haltChannel_of_free (s := requestTaken s) hp hgo hstate hpending).trans (if_pos ⟨hroll, hlow⟩))
  · have hwaits : ¬(s.roll.state = .idle ∧ demandLevel s ≤ 30) := fun ⟨hroll, hlow⟩ =>
      hbusy.elim (· hroll) (Nat.not_lt.mpr hlow)
    exact congrArg _ ((haltChannel_of_free (s := requestTaken s) hp hgo hstate hpending).trans (if_neg hwaits))

/-! ### Changes of one channel's record, one after another -/

theorem quadSet_set {α : Type} (q : Quad α) (i : Fin 4) (x y : α) : quadSet (quadSet q i x) i y = quadSet q i y := by
  fin_cases i <;> rfl

theorem onChannel_onChannel (c : Channel) (f g : ChannelRec → ChannelRec) (s : State) :
    (s.onChannel c f).onChannel c g = s.onChannel c (g ∘ f) := by
  simp [State.onChannel, State.onArbiter, quadSet_set]

theorem cancelPendingHalt_of_none {s : State} {c : Channel} (h : (chan s c).haltPending = none) :
    cancelPendingHalt c s = s := by
  rw [cancelPendingHalt, endPendingHalt, h]

theorem cancelPendingHalt_of_some {s : State} {c : Channel} {w : PendingHalt} (h : (chan s c).haltPending = some w) :
    cancelPendingHalt c s =
      answer 10 w.tag (.completed .cancelled) (s.onChannel c fun r => { r with haltPending := none }) := by
  rw [cancelPendingHalt, endPendingHalt, h]
  rfl

/-! ### RUN_CHANNEL (R60) -/

section RunAndClear

variable {s : State} {q : ReqFrame} {tag : Byte}

theorem exec_runChannel (h : TakesRequest s q 2 tag) : exec (.runChannel q) s =
    .next (runChannel tag (dataByte q.data 1) (requestTaken s)) := by
  obtain ⟨hpowered, -⟩ := id h
  rw [exec_powered rfl hpowered, request_reaches h (code := codeRunChannel) (by decide) (by decide)]
  rfl

theorem exec_clearChannel (h : TakesRequest s q 2 tag) : exec (.clearChannel q) s =
    .next (clearChannel tag (dataByte q.data 1) (requestTaken s)) := by
  obtain ⟨hpowered, -⟩ := id h
  rw [exec_powered rfl hpowered, request_reaches h (code := codeClearChannel) (by decide) (by decide)]
  rfl

theorem runChannel_outside {n : Nat} (h : n < 1 ∨ 4 < n) (s : State) :
    runChannel tag n s = answer 11 tag (.refused .range) s := by
  rw [runChannel, channelOf_outside h]
  rfl

theorem clearChannel_outside {n : Nat} (h : n < 1 ∨ 4 < n) (s : State) :
    clearChannel tag n s = answer 12 tag (.refused .range) s := by
  rw [clearChannel, channelOf_outside h]
  rfl

theorem runChannel_of_halted {c : Channel} (h : (chan s c).state = .halted) :
    runChannel tag (c.val + 1) s = answer 11 tag .done (cancelPendingHalt c (s.onChannel c (goTo .start none))) := by
  rw [runChannel, channelOf_number]
  exact if_pos h

theorem runChannel_of_halted_calm {c : Channel} (h : (chan s c).state = .halted) (hp : (chan s c).haltPending = none) :
    runChannel tag (c.val + 1) s = answer 11 tag .done (s.onChannel c (goTo .start none)) := by
  rw [runChannel_of_halted h, cancelPendingHalt_of_none]
  rw [chan_onChannel_same]
  exact hp

theorem runChannel_of_halted_pending {c : Channel} {w : PendingHalt} (h : (chan s c).state = .halted)
    (hp : (chan s c).haltPending = some w) : runChannel tag (c.val + 1) s =
      answer 11 tag .done (answer 10 w.tag (.completed .cancelled)
        (s.onChannel c fun r => { goTo .start none r with haltPending := none })) := by
  rw [runChannel_of_halted h, cancelPendingHalt_of_some, onChannel_onChannel]
  · rfl
  · rw [chan_onChannel_same]
    exact hp

theorem runChannel_of_pending {c : Channel} {w : PendingHalt} (h : (chan s c).state ≠ .halted)
    (hp : (chan s c).haltPending = some w) : runChannel tag (c.val + 1) s =
      answer 11 tag .done (answer 10 w.tag (.completed .cancelled)
        (s.onChannel c fun r => { r with haltPending := none })) := by
  rw [← cancelPendingHalt_of_some hp, runChannel, channelOf_number]
  exact (if_neg h).trans (if_pos (Option.isSome_of_mem hp))

theorem runChannel_of_neither {c : Channel} (h : (chan s c).state ≠ .halted) (hp : (chan s c).haltPending = none) :
    runChannel tag (c.val + 1) s = answer 11 tag (.refused .state) s := by
  rw [runChannel, channelOf_number]
  exact (if_neg h).trans (if_neg (by simp [hp]))

/-! ### CLEAR_CHANNEL (R61) -/

/-- The state once a channel is cleared and, with none left FAULTED, the SYMPATHY backups are released (R51, R61). -/
def clearedChannel (c : Channel) (s : State) : State :=
  let s := s.onChannel c clearFault
  if anyFaulted s then s
  else s.onArbiter fun a => { a with channels := quadMap (fun _ r => releaseSympathy r) a.channels }

theorem clearChannel_of_moving {c : Channel} (h : ∃ v, vehicleSpeed s = some v ∧ 200 ≤ v) :
    clearChannel tag (c.val + 1) s = answer 12 tag (.refused .state) s := by
  obtain ⟨v, hv, hfast⟩ := h
  rw [clearChannel, channelOf_number]
  exact if_neg fun hstill => Nat.not_lt.mpr hfast ((stationary_iff s).mp hstill v hv)

theorem clearChannel_of_stationary {c : Channel} (h : ∀ v, vehicleSpeed s = some v → v < 200) :
    clearChannel tag (c.val + 1) s = answer 12 tag .done (clearedChannel c s) := by
  rw [clearChannel, channelOf_number]
  exact if_pos ((stationary_iff s).mpr h)

end RunAndClear

theorem clearedChannel_touches (c : Channel) (s : State) : ChangesOnly [.arbiter] s (clearedChannel c s) :=
  (onChannel_touches s c _).andThen (.ite _ (.nothing _ _) (onArbiter_touches _ _))

theorem clearedChannel_arbiter (c : Channel) (s : State) :
    (clearedChannel c s).arbiter = { s.arbiter with channels := (clearedChannel c s).arbiter.channels } := by
  unfold clearedChannel
  dsimp only
  split <;> rfl

theorem clearFault_state_ne_faulted (r : ChannelRec) : (clearFault r).state ≠ .faulted := by
  unfold clearFault
  split
  · exact nofun
  · assumption

/-- After a channel's fault is cleared none is FAULTED when no other one is. -/
theorem anyFaulted_after_clearFault (c : Channel) (s : State) :
    anyFaulted (s.onChannel c clearFault) = false ↔ ∀ e, e ≠ c → (chan s e).state ≠ .faulted := by
  rw [anyFaulted_iff]
  refine forall_congr' fun e => ?_
  by_cases he : e = c
  · subst he
    simp [clearFault_state_ne_faulted]
  · simp [he, chan_onChannel_other he]

theorem chan_clearedChannel (c d : Channel) (s : State) : chan (clearedChannel c s) d =
    if (∀ e, e ≠ c → (chan s e).state ≠ .faulted) then releaseSympathy (chan (s.onChannel c clearFault) d)
    else chan (s.onChannel c clearFault) d := by
  unfold clearedChannel
  dsimp only
  by_cases hfree : anyFaulted (s.onChannel c clearFault) = false
  · rw [if_pos ((anyFaulted_after_clearFault c s).mp hfree), if_neg (by simp [hfree])]
    exact quadGet_map _ _ d
  · rw [if_neg (mt (anyFaulted_after_clearFault c s).mpr hfree), if_pos (by simpa using hfree)]

theorem chan_onChannel (c d : Channel) (f : ChannelRec → ChannelRec) (s : State) :
    chan (s.onChannel c f) d = if d ≠ c then chan s d else f (chan s d) := by
  by_cases hd : d = c
  · subst hd
    simp
  · rw [if_pos hd, chan_onChannel_other hd]

theorem ite_releaseSympathy (p : Prop) [Decidable p] (r : ChannelRec)
    [Decidable (p ∧ r.state = .backup ∧ r.reason = some .sympathy)] : (if p then releaseSympathy r else r) =
      if p ∧ r.state = .backup ∧ r.reason = some .sympathy then goTo .start none r else r := by
  by_cases hp : p
  · rw [if_pos hp]
    exact if_congr (by simp [hp]) rfl rfl
  · rw [if_neg hp, if_neg fun ⟨h, _⟩ => hp h]

/-- Settles O21: RUN_CHANNEL by the channel's state and its pending halt, CLEAR_CHANNEL by the standstill. -/
theorem runAndClearChannel : Obligations.RunAndClearChannel := by
  intro s q tag h
  dsimp only
  rw [exec_runChannel h, exec_clearChannel h]
  refine ⟨fun hout => by rw [runChannel_outside hout, clearChannel_outside hout]; exact ⟨rfl, rfl⟩, fun c hn => ?_⟩
  rw [hn]
  refine ⟨fun hstate hnone => congrArg _ (runChannel_of_halted_calm hstate hnone),
    fun w hstate hpending => congrArg _ (runChannel_of_halted_pending hstate hpending),
    fun w hstate hpending => congrArg _ (runChannel_of_pending hstate hpending),
    fun hstate hnone => congrArg _ (runChannel_of_neither hstate hnone),
    fun hmoves => congrArg _ (clearChannel_of_moving hmoves), fun hstill => ?_⟩
  refine ⟨clearedChannel c (requestTaken s), congrArg _ (clearChannel_of_stationary hstill),
    clearedChannel_touches c _, clearedChannel_arbiter c _, fun d => ?_⟩
  rw [chan_clearedChannel, chan_onChannel]
  exact ite_releaseSympathy _ _

end Sys2Proof.Machine
end

section
/-! What the roll monitor reads: the speeds of a side, the thresholds and the conditions of its rules (R66 to R74). -/

namespace Sys2Proof.Machine

open Sys2Proof

/-! ### The speeds of a side (R66) -/

/-- A run of readings that are all known, joined one by one. -/
theorem foldl_known {join : Option Nat → Option Nat → Option Nat} {op : Nat → Nat → Nat}
    (h : ∀ x v, join (some x) (some v) = some (op x v)) (l : List Nat) (x : Nat) :
    l.foldl (fun r v => join r (some v)) (some x) = some (l.foldl op x) := by
  induction l generalizing x with
  | nil => rfl
  | cons v l ih => rw [List.foldl_cons, List.foldl_cons, h, ih]

theorem foldl_minReading (l : List Nat) : l.foldl (fun r v => minReading r (some v)) none = l.min? := by
  cases l with
  | nil => rfl
  | cons v l => exact foldl_known (fun _ _ => rfl) l v

theorem foldl_maxReading (l : List Nat) : l.foldl (fun r v => maxReading r (some v)) none = l.max? := by
  cases l with
  | nil => rfl
  | cons v l => exact foldl_known (fun _ _ => rfl) l v

theorem mem_channelsOfSide (s : State) (sd : Side) (c : Channel) :
    c ∈ channelsOfSide s sd ↔ t1Assigned s.tables.t1 c = true ∧ t1Side s.tables.t1 c = sd := by
  simp [channelsOfSide, mem_allChannels, assigned]

theorem mem_sideSpeeds (s : State) (sd : Side) (v : Nat) : v ∈ sideSpeeds s sd ↔
    ∃ c, t1Assigned s.tables.t1 c = true ∧ t1Side s.tables.t1 c = sd ∧
      ∃ w ∈ t1Wheel s.tables.t1 c, reading s (inputWheel w) = some v := by
  simp only [sideSpeeds, List.mem_filterMap, mem_channelsOfSide, Option.bind_eq_some_iff, wheel, and_assoc,
    Option.mem_def]

/-- v_i is the least speed of the inner side, and none when that side has none (R66). -/
theorem innerSpeed_iff (s : State) (inner : Side) :
    (∀ v, innerSpeed s inner = some v ↔ v ∈ sideSpeeds s inner ∧ ∀ x ∈ sideSpeeds s inner, v ≤ x) ∧
      (innerSpeed s inner = none ↔ ∀ x, x ∉ sideSpeeds s inner) := by
  rw [innerSpeed, foldl_minReading]
  exact ⟨fun _ => List.min?_eq_some_iff, List.min?_eq_none_iff.trans List.eq_nil_iff_forall_not_mem⟩

/-- v_o is the greatest speed of the outer side, and none when that side has none (R66). -/
theorem outerSpeed_iff (s : State) (inner : Side) :
    (∀ v, outerSpeed s inner = some v ↔
      v ∈ sideSpeeds s (otherSide inner) ∧ ∀ x ∈ sideSpeeds s (otherSide inner), x ≤ v) ∧
      (outerSpeed s inner = none ↔ ∀ x, x ∉ sideSpeeds s (otherSide inner)) := by
  rw [outerSpeed, foldl_maxReading]
  exact ⟨fun _ => List.max?_eq_some_iff, List.max?_eq_none_iff.trans List.eq_nil_iff_forall_not_mem⟩

/-! ### The thresholds (R67) -/

theorem derateStepApplies_iff (s : State) : derateStepApplies s = true ↔ t4Derate s.tables.t4 < 4096 ∧
    ∃ c, t1Assigned s.tables.t1 c = true ∧
      sidesGet s.tyres.derates (t1Group s.tables.t1 c) (t1Side s.tables.t1 c) = true := by
  simp [derateStepApplies, mem_allChannels, assigned, channelDerated]

theorem computeThresholds_spec (s : State) : ThresholdsOf s (computeThresholds s) := by
  refine ⟨rfl, derateStepApplies_iff s, ?_, rfl, rfl⟩
  unfold computeThresholds
  dsimp only
  split
  · rfl
  · rfl

/-- The bounds of the fields of a valid T3 that the thresholds take (R64). -/
theorem rollFields_of_tableCheck {t : Table} (h : tableCheck 3 t = none) : 150 ≤ t3LadenLimit t ∧
    t3LadenLimit t ≤ t3EmptyLimit t ∧ t3DerateStep t ≤ 100 ∧ 8 ≤ t3TestFraction t ∧ t3TestFraction t ≤ 15 := by
  have hall := (firstFailing_none_iff _).mp (h : t3Check t = none)
  have hladen := hall (3, decide (150 ≤ t3LadenLimit t ∧ t3LadenLimit t ≤ 2000)) (by simp)
  have horder := hall (1, decide (t3LadenLimit t ≤ t3EmptyLimit t)) (by simp)
  have hderate := hall (5, decide (t3DerateStep t ≤ 100)) (by simp)
  have hfraction := hall (7, decide (8 ≤ t3TestFraction t ∧ t3TestFraction t ≤ 15)) (by simp)
  simp only [decide_eq_true_eq] at hladen horder hderate hfraction
  exact ⟨hladen.1, horder, hderate, hfraction⟩

theorem thresholds_bounded {s : State} {th : Thresholds} (hth : ThresholdsOf s th)
    (hv : tableCheck 3 s.tables.t3 = none) (hr : th.rMax ≤ 4096) :
    50 ≤ th.aLim ∧ th.aLim ≤ t3EmptyLimit s.tables.t3 ∧ 25 ≤ th.aTest ∧ th.aTest < th.aLim ∧ th.aRelease ≤ th.aTest := by
  obtain ⟨-, -, hlim, htest, hrelease⟩ := hth
  obtain ⟨hladen, horder, hderate, hlow, hhigh⟩ := rollFields_of_tableCheck hv
  have hfall := scaled_le (x := t3EmptyLimit s.tables.t3 - t3LadenLimit s.tables.t3) hr
  have hstep : (if th.derateStep then t3DerateStep s.tables.t3 else 0) ≤ 100 := by
    split
    · exact hderate
    · exact Nat.zero_le _
  have haLim : 50 ≤ th.aLim := by omega
  have hleast : th.aLim * 8 ≤ th.aLim * t3TestFraction s.tables.t3 := Nat.mul_le_mul_left _ hlow
  have hmost : th.aLim * t3TestFraction s.tables.t3 ≤ th.aLim * 15 := Nat.mul_le_mul_left _ hhigh
  omega

/-! ### The conditions of the rules -/

/-- The vehicle speed is known and at or above a level. -/
abbrev drivesAt (s : State) (level : Nat) : Prop := ∃ v ∈ vehicleSpeed s, level ≤ v

theorem speedVMin_iff (s : State) : speedVMin s = true ↔ drivesAt s (t3VMin s.tables.t3) := atLeast_iff _ _

theorem speedVStop_iff (s : State) : speedVStop s = true ↔ drivesAt s (t3VStop s.tables.t3) := atLeast_iff _ _

/-- The condition of an intervention outside IDLE (R74, R77, R80). -/
abbrev tips (s : State) (a : Int) : Prop := s.roll.thresholds.aLim ≤ a.natAbs ∧ drivesAt s (t3VStop s.tables.t3)

/-- The condition of an intervention in IDLE (R70). -/
abbrev tipsFromIdle (s : State) (a : Int) : Prop :=
  s.roll.thresholds.aLim ≤ a.natAbs ∧ drivesAt s (t3VMin s.tables.t3)

/-- The condition of a test (R70, R77). -/
abbrev wantsTest (s : State) (a : Int) : Prop :=
  s.roll.thresholds.aTest ≤ a.natAbs ∧ drivesAt s (t3VMin s.tables.t3)

/-- Wheel lift on a test side (R73). -/
abbrev lifts (s : State) (inner : Side) : Prop := ∃ i ∈ innerSpeed s inner, ∃ o ∈ outerSpeed s inner,
  t3VMin s.tables.t3 ≤ o ∧ i * 4096 < o * (4096 - t3LiftSlip s.tables.t3)

theorem liftDetected_iff (s : State) (inner : Side) : liftDetected s inner = true ↔ lifts s inner := by
  unfold liftDetected lifts
  cases innerSpeed s inner with
  | none => simp
  | some i =>
    cases outerSpeed s inner with
    | none => simp
    | some o => simp

theorem sideActive_iff (s : State) (sd : Side) :
    sideActive s sd = true ↔ ∀ c ∈ channelsOfSide s sd, (chan s c).state = .active := by
  simp [sideActive]

theorem demandBelowOnset_iff (s : State) : demandBelowOnset s = true ↔
    demandLevel s ≤ t2Onset s.tables.t2 .a ∧ demandLevel s ≤ t2Onset s.tables.t2 .b := by
  simp [demandBelowOnset]

/-- The side that the trailer leans from at a lateral acceleration other than 0 (R66). -/
abbrev tiltSide (a : Int) : Side := if 0 < a then .left else .right

/-- The conditions of R71 for a test at a lateral acceleration. -/
abbrev testReady (s : State) (a : Int) : Prop :=
  a ≠ 0 ∧ demandLevel s ≤ t2Onset s.tables.t2 .a ∧ demandLevel s ≤ t2Onset s.tables.t2 .b ∧
    (innerSpeed s (tiltSide a)).isSome = true ∧ (outerSpeed s (tiltSide a)).isSome = true ∧
    channelsOfSide s (tiltSide a) ≠ [] ∧ ∀ c ∈ channelsOfSide s (tiltSide a), (chan s c).state = .active

theorem testConditions_iff (s : State) {a : Int} (h : a ≠ 0) : testConditions s (tiltSide a) = true ↔ testReady s a := by
  simp only [testConditions, Bool.and_eq_true, Bool.not_eq_true', demandBelowOnset_iff, sideActive_iff,
    List.isEmpty_eq_false_iff, testReady, and_assoc, ne_eq, h, not_false_eq_true, true_and]

section Lateral

variable {s : State} {a : Int} (ha : lateral s = some a)

include ha

theorem lateralAtLeast_iff (level : Nat) : lateralAtLeast s level = true ↔ level ≤ a.natAbs := by
  simp [lateralAtLeast, lateralSize, ha, atLeast]

theorem lateralBelow_iff (level : Nat) : lateralBelow s level = true ↔ a.natAbs < level := by
  simp [lateralBelow, lateralSize, ha, below]

theorem currentSide_of_lateral : currentSide s = if a = 0 then none else some (tiltSide a) := by
  unfold currentSide
  rw [ha]
  rcases lt_trichotomy a 0 with h | h | h
  · simp [h, h.ne, h.not_gt]
  · simp [h]
  · simp [h, h.ne']

/-- The trailer leans to the side of the test (R74). -/
theorem turned_iff (inner : Side) : currentSide s = some (otherSide inner) ↔
    (inner = .left ∧ a < 0) ∨ (inner = .right ∧ 0 < a) := by
  rw [currentSide_of_lateral ha]
  cases inner with
  | left => simp [otherSide, tiltSide]; omega
  | right => simp [otherSide, tiltSide]; omega

end Lateral

end Sys2Proof.Machine
end

section
/-! The entries of the roll monitor's states, and a test that is tried (R70 to R72, R76 to R78). -/

namespace Sys2Proof.Machine

open Sys2Proof

/-! ### Entries -/

theorem leaveTest_eq (s : State) : leaveTest s = { s with roll := leavingRoll s s.roll, air := leavingAir s } := by
  unfold leaveTest leavingRoll leavingAir
  split
  · rfl
  · rfl

theorem leaveTest_of_other {s : State} (h : s.roll.state ≠ .test) : leaveTest s = s := if_neg h

/-- Coming to rest: TEST is left as R76 requires, and the contributions and the stretch demand end. -/
theorem rests_on_leaving (s : State) (st : RollState) (tm : Option Timer) :
    RollRests s ((leaveTest s).onRoll (restIn st tm)) { s.roll with state := st, timer := tm } := by
  rw [leaveTest_eq]
  refine ⟨?_, rfl, rfl, rfl⟩
  rw [onRoll_roll, restIn]
  unfold leavingRoll
  split
  · rfl
  · rfl

theorem goIdle_rests (s : State) : RollRests s (goIdle s) { s.roll with state := .idle, timer := none } :=
  rests_on_leaving s .idle none

theorem goWatch_rests (s : State) :
    RollRests s (goWatch s) { s.roll with state := .watch, timer := some ⟨s.timeBase, 500⟩ } :=
  rests_on_leaving s .watch (some ⟨s.timeBase, 500⟩)

theorem interventionContributions_eq (s : State) : interventionContributions s = fullContributions s := by
  refine quad_ext fun c => ?_
  rw [interventionContributions, fullContributions, quadGet_map, quadGet_map]
  rfl

theorem leavingRoll_interventions (s : State) (r : Roll) : (leavingRoll s r).interventions = r.interventions := by
  unfold leavingRoll
  split
  · rfl
  · rfl

theorem goIntervene_intervenes {s : State} {a : Int} (ha : lateral s = some a) :
    RollIntervenes s (goIntervene s) s.roll a := by
  have hsize : (lateralSize s).getD 0 = a.natAbs := by rw [lateralSize, ha]; rfl
  rw [RollIntervenes, ← leavingRoll_interventions s s.roll, ← interventionContributions_eq, ← hsize, goIntervene,
    leaveTest_eq]
  exact ⟨requestTally_touches _ _ .roll (by decide), requestTally_touches _ _ .air (by decide),
    requestTally_touches _ _ .alerts (by decide), (requestTally_store _ _).trans (requestTally_store 0 s).symm⟩

/-- A roll monitor outside TEST that counts a test withheld and goes to IDLE. -/
theorem withholdTest_withholds {s : State} (hs : s.roll.state ≠ .test) : (withholdTest s).roll = { s.roll with
      state := .idle, timer := none, contributions := Quad.const 0, stretch := 0
      withheld := min (s.roll.withheld + 1) 65535 } ∧ (withholdTest s).air = s.air := by
  rw [withholdTest, goIdle, leaveTest_of_other hs]
  exact ⟨rfl, rfl⟩

/-! ### A commitment request (R95) -/

section Request

variable {s : State} {sd : Side} {cs : List Channel}

theorem requestCommitment_of_held (h : s.air.commitment.isSome = true) : requestCommitment sd cs s = (s, none) := if_pos h

theorem requestCommitment_of_unready (h : ¬s.air.commitment.isSome = true) (hs : s.air.state ≠ .ready) :
    requestCommitment sd cs s = (s.onAir fun a => { a with refusedState := satInc a.refusedState }, none) :=
  (if_neg h).trans (if_pos hs)

theorem requestCommitment_of_short (h : ¬s.air.commitment.isSome = true) (hs : ¬s.air.state ≠ .ready)
    (hp : projectedReservoir s < t3Floor s.tables.t3 + commitmentAmount s cs) :
    requestCommitment sd cs s = (s.onAir fun a => { a with refusedFloor := satInc a.refusedFloor }, none) :=
  (if_neg h).trans ((if_neg hs).trans (if_pos hp))

theorem requestCommitment_of_granted (h : ¬s.air.commitment.isSome = true) (hs : ¬s.air.state ≠ .ready)
    (hp : ¬projectedReservoir s < t3Floor s.tables.t3 + commitmentAmount s cs) :
    requestCommitment sd cs s = (s.onAir fun a => { a with
      commitment := some ⟨commitmentAmount s cs, sd, cs, s.timeBase⟩, grants := satInc a.grants },
      some (commitmentAmount s cs)) :=
  (if_neg h).trans ((if_neg hs).trans (if_neg hp))

/-- A commitment request neither reads nor changes the roll record. -/
theorem requestCommitment_onRoll (sd : Side) (cs : List Channel) (s : State) (f : Roll → Roll) :
    requestCommitment sd cs (s.onRoll f) = ((requestCommitment sd cs s).1.onRoll f, (requestCommitment sd cs s).2) := by
  by_cases h : s.air.commitment.isSome = true
  · rw [requestCommitment_of_held h, requestCommitment_of_held (s := s.onRoll f) h]
  by_cases hs : s.air.state ≠ .ready
  · rw [requestCommitment_of_unready h hs, requestCommitment_of_unready (s := s.onRoll f) h hs]
    rfl
  by_cases hp : projectedReservoir s < t3Floor s.tables.t3 + commitmentAmount s cs
  · rw [requestCommitment_of_short h hs hp, requestCommitment_of_short (s := s.onRoll f) h hs hp]
    rfl
  · rw [requestCommitment_of_granted h hs hp, requestCommitment_of_granted (s := s.onRoll f) h hs hp]
    rfl

end Request

/-! ### A test that is tried (R71, R72) -/

theorem tryTest_of_unready {s : State} {a : Int} (ha : lateral s = some a) (h : ¬testReady s a) :
    tryTest s = withholdTest s := by
  rw [tryTest, currentSide_of_lateral ha]
  by_cases hzero : a = 0
  · rw [if_pos hzero]
  · rw [if_neg hzero]
    exact if_neg (mt (testConditions_iff s hzero).mp h)

section Answered

variable {s s' : State} {a : Int} (ha : lateral s = some a) (h : testReady s a)

include ha h

/-- A test whose conditions hold waits for the air supervisor alone. -/
theorem tryTest_of_refused
    (hasked : requestCommitment (tiltSide a) (channelsOfSide s (tiltSide a)) s = (s', none)) :
    tryTest s = withholdTest s' := by
  obtain ⟨hzero, -⟩ := id h
  rw [tryTest, currentSide_of_lateral ha, if_neg hzero]
  refine (if_pos ((testConditions_iff s hzero).mpr h)).trans ?_
  rw [hasked]

theorem tryTest_of_granted {amount : Nat}
    (hasked : requestCommitment (tiltSide a) (channelsOfSide s (tiltSide a)) s = (s', some amount)) :
    tryTest s = goTest (tiltSide a) amount s' := by
  obtain ⟨hzero, -⟩ := id h
  rw [tryTest, currentSide_of_lateral ha, if_neg hzero]
  refine (if_pos ((testConditions_iff s hzero).mpr h)).trans ?_
  rw [hasked]

end Answered

theorem channelsOfSide_congr {s t : State} (h : t.tables = s.tables) (sd : Side) :
    channelsOfSide t sd = channelsOfSide s sd := by
  simp only [channelsOfSide, assigned, h]

/-- TEST is entered with p_test on the channels of its side (R72). -/
theorem goTest_roll (inner : Side) (amount : Nat) (s : State) : (goTest inner amount s).roll = { s.roll with
    state := .test, timer := some ⟨s.timeBase, t3PulseLength s.tables.t3⟩, testSide := some inner
    commitment := some amount, stretch := 0, tests := min (s.roll.tests + 1) 65535
    contributions := quadMap (fun c _ => if c ∈ channelsOfSide s inner then t3TestPressure s.tables.t3 else 0)
      (Quad.const ()) } := by
  have hcontributions : (goTest inner amount s).roll.contributions =
      quadMap (fun c _ => if c ∈ channelsOfSide s inner then t3TestPressure s.tables.t3 else 0) (Quad.const ()) := by
    refine quad_ext fun c => ?_
    rw [goTest, onRoll_roll, quadGet_map, quadGet_map]
    refine if_congr ?_ rfl rfl
    rw [mem_channelsOfSide, Bool.and_eq_true, beq_iff_eq, assigned]
  rw [← hcontributions]
  rfl

/-- What the air supervisor's answer makes of a test whose conditions hold. -/
theorem tryTest_answered {s : State} {a : Int} (ha : lateral s = some a) (hready : testReady s a)
    (hs : s.roll.state ≠ .test) :
    let asked := requestCommitment (tiltSide a) (channelsOfSide s (tiltSide a)) s
    (tryTest s).air = asked.1.air ∧
      (asked.2 = none → (tryTest s).roll = { s.roll with
        state := .idle, timer := none, contributions := Quad.const 0, stretch := 0
        withheld := min (s.roll.withheld + 1) 65535 }) ∧
      ∀ amount ∈ asked.2, (tryTest s).roll = { s.roll with
        state := .test, timer := some ⟨s.timeBase, t3PulseLength s.tables.t3⟩, testSide := some (tiltSide a)
        commitment := some amount, stretch := 0, tests := min (s.roll.tests + 1) 65535
        contributions := quadMap (fun c _ => if c ∈ channelsOfSide s (tiltSide a) then t3TestPressure s.tables.t3 else 0)
          (Quad.const ()) } := by
  have hasked := requestCommitment_touches s (tiltSide a) (channelsOfSide s (tiltSide a))
  generalize hanswer : requestCommitment (tiltSide a) (channelsOfSide s (tiltSide a)) s = asked at hasked ⊢
  obtain ⟨s', answered⟩ := asked
  have hroll : s'.roll = s.roll := hasked .roll (by decide)
  cases answered with
  | none =>
    rw [tryTest_of_refused ha hready hanswer]
    obtain ⟨hwithheld, hair⟩ := withholdTest_withholds (s := s') (by rw [hroll]; exact hs)
    exact ⟨hair, fun _ => hroll ▸ hwithheld, nofun⟩
  | some amount =>
    have htables : s'.tables = s.tables := hasked .tables (by decide)
    have hclock : s'.timeBase = s.timeBase := hasked .clock (by decide)
    rw [tryTest_of_granted ha hready hanswer]
    refine ⟨rfl, nofun, fun _ hamount => ?_⟩
    obtain rfl := Option.mem_some.mp hamount
    rw [goTest_roll, channelsOfSide_congr htables, hroll, hclock, htables]

theorem tryTest_tries {s : State} {a : Int} (ha : lateral s = some a) (hs : s.roll.state ≠ .test) :
    RollTries s (tryTest s) s.roll a := by
  have hframe := tryTest_touches s
  refine ⟨hframe .alerts (by decide), hframe .store (by decide), fun hunready => ?_, fun hready => ?_⟩
  · rw [tryTest_of_unready ha hunready]
    exact withholdTest_withholds hs
  · exact tryTest_answered ha hready hs

/-! ### What a note in the roll record leaves of the entries -/

section Noted

variable {s t : State} {r : Roll} {a : Int} {f : Roll → Roll} (hf : (f s.roll).state = s.roll.state)

include hf

theorem leavingRoll_onRoll (r : Roll) : leavingRoll (s.onRoll f) r = leavingRoll s r := by
  rw [leavingRoll, onRoll_roll, hf, leavingRoll]

theorem leavingAir_onRoll : leavingAir (s.onRoll f) = leavingAir s := by
  rw [leavingAir, onRoll_roll, hf, leavingAir, onRoll_air]

theorem RollRests.unnoted (h : RollRests (s.onRoll f) t r) : RollRests s t r := by
  rw [RollRests, leavingRoll_onRoll hf, leavingAir_onRoll hf] at h
  exact h

theorem RollIntervenes.unnoted (h : RollIntervenes (s.onRoll f) t r a) : RollIntervenes s t r a := by
  rw [RollIntervenes, leavingRoll_onRoll hf, leavingAir_onRoll hf, requestTally_store] at h
  rw [RollIntervenes, requestTally_store]
  exact h

end Noted

theorem RollTries.unnoted {s t : State} {r : Roll} {a : Int} {f : Roll → Roll} (h : RollTries (s.onRoll f) t r a) :
    RollTries s t r a := by
  unfold RollTries at h
  dsimp only at h
  rw [requestCommitment_onRoll] at h
  exact h

end Sys2Proof.Machine
end

section
/-! The rule of each state of the roll monitor, and the thresholds that every rule keeps (R67, R70 to R82). -/

namespace Sys2Proof.Machine

open Sys2Proof

/-! ### The rules on a set with the lateral acceleration valid -/

/-- A pulse is aborted (R74 case 2). -/
abbrev pulseEnds (s : State) (inner : Side) (a : Int) : Prop :=
  t2Onset s.tables.t2 .a < demandLevel s ∨ t2Onset s.tables.t2 .b < demandLevel s ∨
    ((inner = .left ∧ a < 0) ∨ (inner = .right ∧ 0 < a)) ∨
    (∃ c, t1Assigned s.tables.t1 c = true ∧ t1Side s.tables.t1 c = inner ∧ (chan s c).state ≠ .active) ∨
    s.air.state ≠ .ready

/-- The vehicle speed is known and below v_stop (R79). -/
abbrev drivesSlow (s : State) : Prop := ∃ v ∈ vehicleSpeed s, v < t3VStop s.tables.t3

section Rules

variable {s : State} {a : Int} (ha : lateral s = some a)

include ha

theorem pulseAborted_iff (inner : Side) : pulseAborted s inner = true ↔ pulseEnds s inner a := by
  have hdemand : demandBelowOnset s = false ↔
      t2Onset s.tables.t2 .a < demandLevel s ∨ t2Onset s.tables.t2 .b < demandLevel s := by
    rw [← Bool.not_eq_true, demandBelowOnset_iff]
    omega
  have hside : sideActive s inner = false ↔
      ∃ c, t1Assigned s.tables.t1 c = true ∧ t1Side s.tables.t1 c = inner ∧ (chan s c).state ≠ .active := by
    rw [← Bool.not_eq_true, sideActive_iff]
    simp only [mem_channelsOfSide, not_forall, exists_prop, and_assoc]
  simp only [pulseAborted, pulseEnds, Bool.or_eq_true, Bool.not_eq_true', beq_iff_eq, bne_iff_ne, hdemand, hside,
    turned_iff ha, or_assoc]

theorem idleStep_eq : idleStep s = if t3Enabled s.tables.t3 = true ∧ tipsFromIdle s a then goIntervene s
    else if t3Enabled s.tables.t3 = true ∧ wantsTest s a then tryTest s else s := by
  unfold idleStep
  simp only [Bool.and_eq_true, lateralAtLeast_iff ha, speedVMin_iff]
  by_cases henabled : t3Enabled s.tables.t3 = true
  · simp only [henabled, true_and, if_true]
  · rw [if_neg henabled, if_neg fun ⟨h, _⟩ => henabled h, if_neg fun ⟨h, _⟩ => henabled h]

theorem watchStep_eq : watchStep s = if tips s a then goIntervene s else s := by
  simp only [watchStep, Bool.and_eq_true, lateralAtLeast_iff ha, speedVStop_iff]

theorem recoverStep_eq : recoverStep s = if tips s a then goIntervene s else rampStep s := by
  simp only [recoverStep, Bool.and_eq_true, lateralAtLeast_iff ha, speedVStop_iff]

theorem testStep_eq {inner : Side} (hside : s.roll.testSide = some inner) : testStep s =
    if lifts s inner then goIntervene (s.onRoll fun r => { r with lifts := satInc r.lifts })
    else if tips s a then goIntervene s
    else if pulseEnds s inner a then goWatch (s.onRoll fun r => { r with aborts := satInc r.aborts })
    else if a.natAbs < s.roll.thresholds.aRelease then goIdle (s.onRoll fun r => { r with cuts := satInc r.cuts })
    else s := by
  rw [testStep, hside]
  simp only [liftDetected_iff, Bool.and_eq_true, lateralAtLeast_iff ha, speedVStop_iff, pulseAborted_iff ha,
    lateralBelow_iff ha]

theorem releaseHold_eq : releaseHold s = s.onRoll fun r => { r with
    timer := if a.natAbs < r.thresholds.aRelease then some (r.timer.getD ⟨s.timeBase, 300⟩) else none } := by
  unfold releaseHold
  by_cases hbelow : a.natAbs < s.roll.thresholds.aRelease
  · rw [if_pos ((lateralBelow_iff ha _).mpr hbelow), State.onRoll, State.onRoll, if_pos hbelow]
    cases htimer : s.roll.timer with
    | none => rfl
    | some tm =>
      have hsame : s.onRoll (fun r => { r with timer := some tm }) = s := by rw [State.onRoll, ← htimer]
      exact hsame.symm
  · rw [if_neg (mt (lateralBelow_iff ha _).mp hbelow), State.onRoll, State.onRoll, if_neg hbelow]

/-- INTERVENE renews the contributions and then judges its end (R78, R79). -/
theorem interveneStep_eq : interveneStep s = s.onRoll fun r =>
    if drivesSlow s then { r with contributions := fullContributions s, state := .recover, timer := none }
    else { r with
      contributions := fullContributions s
      timer := if a.natAbs < r.thresholds.aRelease then some (r.timer.getD ⟨s.timeBase, 300⟩) else none } := by
  unfold interveneStep
  rw [interventionContributions_eq]
  by_cases hslow : drivesSlow s
  · simp only [if_pos hslow]
    exact if_pos ((below_iff _ _).mpr hslow)
  · simp only [if_neg hslow]
    exact (if_neg (mt (below_iff _ _).mp hslow)).trans (releaseHold_eq (s := s.onRoll _) ha)

theorem watchExpiry_eq : watchExpiry s =
    if tips s a then goIntervene s else if wantsTest s a then tryTest s else goIdle s := by
  have hvalid : ¬(lateral s).isNone = true := by simp [ha]
  refine (if_neg hvalid).trans ?_
  simp only [Bool.and_eq_true, lateralAtLeast_iff ha, speedVStop_iff, speedVMin_iff]

end Rules

/-! ### The rule of the state -/

section OfState

variable {s : State}

theorem rollStateStep_of_idle (h : s.roll.state = .idle) : rollStateStep s = idleStep s := by rw [rollStateStep, h]

theorem rollStateStep_of_test (h : s.roll.state = .test) : rollStateStep s = testStep s := by rw [rollStateStep, h]

theorem rollStateStep_of_watch (h : s.roll.state = .watch) : rollStateStep s = watchStep s := by rw [rollStateStep, h]

theorem rollStateStep_of_intervene (h : s.roll.state = .intervene) : rollStateStep s = interveneStep s := by
  rw [rollStateStep, h]

theorem rollStateStep_of_recover (h : s.roll.state = .recover) : rollStateStep s = recoverStep s := by
  rw [rollStateStep, h]

theorem rollInvalidStep_of_idle (h : s.roll.state = .idle) : rollInvalidStep s = s := by rw [rollInvalidStep, h]

theorem rollInvalidStep_of_test (h : s.roll.state = .test) : rollInvalidStep s = abortToIdle s := by
  rw [rollInvalidStep, h]

theorem rollInvalidStep_of_watch (h : s.roll.state = .watch) : rollInvalidStep s = goIdle s := by
  rw [rollInvalidStep, h]

theorem rollInvalidStep_of_intervene (h : s.roll.state = .intervene) : rollInvalidStep s = goRecover s := by
  rw [rollInvalidStep, h]

theorem rollInvalidStep_of_recover (h : s.roll.state = .recover) : rollInvalidStep s = rampStep s := by
  rw [rollInvalidStep, h]

/-! ### The expiry (R69) -/

theorem rollTimerExpiry_of_waiting (h : timerExpired s.timeBase s.roll.timer = false) : rollTimerExpiry s = s :=
  if_neg (by simp [h])

variable (hdue : timerExpired s.timeBase s.roll.timer = true)

include hdue

theorem rollTimerExpiry_of_test (h : s.roll.state = .test) :
    rollTimerExpiry s = testExpiry (updateThresholds s) := by
  have hs : (updateThresholds s).roll.state = .test := h
  simp only [rollTimerExpiry, if_pos hdue, hs]

theorem rollTimerExpiry_of_watch (h : s.roll.state = .watch) :
    rollTimerExpiry s = watchExpiry (updateThresholds s) := by
  have hs : (updateThresholds s).roll.state = .watch := h
  simp only [rollTimerExpiry, if_pos hdue, hs]

theorem rollTimerExpiry_of_intervene (h : s.roll.state = .intervene) :
    rollTimerExpiry s = goRecover (updateThresholds s) := by
  have hs : (updateThresholds s).roll.state = .intervene := h
  simp only [rollTimerExpiry, if_pos hdue, hs]

/-- In IDLE and RECOVER an expiry computes the thresholds alone. -/
theorem rollTimerExpiry_of_rest (h : s.roll.state = .idle ∨ s.roll.state = .recover) :
    rollTimerExpiry s = updateThresholds s := by
  have hs : (updateThresholds s).roll.state = .idle ∨ (updateThresholds s).roll.state = .recover := h
  rcases hs with hs | hs
  · simp only [rollTimerExpiry, if_pos hdue, hs]
  · simp only [rollTimerExpiry, if_pos hdue, hs]

end OfState

theorem testExpiry_of_valid {s : State} {a : Int} (ha : lateral s = some a) :
    testExpiry s = goWatch (s.onRoll fun r => { r with timeouts := satInc r.timeouts }) :=
  if_neg (by simp [ha])

theorem testExpiry_of_invalid {s : State} (ha : lateral s = none) : testExpiry s = abortToIdle s :=
  if_pos (by simp [ha])

theorem watchExpiry_of_invalid {s : State} (ha : lateral s = none) : watchExpiry s = goIdle s :=
  if_pos (by simp [ha])

/-! ### The thresholds are those of the set or of the expiry (R67) -/

theorem leavingRoll_thresholds (s : State) (r : Roll) : (leavingRoll s r).thresholds = r.thresholds := by
  unfold leavingRoll
  split
  · rfl
  · rfl

theorem RollRests.thresholds {s t : State} {r : Roll} (h : RollRests s t r) : t.roll.thresholds = r.thresholds := by
  obtain ⟨hroll, -⟩ := h
  rw [hroll]
  exact leavingRoll_thresholds s r

theorem RollIntervenes.thresholds {s t : State} {r : Roll} {a : Int} (h : RollIntervenes s t r a) :
    t.roll.thresholds = r.thresholds := by
  obtain ⟨hroll, -⟩ := h
  rw [hroll]
  exact leavingRoll_thresholds s r

theorem tryTest_thresholds (s : State) : (tryTest s).roll.thresholds = s.roll.thresholds := by
  have hwithheld (u : State) : (withholdTest u).roll.thresholds = u.roll.thresholds := (goIdle_rests u).thresholds
  unfold tryTest
  split
  · next inner _ =>
    split
    · have hroll : (requestCommitment inner (channelsOfSide s inner) s).1.roll = s.roll :=
        requestCommitment_touches s inner (channelsOfSide s inner) .roll (by decide)
      generalize requestCommitment inner (channelsOfSide s inner) s = asked at hroll ⊢
      obtain ⟨s', _ | amount⟩ := asked
      · exact (hwithheld s').trans (congrArg Roll.thresholds hroll)
      · exact (congrArg Roll.thresholds hroll :)
    · exact hwithheld s
  · exact hwithheld s

theorem rampStep_thresholds (s : State) : (rampStep s).roll.thresholds = s.roll.thresholds := by
  unfold rampStep
  dsimp only
  split
  · exact (goIdle_rests s).thresholds
  · rfl

theorem abortToIdle_thresholds (s : State) : (abortToIdle s).roll.thresholds = s.roll.thresholds :=
  (goIdle_rests (s.onRoll fun r => { r with aborts := satInc r.aborts })).thresholds

section Kept

variable {s : State} {a : Int} (ha : lateral s = some a)

include ha

theorem goIntervene_thresholds : (goIntervene s).roll.thresholds = s.roll.thresholds :=
  (goIntervene_intervenes ha).thresholds

theorem idleStep_thresholds : (idleStep s).roll.thresholds = s.roll.thresholds := by
  rw [idleStep_eq ha]
  split_ifs
  · exact goIntervene_thresholds ha
  · exact tryTest_thresholds s
  · rfl

theorem testStep_thresholds : (testStep s).roll.thresholds = s.roll.thresholds := by
  cases hside : s.roll.testSide with
  | none =>
    rw [testStep, hside]
  | some inner =>
    rw [testStep_eq ha hside]
    split_ifs
    · exact goIntervene_thresholds (s := s.onRoll fun r => { r with lifts := satInc r.lifts }) ha
    · exact goIntervene_thresholds ha
    · exact (goWatch_rests (s.onRoll fun r => { r with aborts := satInc r.aborts })).thresholds
    · exact (goIdle_rests (s.onRoll fun r => { r with cuts := satInc r.cuts })).thresholds
    · rfl

theorem watchStep_thresholds : (watchStep s).roll.thresholds = s.roll.thresholds := by
  rw [watchStep_eq ha]
  split
  · exact goIntervene_thresholds ha
  · rfl

theorem recoverStep_thresholds : (recoverStep s).roll.thresholds = s.roll.thresholds := by
  rw [recoverStep_eq ha]
  split
  · exact goIntervene_thresholds ha
  · exact rampStep_thresholds s

theorem interveneStep_thresholds : (interveneStep s).roll.thresholds = s.roll.thresholds := by
  rw [interveneStep_eq ha, onRoll_roll]
  split
  · rfl
  · rfl

theorem rollStateStep_thresholds : (rollStateStep s).roll.thresholds = s.roll.thresholds := by
  unfold rollStateStep
  split
  · exact idleStep_thresholds ha
  · exact testStep_thresholds ha
  · exact watchStep_thresholds ha
  · exact interveneStep_thresholds ha
  · exact recoverStep_thresholds ha

theorem watchExpiry_thresholds : (watchExpiry s).roll.thresholds = s.roll.thresholds := by
  rw [watchExpiry_eq ha]
  split_ifs
  · exact goIntervene_thresholds ha
  · exact tryTest_thresholds s
  · exact (goIdle_rests s).thresholds

end Kept

theorem rollInvalidStep_thresholds (s : State) : (rollInvalidStep s).roll.thresholds = s.roll.thresholds := by
  unfold rollInvalidStep
  split
  · rfl
  · exact abortToIdle_thresholds s
  · exact (goIdle_rests s).thresholds
  · rfl
  · exact rampStep_thresholds s

/-! ### Taking a set (R68) -/

/-- What the monitor notes of a set before the rule of its state: the thresholds, and whether it is suspended (R67, R82). -/
def notedOnSet (s : State) (r : Roll) : Roll :=
  { r with thresholds := computeThresholds s, suspended := decide (lateral s = none) }

theorem rollTakesSet_of_valid {s : State} {a : Int} (ha : lateral s = some a) :
    rollTakesSet s = rollStateStep (s.onRoll (notedOnSet s)) := by
  have hvalid : (lateral (updateThresholds s)).isSome = true := Option.isSome_of_mem ha
  refine (if_pos hvalid).trans ?_
  unfold notedOnSet
  rw [ha]
  rfl

theorem rollTakesSet_of_invalid {s : State} (ha : lateral s = none) :
    rollTakesSet s = rollInvalidStep (s.onRoll (notedOnSet s)) := by
  have hinvalid : ¬(lateral (updateThresholds s)).isSome = true := by
    rw [show lateral (updateThresholds s) = none from ha]
    exact Bool.false_ne_true
  refine (if_neg hinvalid).trans ?_
  unfold notedOnSet
  rw [ha]
  rfl

theorem rollTakesSet_thresholds (s : State) : (rollTakesSet s).roll.thresholds = computeThresholds s := by
  cases ha : lateral s with
  | none => rw [rollTakesSet_of_invalid ha]; exact rollInvalidStep_thresholds _
  | some a => rw [rollTakesSet_of_valid ha]; exact rollStateStep_thresholds (s := s.onRoll (notedOnSet s)) ha

theorem rollTimerExpiry_thresholds {s : State} (hdue : timerExpired s.timeBase s.roll.timer = true) :
    (rollTimerExpiry s).roll.thresholds = computeThresholds s := by
  cases hs : s.roll.state with
  | idle => rw [rollTimerExpiry_of_rest hdue (.inl hs)]; rfl
  | recover => rw [rollTimerExpiry_of_rest hdue (.inr hs)]; rfl
  | intervene => rw [rollTimerExpiry_of_intervene hdue hs]; rfl
  | test =>
    rw [rollTimerExpiry_of_test hdue hs]
    cases ha : lateral s with
    | none =>
      rw [testExpiry_of_invalid (s := updateThresholds s) ha]
      exact abortToIdle_thresholds _
    | some a =>
      rw [testExpiry_of_valid (s := updateThresholds s) ha]
      exact (goWatch_rests _).thresholds
  | watch =>
    rw [rollTimerExpiry_of_watch hdue hs]
    cases ha : lateral s with
    | none =>
      rw [watchExpiry_of_invalid (s := updateThresholds s) ha]
      exact (goIdle_rests _).thresholds
    | some a => exact watchExpiry_thresholds (s := updateThresholds s) ha

end Sys2Proof.Machine
end

section
/-! The roll monitor as the obligation states it: each state's rule on a set, and the expiry of its timer (R66 to R84). -/

namespace Sys2Proof.Machine

open Sys2Proof

/-! ### Entries from a state with a note in its roll record -/

section Noted

variable {s t : State} {f : Roll → Roll} (hf : (f s.roll).state = s.roll.state)

theorem stays_of_noted (h : t = s.onRoll f) : ChangesOnly [.roll] s t ∧ t.roll = f s.roll :=
  h ▸ ⟨onRoll_touches s f, rfl⟩

theorem recovers_of_noted (h : t = goRecover (s.onRoll f)) :
    ChangesOnly [.roll] s t ∧ t.roll = { f s.roll with state := .recover, timer := none } :=
  stays_of_noted (f := fun r => { f r with state := .recover, timer := none }) h

include hf

theorem tries_of_noted {a : Int} (ha : lateral s = some a) (hs : s.roll.state ≠ .test) (h : t = tryTest (s.onRoll f)) :
    RollTries s t (f s.roll) a :=
  h ▸ (tryTest_tries (s := s.onRoll f) ha (hf.symm ▸ hs)).unnoted

theorem intervenes_of_noted {a : Int} (ha : lateral s = some a) (h : t = goIntervene (s.onRoll f)) :
    RollIntervenes s t (f s.roll) a :=
  h ▸ (goIntervene_intervenes (s := s.onRoll f) ha).unnoted hf

theorem idles_of_noted (h : t = goIdle (s.onRoll f)) : RollRests s t { f s.roll with state := .idle, timer := none } :=
  h ▸ (goIdle_rests (s.onRoll f)).unnoted hf

theorem watches_of_noted (h : t = goWatch (s.onRoll f)) :
    RollRests s t { f s.roll with state := .watch, timer := some ⟨s.timeBase, 500⟩ } :=
  h ▸ (goWatch_rests (s.onRoll f)).unnoted hf

theorem aborts_of_noted (h : t = abortToIdle (s.onRoll f)) : RollRests s t { f s.roll with
    state := .idle, timer := none, aborts := min ((f s.roll).aborts + 1) 65535 } :=
  idles_of_noted (f := fun r => { f r with aborts := satInc (f r).aborts }) hf h

/-- One ramp step, or IDLE where the stretch demand would not outlast it (R80). -/
theorem ramps_of_noted (h : t = rampStep (s.onRoll f)) :
    if (f s.roll).stretch ≤ t3Ramp s.tables.t3 then RollRests s t { f s.roll with state := .idle, timer := none }
    else ChangesOnly [.roll] s t ∧ t.roll = { f s.roll with
      contributions := quadMap (fun _ p => p - t3Ramp s.tables.t3) (f s.roll).contributions
      stretch := (f s.roll).stretch - t3Ramp s.tables.t3 } := by
  split
  next hends => exact idles_of_noted hf (h.trans (if_pos hends))
  next hgoes =>
    exact stays_of_noted (f := fun r => { f r with
      contributions := quadMap (fun _ p => p - t3Ramp s.tables.t3) (f r).contributions
      stretch := (f r).stretch - t3Ramp s.tables.t3 }) (h.trans (if_neg hgoes))

end Noted

/-! ### The set -/

/-- Settles O22: the expiry, the speeds of the sides, and a set in each state, valid or not. Each rule of the model acts on the
state with its thresholds noted, and is read from the state before. -/
theorem rollMonitorFollowsItsRules : Obligations.RollMonitorFollowsItsRules := by
  refine ⟨fun s tm hpowered htimer => ?_, fun s inner => ?_, fun u => ?_⟩
  · -- ROLL_TIMER_EXPIRY (R69, R75, R77, R79, R82)
    have hexec : exec .rollTimerExpiry s = .next (rollTimerExpiry s) := exec_powered rfl hpowered
    rw [hexec]
    have hexpired : timerExpired s.timeBase s.roll.timer = reached s.timeBase tm.start tm.bound := by
      rw [htimer, timerExpired_some]
    refine ⟨fun hearly => ?_, fun hlate => ⟨_, rfl, ?_⟩⟩
    · rw [rollTimerExpiry_of_waiting (hexpired.trans ((reached_false_iff _ _ _).mpr hearly))]
    have hdue := hexpired.trans ((reached_iff _ _ _).mpr hlate)
    intro th r fast
    have hth : th = computeThresholds s := rollTimerExpiry_thresholds hdue
    clear_value th
    subst hth
    refine ⟨computeThresholds_spec s, thresholds_bounded (computeThresholds_spec s), fun hs ha => ?_, fun hs ha => ?_,
      fun hs ha => ?_, fun hs a ha => ?_, fun hs => ?_, fun hs => ?_, rollTimerExpiry_touches s⟩
    · obtain ⟨a, ha⟩ := Option.ne_none_iff_exists'.mp ha
      exact watches_of_noted (f := fun r => { r with
          thresholds := computeThresholds s, timeouts := satInc r.timeouts }) rfl
        ((rollTimerExpiry_of_test hdue hs).trans (testExpiry_of_valid (s := updateThresholds s) ha))
    · exact aborts_of_noted rfl
        ((rollTimerExpiry_of_test hdue hs).trans (testExpiry_of_invalid (s := updateThresholds s) ha))
    · exact idles_of_noted rfl
        ((rollTimerExpiry_of_watch hdue hs).trans (watchExpiry_of_invalid (s := updateThresholds s) ha))
    · have hstep := (rollTimerExpiry_of_watch hdue hs).trans (watchExpiry_eq (s := updateThresholds s) ha)
      exact ⟨fun htips => intervenes_of_noted rfl ha (hstep.trans (if_pos htips)),
        fun hcalm htries => tries_of_noted rfl ha (by simp [hs])
          (hstep.trans ((if_neg hcalm).trans (if_pos htries))),
        fun hcalm hidle => idles_of_noted rfl (hstep.trans ((if_neg hcalm).trans (if_neg hidle)))⟩
    · exact recovers_of_noted (rollTimerExpiry_of_intervene hdue hs)
    · exact stays_of_noted (rollTimerExpiry_of_rest hdue hs)
  · -- v_i and v_o (R66)
    dsimp only
    simp only [← mem_sideSpeeds]
    obtain ⟨hinner, hinner'⟩ := innerSpeed_iff s inner
    obtain ⟨houter, houter'⟩ := outerSpeed_iff s inner
    exact ⟨hinner, hinner', houter, houter'⟩
  · -- A sample set: the rule of the state with its thresholds in force (R67, R68)
    intro t t1 t2 t3 th r fast stays idles ramps
    have hth : th = computeThresholds u := rollTakesSet_thresholds u
    clear_value th
    subst hth
    refine ⟨computeThresholds_spec u, rollTakesSet_touches u, fun a ha => ?_, fun ha => ?_⟩
    · have ht : t = rollStateStep (u.onRoll (notedOnSet u)) := rollTakesSet_of_valid ha
      refine ⟨fun hs => ?_, fun hs inner hside => ?_, fun hs => ?_, fun hs => ?_, fun hs => ?_⟩
      · -- IDLE (R70 to R72, R84)
        have hstep := (ht.trans (rollStateStep_of_idle hs)).trans (idleStep_eq ha)
        exact ⟨fun hstarts => intervenes_of_noted rfl ha (hstep.trans (if_pos hstarts)),
          fun hcalm htries => tries_of_noted rfl ha (by simp [hs]) (hstep.trans ((if_neg hcalm).trans (if_pos htries))),
          fun hcalm hidle => stays_of_noted (hstep.trans ((if_neg hcalm).trans (if_neg hidle)))⟩
      · -- TEST (R73, R74, R76)
        have hstep := (ht.trans (rollStateStep_of_test hs)).trans (testStep_eq (s := u.onRoll _) ha hside)
        intro lift turned aborts
        exact ⟨fun hlift => intervenes_of_noted (f := fun r => { notedOnSet u r with lifts := satInc r.lifts }) rfl ha
            (hstep.trans (if_pos hlift)),
          fun hlift htips => intervenes_of_noted rfl ha (hstep.trans ((if_neg hlift).trans (if_pos htips))),
          fun hlift htips hends => watches_of_noted (f := fun r => { notedOnSet u r with aborts := satInc r.aborts }) rfl
            (hstep.trans ((if_neg hlift).trans ((if_neg htips).trans (if_pos hends)))),
          fun hlift htips hends hcut => idles_of_noted (f := fun r => { notedOnSet u r with cuts := satInc r.cuts }) rfl
            (hstep.trans ((if_neg hlift).trans ((if_neg htips).trans ((if_neg hends).trans (if_pos hcut))))),
          fun hlift htips hends hlasts => stays_of_noted (hstep.trans
            ((if_neg hlift).trans ((if_neg htips).trans ((if_neg hends).trans (if_neg (Nat.not_lt.mpr hlasts))))))⟩
      · -- WATCH (R77)
        have hstep := (ht.trans (rollStateStep_of_watch hs)).trans (watchStep_eq ha)
        exact ⟨fun htips => intervenes_of_noted rfl ha (hstep.trans (if_pos htips)),
          fun hcalm => stays_of_noted (hstep.trans (if_neg hcalm))⟩
      · -- INTERVENE (R78, R79)
        have hstep := (ht.trans (rollStateStep_of_intervene hs)).trans (interveneStep_eq ha)
        have hroll := congrArg State.roll hstep
        refine ⟨hstep ▸ (onRoll_touches u (notedOnSet u)).andThen (onRoll_touches _ _), ?_⟩
        intro full slow
        exact ⟨fun hslow => hroll.trans (if_pos hslow),
          fun hslow hbelow => hroll.trans ((if_neg hslow).trans
            (congrArg (fun tm => { full with timer := tm }) (if_pos hbelow))),
          fun hslow hlasts => hroll.trans ((if_neg hslow).trans
            (congrArg (fun tm => { full with timer := tm }) (if_neg (Nat.not_lt.mpr hlasts))))⟩
      · -- RECOVER (R80)
        have hstep := (ht.trans (rollStateStep_of_recover hs)).trans (recoverStep_eq ha)
        exact ⟨fun htips => intervenes_of_noted rfl ha (hstep.trans (if_pos htips)),
          fun hcalm => ramps_of_noted rfl (hstep.trans (if_neg hcalm))⟩
    · -- The lateral acceleration not valid (R82)
      have ht : t = rollInvalidStep (u.onRoll (notedOnSet u)) := rollTakesSet_of_invalid ha
      exact ⟨fun hs => stays_of_noted (ht.trans (rollInvalidStep_of_idle hs)),
        fun hs => aborts_of_noted rfl (ht.trans (rollInvalidStep_of_test hs)),
        fun hs => idles_of_noted rfl (ht.trans (rollInvalidStep_of_watch hs)),
        fun hs => recovers_of_noted (ht.trans (rollInvalidStep_of_intervene hs)),
        fun hs => ramps_of_noted rfl (ht.trans (rollInvalidStep_of_recover hs))⟩

end Sys2Proof.Machine
end

section
/-! What the blocks that take a set leave of the air record: the roll monitor changes its reserve account alone, and the air
supervisor acts once, on the record and the inputs of the set (R25, R68, R76, R95, R96). -/

namespace Sys2Proof.Machine

open Sys2Proof

/-! ### The air record beside its reserve account -/

/-- The air record but for the reserve account (R86, R95). -/
def supervision (a : Air) : Air := { a with commitment := none, grants := 0, refusedState := 0, refusedFloor := 0 }

/-- Between two states the reserve account alone changes of the air record. -/
def AccountOnly (s t : State) : Prop := supervision t.air = supervision s.air

theorem AccountOnly.refl (s : State) : AccountOnly s s := rfl

theorem AccountOnly.andThen {s t u : State} (h : AccountOnly s t) (k : AccountOnly t u) : AccountOnly s u := Eq.trans k h

theorem AccountOnly.symm {s t : State} (h : AccountOnly s t) : AccountOnly t s := Eq.symm h

theorem AccountOnly.of_air {s t : State} (h : t.air = s.air) : AccountOnly s t := congrArg supervision h

theorem AccountOnly.ite {s t u : State} (b : Prop) [Decidable b] (h : AccountOnly s t) (k : AccountOnly s u) :
    AccountOnly s (if b then t else u) := by
  split
  · exact h
  · exact k

/-- The later air record, with its own account and everything else of the earlier one. -/
theorem AccountOnly.air {s t : State} (h : AccountOnly s t) : t.air = { s.air with
    commitment := t.air.commitment, grants := t.air.grants
    refusedState := t.air.refusedState, refusedFloor := t.air.refusedFloor } :=
  congrArg (fun a => { a with
    commitment := t.air.commitment, grants := t.air.grants
    refusedState := t.air.refusedState, refusedFloor := t.air.refusedFloor }) h

/-! ### The roll monitor -/

section Roll

variable (s : State)

theorem requestCommitment_accountOnly (sd : Side) (cs : List Channel) : AccountOnly s (requestCommitment sd cs s).1 := by
  unfold requestCommitment
  dsimp only
  split
  · rfl
  · split
    · rfl
    · split
      · rfl
      · rfl

theorem leaveTest_accountOnly : AccountOnly s (leaveTest s) := .ite _ rfl rfl

theorem goIdle_accountOnly : AccountOnly s (goIdle s) := leaveTest_accountOnly s

theorem goWatch_accountOnly : AccountOnly s (goWatch s) := leaveTest_accountOnly s

theorem goIntervene_accountOnly : AccountOnly s (goIntervene s) :=
  (leaveTest_accountOnly s).andThen (.of_air (requestTally_touches _ _ .air (by decide)))

theorem withholdTest_accountOnly : AccountOnly s (withholdTest s) := goIdle_accountOnly s

theorem abortToIdle_accountOnly : AccountOnly s (abortToIdle s) := goIdle_accountOnly (s.onRoll _)

theorem tryTest_accountOnly : AccountOnly s (tryTest s) := by
  unfold tryTest
  split
  · next inner _ =>
    refine .ite _ ?_ (withholdTest_accountOnly s)
    have hasked := requestCommitment_accountOnly s inner (channelsOfSide s inner)
    generalize requestCommitment inner (channelsOfSide s inner) s = asked at hasked ⊢
    obtain ⟨s', _ | amount⟩ := asked
    · exact hasked.andThen (withholdTest_accountOnly s')
    · exact hasked
  · exact withholdTest_accountOnly s

theorem rampStep_accountOnly : AccountOnly s (rampStep s) := .ite _ (goIdle_accountOnly s) rfl

theorem idleStep_accountOnly : AccountOnly s (idleStep s) :=
  .ite _ (.ite _ (goIntervene_accountOnly s) (.ite _ (tryTest_accountOnly s) rfl)) rfl

theorem testStep_accountOnly : AccountOnly s (testStep s) := by
  unfold testStep
  dsimp only
  split
  · exact .ite _ (goIntervene_accountOnly (s.onRoll _)) (.ite _ (goIntervene_accountOnly s)
      (.ite _ (goWatch_accountOnly (s.onRoll _)) (.ite _ (goIdle_accountOnly (s.onRoll _)) rfl)))
  · rfl

theorem watchStep_accountOnly : AccountOnly s (watchStep s) := .ite _ (goIntervene_accountOnly s) rfl

theorem interveneStep_accountOnly : AccountOnly s (interveneStep s) :=
  .ite _ rfl (.ite _ (.ite _ rfl rfl) rfl)

theorem recoverStep_accountOnly : AccountOnly s (recoverStep s) :=
  .ite _ (goIntervene_accountOnly s) (rampStep_accountOnly s)

theorem rollStateStep_accountOnly : AccountOnly s (rollStateStep s) := by
  unfold rollStateStep
  split
  · exact idleStep_accountOnly s
  · exact testStep_accountOnly s
  · exact watchStep_accountOnly s
  · exact interveneStep_accountOnly s
  · exact recoverStep_accountOnly s

theorem rollInvalidStep_accountOnly : AccountOnly s (rollInvalidStep s) := by
  unfold rollInvalidStep
  split
  · rfl
  · exact abortToIdle_accountOnly s
  · exact goIdle_accountOnly s
  · rfl
  · exact rampStep_accountOnly s

theorem rollTakesSet_accountOnly : AccountOnly s (rollTakesSet s) :=
  .ite _ (rollStateStep_accountOnly ((updateThresholds s).onRoll _))
    (rollInvalidStep_accountOnly ((updateThresholds s).onRoll _))

end Roll

/-! ### An accepted set -/

/-- What the takers of a set other than the air supervisor leave of what the supervisor reads and keeps. -/
structure BesideAir (s t : State) : Prop where
  frame : ChangesOnly setParts s t
  account : AccountOnly s t

theorem BesideAir.of_frame {ps : List Part} {s t : State} (h : ChangesOnly ps s t) (ha : Part.air ∉ ps)
    (hps : ps ⊆ setParts) : BesideAir s t :=
  ⟨h.within hps, .of_air (h .air ha)⟩

/-- The air supervisor acts once on a set, on the air record and the inputs as they stand. -/
theorem handSet_air (v : State) : ∃ u, BesideAir v u ∧ BesideAir (airTakesSet u) (handSet v) := by
  have hperm : setTakers.Perm [airTakesSet, estimatorTakesSet, arbiterTakesSet, rollTakesSet, tyresTakeSet] :=
    List.perm_middle (l₁ := [estimatorTakesSet, arbiterTakesSet])
  refine handSet_once (E := BesideAir) (fun s => ⟨ChangesOnly.nothing _ s, .refl s⟩)
    (fun h k => ⟨h.frame.andThen k.frame, h.account.andThen k.account⟩) hperm ?_
    (fun s => .of_frame (spend_touches s) (by decide) (by decide)) v
  simp only [List.mem_cons, List.not_mem_nil, or_false, forall_eq_or_imp, forall_eq]
  exact ⟨fun s => .of_frame (estimatorTakesSet_touches s) (by decide) (by decide),
    fun s => .of_frame (arbiterTakesSet_touches s) (by decide) (by decide),
    fun s => ⟨(rollTakesSet_touches s).within (by decide), rollTakesSet_accountOnly s⟩,
    fun s => .of_frame (tyresTakeSet_touches s) (by decide) (by decide)⟩

/-- An accepted set for the air supervisor: it takes the set in a state `u` with the clock, the link record and the air
record of before, and with the inputs that the set leaves. -/
theorem acceptedSet_air {s : State} {bytes : List Byte} (h : AcceptsSet s bytes) :
    ∃ t u, exec (.sampleSetArrival bytes) s = .next t ∧ u.timeBase = s.timeBase ∧ u.link = s.link ∧ AccountOnly s u ∧
      AccountOnly (airTakesSet u) t ∧ ∀ i, reading t i = reading u i := by
  obtain ⟨hframe, -⟩ := beforeTakers_frame bytes s
  obtain ⟨u, hu, ht⟩ := handSet_air (beforeTakers bytes s)
  refine ⟨takeSet bytes s, u, exec_acceptedSet h, ?_, ?_, ?_, ht.account, reading_congr ?_⟩
  · exact Eq.trans (hu.frame .clock (by decide)) (hframe .clock (by decide))
  · exact Eq.trans (hu.frame .link (by decide)) (hframe .link (by decide))
  · exact (AccountOnly.of_air (hframe .air (by decide))).andThen hu.account
  · exact Eq.trans (ht.frame .sample (by decide)) (airTakesSet_touches u .sample (by decide))

end Sys2Proof.Machine
end

section
/-! The air supervisor's rules on a set, each as an equation: the runs, the supply presence and state, the entries of R91 and
R93, and the control-line check (R87 to R93, R97). -/

namespace Sys2Proof.Machine

open Sys2Proof

/-! ### Presence (R89) -/

section Presence

variable {s : State}

theorem nextPresence_of_unknown (h : s.air.presence = .unknown) :
    nextPresence s = if readsAtLeast s inputSupply 450 then .present else .unknown := by rw [nextPresence, h]

theorem nextPresence_of_present (h : s.air.presence = .present) :
    nextPresence s = if runLasted s.timeBase s.air.lostRun 100 then .lost else .present := by rw [nextPresence, h]

theorem nextPresence_of_lost (h : s.air.presence = .lost) :
    nextPresence s = if runLasted s.timeBase s.air.presentRun 1000 then .present else .lost := by rw [nextPresence, h]

end Presence

/-! ### Supply state (R90) -/

section SupplyState

variable {s : State}

theorem nextSupplyState_of_lost (h : s.air.presence = .lost) : nextSupplyState s = .supplyLost := if_pos h

theorem nextSupplyState_of_unknown (h : s.air.presence = .unknown) : nextSupplyState s = .unknown :=
  (if_neg (by simp [h])).trans (if_pos h)

/-- An input that is not valid leaves the supply state unknown. -/
theorem nextSupplyState_of_unread (h : s.air.presence = .present)
    (hread : reading s inputSupply = none ∨ reading s inputReservoir = none) : nextSupplyState s = .unknown := by
  rw [nextSupplyState, if_neg (by simp [h]), if_neg (by simp [h])]
  cases hsupply : reading s inputSupply with
  | none => rfl
  | some p => rw [hread.resolve_left (by simp [hsupply])]

theorem nextSupplyState_of_read {r : Nat} (h : s.air.presence = .present) (hsupply : reading s inputSupply ≠ none)
    (hr : reading s inputReservoir = some r) : nextSupplyState s =
      if r < 200 ∨ (s.air.state = .exhausted ∧ r < 220) then .exhausted
      else if runLasted s.timeBase s.air.lowRun 1000 ∨
        ((s.air.state = .low ∨ s.air.state = .exhausted) ∧ r < 470) then .low
      else if 600 ≤ r ∨ (s.air.state = .ready ∧ 580 ≤ r) then .ready
      else .charging := by
  obtain ⟨p, hp⟩ := Option.ne_none_iff_exists'.mp hsupply
  rw [nextSupplyState, if_neg (by simp [h]), if_neg (by simp [h]), hp, hr]

end SupplyState

/-! ### Entries (R91, R93) -/

/-- SUPPLY_LOST is entered (R91). -/
abbrev losesSupply (old new : SupplyState) : Prop := old ≠ .supplyLost ∧ new = .supplyLost

/-- EXHAUSTED is entered, or LOW from a state other than EXHAUSTED (R93). -/
abbrev reservoirFalls (old new : SupplyState) : Prop :=
  (old ≠ .exhausted ∧ new = .exhausted) ∨ (old ≠ .low ∧ old ≠ .exhausted ∧ new = .low)

theorem losesSupply.not_falls {old new : SupplyState} (h : losesSupply old new) : ¬reservoirFalls old new := by
  obtain ⟨-, rfl⟩ := h
  simp [reservoirFalls]

theorem losesSupply.irrefl {x : SupplyState} : ¬losesSupply x x := fun h => h.1 h.2

theorem reservoirFalls.irrefl {x : SupplyState} : ¬reservoirFalls x x :=
  fun h => h.elim (fun h => h.1 h.2) (fun h => h.1 h.2.2)

/-- The capture record of an entry into SUPPLY_LOST (R91, R166). -/
def supplyLossCapture (s : State) : Capture := captureRecord .supplyLost ⟨.block, 4⟩ 0 0 s

theorem enterSupplyLost_eq (s : State) : (enterSupplyLost s).air = { s.air with supplyLost := satInc s.air.supplyLost } ∧
    (enterSupplyLost s).alerts = captured (supplyLossCapture s)
      (raisedAt s s.timeBase .supplyLost ⟨.block, 4⟩ (inputValue s inputSupply) s.alerts) ∧
    (enterSupplyLost s).store = (requestTally 1 s).store := by
  unfold enterSupplyLost
  dsimp only
  generalize hraised : raiseAlert .supplyLost _ _ (s.onAir _) = raised
  have hfilled := fillCaptureBlock_touches raised .supplyLost (blockSubject blockAS)
  refine ⟨?_, ?_, ?_⟩
  · refine Eq.trans (requestTally_touches _ _ .air (by decide)) (Eq.trans (hfilled .air (by decide)) ?_)
    rw [← hraised]
    rfl
  · refine Eq.trans (requestTally_touches _ _ .alerts (by decide)) ((fillCapture_alerts _ _ _ _ _).trans ?_)
    rw [← hraised]
    rfl
  · rw [requestTally_store, requestTally_store, hfilled .clock (by decide), hfilled .store (by decide), ← hraised]
    rfl

/-- The supply state has been moved to `new`, without the effects of its entry. -/
def movedSupply (new : SupplyState) (s : State) : State := s.onAir fun a => { a with state := new }

theorem movedSupply_same (s : State) : movedSupply s.air.state s = s := rfl

/-- The evaluation of the supply state: the state moves, and the entries into SUPPLY_LOST and into a low state act. -/
theorem evaluateSupply_eq (s : State) : evaluateSupply s =
    if losesSupply s.air.state (nextSupplyState s) then enterSupplyLost (movedSupply (nextSupplyState s) s)
    else if reservoirFalls s.air.state (nextSupplyState s) then raiseReservoirLow (movedSupply (nextSupplyState s) s)
    else movedSupply (nextSupplyState s) s := by
  unfold evaluateSupply
  dsimp only
  split
  · next hsame => rw [hsame, if_neg losesSupply.irrefl, if_neg reservoirFalls.irrefl, movedSupply_same]
  · next hmoves =>
    have hne : s.air.state ≠ nextSupplyState s := Ne.symm hmoves
    generalize nextSupplyState s = new at hne ⊢
    cases new with
    | supplyLost => exact (if_pos ⟨hne, rfl⟩).symm
    | exhausted => exact ((if_neg (by simp)).trans (if_pos (.inl ⟨hne, rfl⟩))).symm
    | low =>
      refine Eq.symm ((if_neg (by simp)).trans ?_)
      by_cases hempty : s.air.state = .exhausted
      · exact (if_neg (by simp [hempty])).trans (if_pos hempty).symm
      · exact (if_pos (.inr ⟨hne, hempty, rfl⟩)).trans (if_neg hempty).symm
    | unknown => exact ((if_neg (by simp)).trans (if_neg (by simp))).symm
    | charging => exact ((if_neg (by simp)).trans (if_neg (by simp))).symm
    | ready => exact ((if_neg (by simp)).trans (if_neg (by simp))).symm

theorem evaluateSupply_cases (s : State) :
    (losesSupply s.air.state (nextSupplyState s) ∧ ¬reservoirFalls s.air.state (nextSupplyState s) ∧
      evaluateSupply s = enterSupplyLost (movedSupply (nextSupplyState s) s)) ∨
    (¬losesSupply s.air.state (nextSupplyState s) ∧ reservoirFalls s.air.state (nextSupplyState s) ∧
      evaluateSupply s = raiseReservoirLow (movedSupply (nextSupplyState s) s)) ∨
    (¬losesSupply s.air.state (nextSupplyState s) ∧ ¬reservoirFalls s.air.state (nextSupplyState s) ∧
      evaluateSupply s = movedSupply (nextSupplyState s) s) := by
  rw [evaluateSupply_eq]
  by_cases hloses : losesSupply s.air.state (nextSupplyState s)
  · exact .inl ⟨hloses, hloses.not_falls, if_pos hloses⟩
  by_cases hfalls : reservoirFalls s.air.state (nextSupplyState s)
  · exact .inr (.inl ⟨hloses, hfalls, (if_neg hloses).trans (if_pos hfalls)⟩)
  · exact .inr (.inr ⟨hloses, hfalls, (if_neg hloses).trans (if_neg hfalls)⟩)

theorem evaluateSupply_air (s : State) : (evaluateSupply s).air = { s.air with
    state := nextSupplyState s
    supplyLost := if losesSupply s.air.state (nextSupplyState s) then satInc s.air.supplyLost else s.air.supplyLost
    reservoirLow := if reservoirFalls s.air.state (nextSupplyState s) then satInc s.air.reservoirLow
      else s.air.reservoirLow } := by
  obtain ⟨hloses, hfalls, heq⟩ | ⟨hloses, hfalls, heq⟩ | ⟨hloses, hfalls, heq⟩ := evaluateSupply_cases s
  · rw [heq, if_pos hloses, if_neg hfalls]
    obtain ⟨hair, -⟩ := enterSupplyLost_eq (movedSupply (nextSupplyState s) s)
    exact hair
  · rw [heq, if_neg hloses, if_pos hfalls]
    rfl
  · rw [heq, if_neg hloses, if_neg hfalls]
    rfl

/-- The raise at an entry into the supply state `new` (R91, R93). -/
def entryRaised (new : SupplyState) (s : State) : Alerts :=
  if losesSupply s.air.state new then
    raisedAt s s.timeBase .supplyLost ⟨.block, 4⟩ (inputValue s inputSupply) s.alerts
  else if reservoirFalls s.air.state new then
    raisedAt s s.timeBase .reservoirLow ⟨.block, 4⟩ (inputValue s inputReservoir) s.alerts
  else s.alerts

theorem evaluateSupply_alerts (s : State) : (evaluateSupply s).alerts =
    if losesSupply s.air.state (nextSupplyState s) then
      captured (supplyLossCapture s) (entryRaised (nextSupplyState s) s)
    else entryRaised (nextSupplyState s) s := by
  unfold entryRaised
  obtain ⟨hloses, hfalls, heq⟩ | ⟨hloses, hfalls, heq⟩ | ⟨hloses, hfalls, heq⟩ := evaluateSupply_cases s
  · rw [heq, if_pos hloses, if_pos hloses]
    obtain ⟨-, halerts, -⟩ := enterSupplyLost_eq (movedSupply (nextSupplyState s) s)
    exact halerts
  · rw [heq, if_neg hloses, if_neg hloses, if_pos hfalls]
    rfl
  · rw [heq, if_neg hloses, if_neg hloses, if_neg hfalls]
    rfl

theorem entryRaised_capture (new : SupplyState) (s : State) :
    (entryRaised new s).capture = s.alerts.capture ∧ (entryRaised new s).sinceCapture = s.alerts.sinceCapture := by
  unfold entryRaised
  split
  · exact placeAlert_capture _ _ _
  · split
    · exact placeAlert_capture _ _ _
    · exact ⟨rfl, rfl⟩

theorem evaluateSupply_store (s : State) : (evaluateSupply s).store =
    if losesSupply s.air.state (nextSupplyState s) then (requestTally 1 s).store else s.store := by
  obtain ⟨hloses, -, heq⟩ | ⟨hloses, -, heq⟩ | ⟨hloses, -, heq⟩ := evaluateSupply_cases s
  · rw [heq, if_pos hloses, requestTally_store]
    obtain ⟨-, -, hstore⟩ := enterSupplyLost_eq (movedSupply (nextSupplyState s) s)
    exact hstore.trans (requestTally_store _ _)
  · rw [heq, if_neg hloses]
    rfl
  · rw [heq, if_neg hloses]
    rfl

theorem evaluateSupply_touches (s : State) : ChangesOnly [.air, .alerts, .store] s (evaluateSupply s) := by
  have hmoved : ChangesOnly [.air, .alerts, .store] s (movedSupply (nextSupplyState s) s) :=
    (onAir_touches s _).within (by decide)
  have hraised (t : State) (f : Air → Air) (cause : Cause) (sub : Subject) (v : Nat) :
      ChangesOnly [.air, .alerts, .store] t (raiseAlert cause sub v (t.onAir f)) :=
    ((onAir_touches t f).within (by decide)).andThen ((raiseAlert_touches _ _ _ _).within (by decide))
  obtain ⟨-, -, heq⟩ | ⟨-, -, heq⟩ | ⟨-, -, heq⟩ := evaluateSupply_cases s
  · rw [heq]
    exact (hmoved.andThen (hraised _ _ _ _ _)).andThen
      (((fillCaptureBlock_touches _ _ _).within (by decide)).andThen ((requestTally_touches _ _).within (by decide)))
  · rw [heq]
    exact hmoved.andThen (hraised _ _ _ _ _)
  · rw [heq]
    exact hmoved

/-! ### The control line (R97) -/

/-- The demand and the control line are apart (R97). -/
abbrev linesApart (s : State) : Prop := s.link.state = .fresh ∧ 50 < s.link.demand ∧
  ∃ p, reading s inputControl = some p ∧ 50 < p ∧ (s.link.demand + 80 < p ∨ p + 80 < s.link.demand)

/-- A mismatch run of 500 ms has not been reported (R97). -/
abbrev mismatchDue (s : State) : Prop := s.air.mismatchReported = false ∧
  ∃ x, s.air.mismatchStart = some x ∧ 500 ≤ (s.timeBase - x).toNat

section ControlLine

variable {s : State}

theorem mismatchOf_of_apart (h : linesApart s) :
    mismatchOf s = some (absDiff s.link.demand (inputValue s inputControl)) := by
  obtain ⟨hfresh, hdemand, p, hp, hline, hfar⟩ := h
  have hdiff : 80 < absDiff s.link.demand p := by
    unfold absDiff
    omega
  obtain ⟨-, rfl⟩ := reading_some.mp hp
  rw [mismatchOf, hfresh, hp]
  exact if_pos ⟨hdemand, hline, hdiff⟩

theorem mismatchOf_of_close (h : ¬linesApart s) : mismatchOf s = none := by
  unfold mismatchOf
  split
  · next p hfresh hp =>
    refine if_neg fun ⟨hdemand, hline, hdiff⟩ => h ⟨hfresh, hdemand, p, hp, hline, ?_⟩
    unfold absDiff at hdiff
    omega
  all_goals rfl

/-- The set ends a mismatch run. -/
theorem controlLine_of_close (h : ¬linesApart s) : controlLinePlausibility s =
    s.onAir fun a => { a with mismatchStart := none, mismatchReported := false } := by
  rw [controlLinePlausibility, mismatchOf_of_close h]

/-- The run has lasted 500 ms and is reported. -/
theorem controlLine_of_due (h : linesApart s) (hdue : mismatchDue s) : controlLinePlausibility s =
    raiseAlert .controlLineMismatch ⟨.block, 4⟩ (absDiff s.link.demand (inputValue s inputControl))
      (s.onAir fun a => { a with mismatchReported := true, mismatches := satInc a.mismatches }) := by
  obtain ⟨hreported, x, hstart, hlong⟩ := hdue
  rw [controlLinePlausibility, mismatchOf_of_apart h, hstart]
  exact if_pos ⟨(reached_iff _ _ _).mpr hlong, hreported⟩

/-- The set starts a mismatch run or leaves a running one. -/
theorem controlLine_of_waiting (h : linesApart s) (hwaits : ¬mismatchDue s) : controlLinePlausibility s =
    s.onAir fun a => { a with mismatchStart := some (a.mismatchStart.getD s.timeBase) } := by
  rw [controlLinePlausibility, mismatchOf_of_apart h]
  cases hstart : s.air.mismatchStart with
  | none => simp only [State.onAir, hstart, Option.getD_none]
  | some x =>
    have hsame : s.onAir (fun a => { a with mismatchStart := some (a.mismatchStart.getD s.timeBase) }) = s := by
      rw [State.onAir, hstart, Option.getD_some, ← hstart]
    rw [hsame]
    exact if_neg fun ⟨hlong, hreported⟩ => hwaits ⟨hreported, x, hstart, (reached_iff _ _ _).mp hlong⟩

end ControlLine

end Sys2Proof.Machine
end

section
/-! The air supervisor's set as a whole: the record, the store and the alerts it leaves (R87, R91, R93, R97). -/

namespace Sys2Proof.Machine

open Sys2Proof

/-! ### Taking a set (R87) -/

section Set

variable (u : State)

/-- The state that the supply state is evaluated in: the runs are up to date and the presence has moved (R88, R89). -/
def judgedPresence (u : State) : State := movePresence (updateSupplyRuns u)

theorem airTakesSet_eq : airTakesSet u = controlLinePlausibility (evaluateSupply (judgedPresence u)) := rfl

theorem evaluated_touches : ChangesOnly [.air, .alerts, .store] u (evaluateSupply (judgedPresence u)) :=
  ChangesOnly.andThen (t := judgedPresence u)
    (((onAir_touches u _).andThen (onAir_touches _ _)).within (by decide)) (evaluateSupply_touches _)

variable {u}

theorem evaluated_apart_iff : linesApart (evaluateSupply (judgedPresence u)) ↔ linesApart u := by
  have hframe := evaluated_touches u
  rw [linesApart, reading_congr (hframe .sample (by decide)), hframe .link (by decide)]

theorem evaluated_due_iff : mismatchDue (evaluateSupply (judgedPresence u)) ↔ mismatchDue u := by
  have hframe := evaluated_touches u
  rw [mismatchDue, evaluateSupply_air, hframe .clock (by decide)]
  exact Iff.rfl

/-- A set with the lines not apart. -/
theorem airTakesSet_of_close (h : ¬linesApart u) : airTakesSet u = (evaluateSupply (judgedPresence u)).onAir
    fun a => { a with mismatchStart := none, mismatchReported := false } :=
  controlLine_of_close (mt evaluated_apart_iff.mp h)

/-- A set with the lines apart for 500 ms, not reported yet. -/
theorem airTakesSet_of_due (h : linesApart u) (hdue : mismatchDue u) : airTakesSet u =
    raiseAlert .controlLineMismatch ⟨.block, 4⟩ (absDiff u.link.demand (inputValue u inputControl))
      ((evaluateSupply (judgedPresence u)).onAir fun a =>
        { a with mismatchReported := true, mismatches := satInc a.mismatches }) := by
  have hframe := evaluated_touches u
  rw [airTakesSet_eq, controlLine_of_due (evaluated_apart_iff.mpr h) (evaluated_due_iff.mpr hdue),
    hframe .link (by decide), inputValue, input, hframe .sample (by decide)]
  rfl

/-- A set with the lines apart, in a run that is young or reported. -/
theorem airTakesSet_of_waiting (h : linesApart u) (hwaits : ¬mismatchDue u) : airTakesSet u =
    (evaluateSupply (judgedPresence u)).onAir fun a =>
      { a with mismatchStart := some (u.air.mismatchStart.getD u.timeBase) } := by
  refine (controlLine_of_waiting (evaluated_apart_iff.mpr h) (mt evaluated_due_iff.mp hwaits)).trans ?_
  have hstart : (evaluateSupply (judgedPresence u)).air.mismatchStart = u.air.mismatchStart := by
    rw [evaluateSupply_air]
    rfl
  have hclock : (evaluateSupply (judgedPresence u)).timeBase = u.timeBase := evaluated_touches u .clock (by decide)
  simp only [State.onAir, hstart, hclock]

theorem airTakesSet_cases (u : State) :
    (linesApart u ∧ mismatchDue u ∧ airTakesSet u =
      raiseAlert .controlLineMismatch ⟨.block, 4⟩ (absDiff u.link.demand (inputValue u inputControl))
        ((evaluateSupply (judgedPresence u)).onAir fun a =>
          { a with mismatchReported := true, mismatches := satInc a.mismatches })) ∨
    (linesApart u ∧ ¬mismatchDue u ∧ airTakesSet u = (evaluateSupply (judgedPresence u)).onAir fun a =>
      { a with mismatchStart := some (u.air.mismatchStart.getD u.timeBase) }) ∨
    (¬linesApart u ∧ airTakesSet u = (evaluateSupply (judgedPresence u)).onAir fun a =>
      { a with mismatchStart := none, mismatchReported := false }) := by
  by_cases h : linesApart u
  · by_cases hdue : mismatchDue u
    · exact .inl ⟨h, hdue, airTakesSet_of_due h hdue⟩
    · exact .inr (.inl ⟨h, hdue, airTakesSet_of_waiting h hdue⟩)
  · exact .inr (.inr ⟨h, airTakesSet_of_close h⟩)

/-- What the control-line check leaves: the air record but for the mismatch run, and the table store. -/
theorem airTakesSet_beside_mismatch (u : State) :
    (airTakesSet u).air = { (evaluateSupply (judgedPresence u)).air with
      mismatchStart := (airTakesSet u).air.mismatchStart, mismatchReported := (airTakesSet u).air.mismatchReported
      mismatches := (airTakesSet u).air.mismatches } ∧
    (airTakesSet u).store = (evaluateSupply (judgedPresence u)).store := by
  obtain ⟨-, -, heq⟩ | ⟨-, -, heq⟩ | ⟨-, heq⟩ := airTakesSet_cases u
  · rw [heq]
    exact ⟨rfl, rfl⟩
  · rw [heq]
    exact ⟨rfl, rfl⟩
  · rw [heq]
    exact ⟨rfl, rfl⟩

variable (u)

theorem airTakesSet_state : (airTakesSet u).air.state = nextSupplyState (judgedPresence u) := by
  obtain ⟨hair, -⟩ := airTakesSet_beside_mismatch u
  rw [hair, evaluateSupply_air]

/-- The air record after a set but for the mismatch run. -/
theorem airTakesSet_air : (airTakesSet u).air = { (judgedPresence u).air with
    state := (airTakesSet u).air.state
    supplyLost := if losesSupply u.air.state (airTakesSet u).air.state then satInc u.air.supplyLost else u.air.supplyLost
    reservoirLow := if reservoirFalls u.air.state (airTakesSet u).air.state then satInc u.air.reservoirLow
      else u.air.reservoirLow
    mismatchStart := (airTakesSet u).air.mismatchStart, mismatchReported := (airTakesSet u).air.mismatchReported
    mismatches := (airTakesSet u).air.mismatches } := by
  obtain ⟨hair, -⟩ := airTakesSet_beside_mismatch u
  rw [airTakesSet_state]
  refine hair.trans ?_
  rw [evaluateSupply_air]
  rfl

theorem airTakesSet_store : (airTakesSet u).store =
    if losesSupply u.air.state (airTakesSet u).air.state then (requestTally 1 u).store else u.store := by
  obtain ⟨-, hstore⟩ := airTakesSet_beside_mismatch u
  rw [airTakesSet_state, hstore, evaluateSupply_store, requestTally_store, requestTally_store]
  rfl

end Set

/-! ### The mismatch run (R97) -/

section Mismatch

variable {u : State}

theorem airTakesSet_mismatch_of_apart (h : linesApart u) :
    (airTakesSet u).air.mismatchStart = some (u.air.mismatchStart.getD u.timeBase) ∧
    ((airTakesSet u).air.mismatchReported = true ↔ u.air.mismatchReported = true ∨ mismatchDue u) ∧
    (mismatchDue u → (airTakesSet u).air.mismatches = min (u.air.mismatches + 1) 65535) ∧
    (¬mismatchDue u → (airTakesSet u).air.mismatches = u.air.mismatches) := by
  by_cases hdue : mismatchDue u
  · obtain ⟨-, x, hstart, -⟩ := id hdue
    rw [airTakesSet_of_due h hdue, hstart]
    refine ⟨?_, iff_of_true rfl (.inr hdue), fun _ => ?_, fun hwaits => absurd hdue hwaits⟩
    · show (evaluateSupply (judgedPresence u)).air.mismatchStart = some x
      rw [evaluateSupply_air]
      exact hstart
    · show satInc (evaluateSupply (judgedPresence u)).air.mismatches = _
      rw [evaluateSupply_air]
      rfl
  · rw [airTakesSet_of_waiting h hdue, onAir_air, evaluateSupply_air]
    exact ⟨rfl, (or_iff_left hdue).symm, fun hlong => absurd hlong hdue, fun _ => rfl⟩

theorem airTakesSet_mismatch_of_close (h : ¬linesApart u) : (airTakesSet u).air.mismatchStart = none ∧
    (airTakesSet u).air.mismatchReported = false ∧ (airTakesSet u).air.mismatches = u.air.mismatches := by
  rw [airTakesSet_of_close h, onAir_air, evaluateSupply_air]
  exact ⟨rfl, rfl, rfl⟩

/-- The set reports a mismatch run. -/
abbrev mismatchNoted (u t : State) : Prop := u.air.mismatchReported = false ∧ t.air.mismatchReported = true

theorem mismatchNoted_iff : mismatchNoted u (airTakesSet u) ↔ linesApart u ∧ mismatchDue u := by
  by_cases h : linesApart u
  · obtain ⟨-, hreported, -⟩ := airTakesSet_mismatch_of_apart h
    rw [mismatchNoted, hreported]
    constructor
    · rintro ⟨hfresh, hold | hdue⟩
      · simp [hfresh] at hold
      · exact ⟨h, hdue⟩
    · rintro ⟨-, hdue⟩
      exact ⟨hdue.1, .inr hdue⟩
  · obtain ⟨-, hreported, -⟩ := airTakesSet_mismatch_of_close h
    rw [mismatchNoted, hreported]
    exact iff_of_false (fun ⟨_, hfalse⟩ => nomatch hfalse) fun ⟨hapart, _⟩ => h hapart

end Mismatch

/-! ### The alerts of a set -/

/-- The raises of a set that leads from `u` to `t`: at an entry of the supply state, and of a mismatch (R91, R93, R97). -/
def setRaised (u t : State) : Alerts :=
  if mismatchNoted u t then raisedAt u u.timeBase .controlLineMismatch ⟨.block, 4⟩
    (absDiff u.link.demand (inputValue u inputControl)) (entryRaised t.air.state u)
  else entryRaised t.air.state u

theorem setRaised_capture (u t : State) :
    (setRaised u t).capture = u.alerts.capture ∧ (setRaised u t).sinceCapture = u.alerts.sinceCapture := by
  obtain ⟨hcapture, hsince⟩ := entryRaised_capture t.air.state u
  unfold setRaised
  split
  · obtain ⟨hplaced, hcount⟩ := placeAlert_capture u.timeBase ⟨.controlLineMismatch, ⟨.block, 4⟩,
      absDiff u.link.demand (inputValue u inputControl), u.timeBase, false, false⟩ (entryRaised t.air.state u)
    exact ⟨hplaced.trans hcapture, hcount.trans hsince⟩
  · exact ⟨hcapture, hsince⟩

theorem evaluated_alerts (u : State) : (evaluateSupply (judgedPresence u)).alerts =
    if losesSupply u.air.state (airTakesSet u).air.state then
      captured (supplyLossCapture u) (entryRaised (airTakesSet u).air.state u)
    else entryRaised (airTakesSet u).air.state u := by
  rw [evaluateSupply_alerts, airTakesSet_state]
  rfl

theorem airTakesSet_alerts (u : State) : (airTakesSet u).alerts =
    if losesSupply u.air.state (airTakesSet u).air.state then captured (supplyLossCapture u) (setRaised u (airTakesSet u))
    else setRaised u (airTakesSet u) := by
  have hevaluated := evaluated_alerts u
  unfold setRaised
  by_cases hnoted : mismatchNoted u (airTakesSet u)
  · obtain ⟨hapart, hdue⟩ := mismatchNoted_iff.mp hnoted
    have halerts : (airTakesSet u).alerts = raisedAt u u.timeBase .controlLineMismatch ⟨.block, 4⟩
        (absDiff u.link.demand (inputValue u inputControl)) (evaluateSupply (judgedPresence u)).alerts := by
      rw [airTakesSet_of_due hapart hdue, raisedAt, ← evaluated_touches u .clock (by decide)]
      rfl
    rw [halerts, if_pos hnoted, hevaluated]
    split
    · exact placeAlert_captured _ _ _ _
    · rfl
  · have halerts : (airTakesSet u).alerts = (evaluateSupply (judgedPresence u)).alerts := by
      obtain ⟨hapart, hdue, -⟩ | ⟨-, -, heq⟩ | ⟨-, heq⟩ := airTakesSet_cases u
      · exact absurd (mismatchNoted_iff.mpr ⟨hapart, hdue⟩) hnoted
      · rw [heq]
        rfl
      · rw [heq]
        rfl
    rw [halerts, if_neg hnoted, hevaluated]

end Sys2Proof.Machine
end

section
/-! The air supervisor's rows on an accepted set, its raises, and its answers to the roll monitor (R88 to R97). -/

namespace Sys2Proof.Machine

open Sys2Proof

/-! ### The rows on a set (R88 to R90) -/

section Rows

variable (u : State)

theorem airTakesSet_runs :
    (airTakesSet u).air.lostRun = (updateSupplyRuns u).air.lostRun ∧
    (airTakesSet u).air.presentRun = (updateSupplyRuns u).air.presentRun ∧
    (airTakesSet u).air.presence = nextPresence (updateSupplyRuns u) ∧
    (airTakesSet u).air.lowRun = (judgedPresence u).air.lowRun := by
  rw [airTakesSet_air]
  exact ⟨rfl, rfl, rfl, rfl⟩

theorem airTakesSet_lowRun : (airTakesSet u).air.lowRun =
    if (airTakesSet u).air.presence = .present ∧ below (reading u inputReservoir) 450 = true then
      some (u.air.lowRun.getD u.timeBase) else none := by
  obtain ⟨-, -, hpresence, hlow⟩ := airTakesSet_runs u
  rw [hpresence, hlow]
  refine if_congr ?_ rfl rfl
  rw [Bool.and_eq_true, beq_iff_eq]
  rfl

variable {u}

/-- Two values chosen by a run that has lasted. -/
theorem chosen_by_run {α : Type} {x a b : α} {now : Stamp} {run : Option Stamp} {d : Nat}
    (h : x = if runLasted now run d then a else b) :
    ((∃ st, run = some st ∧ d ≤ (now - st).toNat) → x = a) ∧ (¬(∃ st, run = some st ∧ d ≤ (now - st).toNat) → x = b) := by
  have hiff : runLasted now run d = true ↔ ∃ st, run = some st ∧ d ≤ (now - st).toNat := runLasted_iff now run d
  exact ⟨fun hlong => h.trans (if_pos (hiff.mpr hlong)), fun hshort => h.trans (if_neg (mt hiff.mp hshort))⟩

theorem airTakesSet_presence_of_unknown (h : u.air.presence = .unknown) : (airTakesSet u).air.presence =
    if atLeast (reading u inputSupply) 450 then .present else .unknown := by
  obtain ⟨-, -, hpresence, -⟩ := airTakesSet_runs u
  rw [hpresence, nextPresence_of_unknown (s := updateSupplyRuns u) h]
  rfl

theorem airTakesSet_presence_of_present (h : u.air.presence = .present) : (airTakesSet u).air.presence =
    if runLasted u.timeBase (airTakesSet u).air.lostRun 100 then .lost else .present := by
  obtain ⟨hlost, -, hpresence, -⟩ := airTakesSet_runs u
  rw [hpresence, nextPresence_of_present (s := updateSupplyRuns u) h, hlost]
  rfl

theorem airTakesSet_presence_of_lost (h : u.air.presence = .lost) : (airTakesSet u).air.presence =
    if runLasted u.timeBase (airTakesSet u).air.presentRun 1000 then .present else .lost := by
  obtain ⟨-, hpresent, hpresence, -⟩ := airTakesSet_runs u
  rw [hpresence, nextPresence_of_lost (s := updateSupplyRuns u) h, hpresent]
  rfl

theorem judgedPresence_presence : (judgedPresence u).air.presence = (airTakesSet u).air.presence := by
  obtain ⟨-, -, hpresence, -⟩ := airTakesSet_runs u
  exact hpresence.symm

/-- The state under a presence that is LOST, or with nothing to judge by. -/
theorem airTakesSet_state_of_unjudged :
    ((airTakesSet u).air.presence = .lost → (airTakesSet u).air.state = .supplyLost) ∧
    ((airTakesSet u).air.presence = .unknown ∨ ((airTakesSet u).air.presence = .present ∧
      (reading u inputSupply = none ∨ reading u inputReservoir = none)) → (airTakesSet u).air.state = .unknown) := by
  rw [airTakesSet_state, ← judgedPresence_presence]
  refine ⟨nextSupplyState_of_lost, ?_⟩
  rintro (hunknown | ⟨hpresent, hunread⟩)
  · exact nextSupplyState_of_unknown hunknown
  · exact nextSupplyState_of_unread hpresent hunread

/-- The state by the reservoir, with both inputs valid. -/
theorem airTakesSet_state_of_read {r : Nat} (h : (airTakesSet u).air.presence = .present)
    (hsupply : reading u inputSupply ≠ none) (hr : reading u inputReservoir = some r) : (airTakesSet u).air.state =
      if r < 200 ∨ (u.air.state = .exhausted ∧ r < 220) then .exhausted
      else if runLasted u.timeBase (airTakesSet u).air.lowRun 1000 ∨
        ((u.air.state = .low ∨ u.air.state = .exhausted) ∧ r < 470) then .low
      else if 600 ≤ r ∨ (u.air.state = .ready ∧ 580 ≤ r) then .ready
      else .charging := by
  obtain ⟨-, -, -, hlow⟩ := airTakesSet_runs u
  rw [airTakesSet_state, hlow]
  exact nextSupplyState_of_read (judgedPresence_presence.trans h) hsupply hr

/-- The first row that applies decides, each row on its own. -/
theorem airTakesSet_state_rows {r : Nat} (h : (airTakesSet u).air.presence = .present)
    (hsupply : reading u inputSupply ≠ none) (hr : reading u inputReservoir = some r) :
    let row3 : Prop := r < 200 ∨ (u.air.state = .exhausted ∧ r < 220)
    let row4 : Prop := (∃ x, (airTakesSet u).air.lowRun = some x ∧ 1000 ≤ (u.timeBase - x).toNat) ∨
      ((u.air.state = .low ∨ u.air.state = .exhausted) ∧ r < 470)
    let row5 : Prop := 600 ≤ r ∨ (u.air.state = .ready ∧ 580 ≤ r)
    (row3 → (airTakesSet u).air.state = .exhausted) ∧ (¬row3 → row4 → (airTakesSet u).air.state = .low) ∧
      (¬row3 → ¬row4 → row5 → (airTakesSet u).air.state = .ready) ∧
      (¬row3 → ¬row4 → ¬row5 → (airTakesSet u).air.state = .charging) := by
  intro row3 row4 row5
  have hstate := airTakesSet_state_of_read h hsupply hr
  have hrow4 : (runLasted u.timeBase (airTakesSet u).air.lowRun 1000 = true ∨
      ((u.air.state = .low ∨ u.air.state = .exhausted) ∧ r < 470)) ↔ row4 := or_congr (runLasted_iff _ _ _) Iff.rfl
  refine ⟨fun h3 => hstate.trans (if_pos h3), fun h3 h4 => ?_, fun h3 h4 h5 => ?_, fun h3 h4 h5 => ?_⟩
  · exact hstate.trans ((if_neg h3).trans (if_pos (hrow4.mpr h4)))
  · exact hstate.trans ((if_neg h3).trans ((if_neg (mt hrow4.mp h4)).trans (if_pos h5)))
  · exact hstate.trans ((if_neg h3).trans ((if_neg (mt hrow4.mp h4)).trans (if_neg h5)))

end Rows

/-! ### The capture record on a set (R91, R166) -/

section Capture

variable {u : State}

theorem airTakesSet_alerts_of_loss (h : losesSupply u.air.state (airTakesSet u).air.state) :
    (airTakesSet u).alerts = captured (supplyLossCapture u) (setRaised u (airTakesSet u)) :=
  (airTakesSet_alerts u).trans (if_pos h)

theorem airTakesSet_alerts_of_supply (h : ¬losesSupply u.air.state (airTakesSet u).air.state) :
    (airTakesSet u).alerts = setRaised u (airTakesSet u) :=
  (airTakesSet_alerts u).trans (if_neg h)

/-- The alerts of a set are its raises, beside the capture record. -/
theorem airTakesSet_alerts_beside_capture (u : State) : (airTakesSet u).alerts = { setRaised u (airTakesSet u) with
    capture := (airTakesSet u).alerts.capture, sinceCapture := (airTakesSet u).alerts.sinceCapture } := by
  by_cases hloses : losesSupply u.air.state (airTakesSet u).air.state
  · rw [airTakesSet_alerts_of_loss hloses]
    exact captured_beside _ _
  · rw [airTakesSet_alerts_of_supply hloses]

end Capture

/-! ### The obligation -/

/-- Settles O23: the rows of the set that the air supervisor takes, its entries and raises, and its answers to the roll
monitor. Each rule is read from the state the set is taken in, which keeps the air record but for the account. -/
theorem supplyFollowsItsRows : Obligations.SupplyFollowsItsRows := by
  refine ⟨fun s bytes haccepts => ?_, fun u => ?_, fun u side channels => ?_⟩
  · -- An accepted set (R88 to R90, R97)
    obtain ⟨t, u, hexec, hclock, hlink, hs, ht, hread⟩ := acceptedSet_air haccepts
    refine ⟨t, hexec, ?_⟩
    rw [ht.air, hs.symm.air, ← hclock, ← hlink]
    simp only [hread]
    obtain ⟨hlost, hpresent, -⟩ := airTakesSet_runs u
    obtain ⟨hsupplyLost, hunknown⟩ := airTakesSet_state_of_unjudged (u := u)
    exact ⟨hlost, hpresent, airTakesSet_lowRun u, airTakesSet_presence_of_unknown,
      fun h => chosen_by_run (airTakesSet_presence_of_present h),
      fun h => chosen_by_run (airTakesSet_presence_of_lost h), hsupplyLost, hunknown, fun _ => airTakesSet_state_rows,
      airTakesSet_mismatch_of_apart, airTakesSet_mismatch_of_close⟩
  · -- The entries and the raises of a set (R91, R93, R97)
    intro t loses falls reports supply raised entered
    obtain ⟨hcapture, hsince⟩ := setRaised_capture u (airTakesSet u)
    refine ⟨?_, ?_, airTakesSet_store u, airTakesSet_alerts_beside_capture u, fun hloses hempty => ?_,
      fun hloses k hfilled => ?_, fun hstays => ?_, airTakesSet_commitment u, airTakesSet_touches u⟩
    · exact congrArg Air.supplyLost (airTakesSet_air u)
    · exact congrArg Air.reservoirLow (airTakesSet_air u)
    · obtain ⟨hnew, hcount⟩ := captured_of_none (k := supplyLossCapture u) (hcapture.trans hempty)
      have halerts : t.alerts = _ := airTakesSet_alerts_of_loss hloses
      rw [halerts, hnew, hcount, hsince]
      exact ⟨rfl, rfl⟩
    · obtain ⟨hkept, hcount⟩ := captured_of_some (k := supplyLossCapture u) (hcapture.trans hfilled)
      have halerts : t.alerts = _ := airTakesSet_alerts_of_loss hloses
      rw [halerts, hkept, hcount, hsince]
      exact ⟨rfl, rfl⟩
    · have halerts : t.alerts = _ := airTakesSet_alerts_of_supply hstays
      rw [halerts]
      exact ⟨hcapture, hsince⟩
  · -- The reserve account (R95, R96)
    intro a asked amount held refused
    refine ⟨fun hheld => ?_, fun hempty hunready => ?_, fun hempty hready hshort => ?_, fun hempty hready hlasts => ?_, rfl⟩
    · exact requestCommitment_of_held (Option.isSome_iff_ne_none.mpr hheld)
    · exact requestCommitment_of_unready (Option.not_isSome_iff_eq_none.mpr hempty) hunready
    · exact requestCommitment_of_short (Option.not_isSome_iff_eq_none.mpr hempty) (not_not_intro hready) hshort
    · exact requestCommitment_of_granted (Option.not_isSome_iff_eq_none.mpr hempty) (not_not_intro hready) hlasts

end Sys2Proof.Machine
end

section
/-! The bounds of the queues and the position map (R101, R103, R107, R111, R148, R152, R154, R161, R168, R169), block by
block: what each operation of a block keeps. -/

namespace Sys2Proof.Machine

open Sys2Proof

/-! ### The own alert queue (R161) -/

/-- What the own alert queue tells raises apart by. -/
def raiseKey (e : Alert) : Cause × Subject := (e.cause, e.subject)

/-- At most four raises, no two of one cause and subject. -/
def RaisesBound (keys : List (Cause × Subject)) : Prop := keys.length ≤ 4 ∧ keys.Nodup

/-- The bound of the own alert queue. -/
def AlertsBound (a : Alerts) : Prop := RaisesBound (a.queue.map raiseKey)

theorem alertsBound_iff (a : Alerts) : AlertsBound a ↔
    a.queue.length ≤ 4 ∧ a.queue.Pairwise fun x y => ¬(x.cause = y.cause ∧ x.subject = y.subject) := by
  simp only [AlertsBound, RaisesBound, List.length_map, List.Nodup, List.pairwise_map, raiseKey, ne_eq, Prod.mk.injEq]

theorem RaisesBound.sublist {k l : List (Cause × Subject)} (h : RaisesBound l) (hs : k.Sublist l) : RaisesBound k :=
  ⟨hs.length_le.trans h.1, h.2.sublist hs⟩

theorem sameAlert_iff (c : Cause) (sub : Subject) (e : Alert) : sameAlert c sub e = true ↔ raiseKey e = (c, sub) := by
  simp [sameAlert, raiseKey]

theorem updateAlert_key (c : Cause) (sub : Subject) (v : Nat) (e : Alert) : raiseKey (updateAlert c sub v e) = raiseKey e := by
  unfold updateAlert
  split
  · rfl
  · rfl

theorem insertAlert_perm (now : Stamp) (new : Alert) (q : List Alert) : (insertAlert now new q).Perm (new :: q) := by
  induction q with
  | nil => exact .refl _
  | cons e q ih =>
    unfold insertAlert
    split
    · exact (ih.cons e).trans (.swap new e q)
    · exact .refl _

theorem dropLastCandidate_sublist (code : Nat) (q : List Alert) : (dropLastCandidate code q).Sublist q := by
  induction q with
  | nil => exact .refl _
  | cons e q ih =>
    unfold dropLastCandidate
    split
    · exact ih.cons_cons e
    · split
      · exact List.sublist_cons_self e q
      · exact .refl _

/-- Whether an entry is one that a raise of a higher priority than `code` may displace (R161). -/
def isCandidate (code : Nat) (e : Alert) : Bool := !e.inTx && causeCode e.cause == code

theorem dropLastCandidate_length {code : Nat} {q : List Alert} (h : q.any (isCandidate code) = true) :
    (dropLastCandidate code q).length < q.length := by
  induction q with
  | nil => exact nomatch h
  | cons e q ih =>
    unfold dropLastCandidate
    split
    · next hrest => exact Nat.succ_lt_succ (ih hrest)
    · next hrest =>
      have hhere : isCandidate code e = true := by
        rw [List.any_cons, Bool.or_eq_true] at h
        exact h.resolve_right hrest
      exact (congrArg List.length (if_pos hhere)).trans_lt (Nat.lt_succ_self _)

/-- The lowest priority among the candidates is that of one of them. -/
theorem candidate_of_lowest {code : Nat} {q : List Alert} (h : lowestCandidateCode q = some code) :
    q.any (isCandidate code) = true := by
  induction q with
  | nil => exact nomatch h
  | cons e q ih =>
    rw [List.any_cons, Bool.or_eq_true]
    unfold lowestCandidateCode at h
    split at h
    · exact .inr (ih h)
    · next hfree =>
      have hhere : causeCode e.cause = code ∨ lowestCandidateCode q = some code := by
        cases hq : lowestCandidateCode q with
        | none => exact .inl (by simpa only [hq, maxReading, Option.some.injEq] using h)
        | some n =>
          simp only [hq, maxReading, Option.some.injEq] at h
          rcases Nat.le_total (causeCode e.cause) n with hle | hle
          · exact .inr (by rw [← h, Nat.max_eq_right hle])
          · exact .inl (by rw [← h, Nat.max_eq_left hle])
      rcases hhere with hcode | hlow
      · exact .inl (by simp [isCandidate, hfree, hcode])
      · exact .inr (ih hlow)

/-- A new raise in a queue that has room for it and none of its cause and subject. -/
theorem insertAlert_bound {now : Stamp} {new : Alert} {q : List Alert} (hroom : q.length < 4)
    (hq : (q.map raiseKey).Nodup) (hnew : raiseKey new ∉ q.map raiseKey) :
    RaisesBound ((insertAlert now new q).map raiseKey) := by
  have hp : ((insertAlert now new q).map raiseKey).Perm (raiseKey new :: q.map raiseKey) := (insertAlert_perm now new q).map _
  refine ⟨?_, hp.nodup_iff.mpr (List.nodup_cons.mpr ⟨hnew, hq⟩)⟩
  rw [hp.length_eq, List.length_cons, List.length_map]
  exact hroom

theorem placeAlert_bound (now : Stamp) (new : Alert) {a : Alerts} (h : AlertsBound a) : AlertsBound (placeAlert now new a) := by
  unfold placeAlert
  split
  · have hkeys : raiseKey ∘ updateAlert new.cause new.subject new.value = raiseKey := funext (updateAlert_key _ _ _)
    unfold AlertsBound
    rw [List.map_map, hkeys]
    exact h
  · next hother =>
    have hnew : raiseKey new ∉ a.queue.map raiseKey := by
      intro hmem
      obtain ⟨e, he, hk⟩ := List.mem_map.mp hmem
      exact hother (List.any_eq_true.mpr ⟨e, he, (sameAlert_iff _ _ e).mpr hk⟩)
    split
    · next hroom => exact insertAlert_bound hroom h.2 hnew
    · split
      · next code hcode =>
        split
        · have hs : ((dropLastCandidate code a.queue).map raiseKey).Sublist (a.queue.map raiseKey) :=
            (dropLastCandidate_sublist code a.queue).map _
          have hlen := dropLastCandidate_length (candidate_of_lowest hcode)
          have hfour : a.queue.length ≤ 4 := ((alertsBound_iff a).mp h).1
          exact insertAlert_bound (by omega) (h.2.sublist hs) fun hmem => hnew (hs.subset hmem)
        · exact h
      · exact h

theorem alertAfterOutcome_key {acked : Bool} {e e' : Alert} (h : alertAfterOutcome acked e = some e') :
    raiseKey e' = raiseKey e := by
  unfold alertAfterOutcome at h
  split at h
  · split at h
    · exact nomatch h
    · cases h
      rfl
  · cases h
    rfl

theorem alertOutcome_keys (acked : Bool) (q : List Alert) :
    ((q.filterMap (alertAfterOutcome acked)).map raiseKey).Sublist (q.map raiseKey) := by
  induction q with
  | nil => exact .refl _
  | cons e q ih =>
    rw [List.filterMap_cons]
    split
    · exact ih.cons _
    · next e' he =>
      rw [List.map_cons, List.map_cons, alertAfterOutcome_key he]
      exact ih.cons_cons _

theorem map_changeFirst {α β : Type} (g : α → β) (which : α → Bool) (f : α → α) (h : ∀ x, g (f x) = g x) (l : List α) :
    (changeFirst which f l).map g = l.map g := by
  induction l with
  | nil => rfl
  | cons x l ih =>
    unfold changeFirst
    split
    · rw [List.map_cons, List.map_cons, h]
    · rw [List.map_cons, List.map_cons, ih]

/-! ### The relay's queues (R148, R152, R154) -/

/-- The bounds of the relay's queues, and the number of its match counts. -/
structure RelayBound (r : Relay) : Prop where
  relayed : r.relayed.length ≤ 16
  rearward : r.rearward.length ≤ 8
  demands : r.rearward.countP isDemandItem ≤ 1
  slots : r.matchCounts.length = 24

/-- What changes neither a queue nor the number of match counts. -/
theorem RelayBound.same {r r' : Relay} (h : RelayBound r)
    (hsame : (r'.relayed, r'.rearward, r'.matchCounts) = (r.relayed, r.rearward, r.matchCounts)) : RelayBound r' := by
  simp only [Prod.mk.injEq] at hsame
  obtain ⟨hrelayed, hrearward, hcounts⟩ := hsame
  exact ⟨hrelayed ▸ h.relayed, hrearward ▸ h.rearward, hrearward ▸ h.demands, hcounts ▸ h.slots⟩

theorem RelayBound.withRearward {r : Relay} (h : RelayBound r) {q : List RearItem} (hlen : q.length ≤ 8)
    (hdemands : q.countP isDemandItem ≤ 1) : RelayBound { r with rearward := q } := ⟨h.relayed, hlen, hdemands, h.slots⟩

theorem RelayBound.withRelayed {r : Relay} (h : RelayBound r) {q : List RelayedFrame} (hlen : q.length ≤ 16) :
    RelayBound { r with relayed := q } := ⟨hlen, h.rearward, h.demands, h.slots⟩

/-- Items that leave the rearward queue. -/
theorem RelayBound.fewer {r : Relay} (h : RelayBound r) {q : List RearItem} (hq : q.Sublist r.rearward) :
    RelayBound { r with rearward := q } := h.withRearward (hq.length_le.trans h.rearward) (hq.countP_le.trans h.demands)

theorem placeRelayed_bound (f : CanFrame) {r : Relay} (h : RelayBound r) : RelayBound (placeRelayed f r) := by
  unfold placeRelayed
  split
  · next hroom =>
    refine h.withRelayed ?_
    rw [List.length_append]
    exact hroom
  · split
    · exact h.same rfl
    · split
      · next hany =>
        obtain ⟨e, he, hd⟩ := List.any_eq_true.mp hany
        have hlen := List.length_eraseP_of_mem he hd
        have hle := h.relayed
        have hpos := List.length_pos_of_mem he
        refine (h.withRelayed (q := r.relayed.eraseP displaceable ++ [⟨f, false⟩]) ?_).same rfl
        rw [List.length_append, hlen, List.length_singleton]
        omega
      · exact h.same rfl

theorem countP_replaceDemand {i : RearItem} (hi : isDemandItem i = true) (q : List RearItem) :
    (replaceDemand i q).countP isDemandItem = q.countP isDemandItem := by
  rw [replaceDemand, List.countP_map]
  congr 1
  funext x
  simp only [Function.comp_apply]
  split
  · next hx => rw [hi, hx]
  · rfl

/-- An item that enters a queue which a DEMAND frame would have joined instead: at most one DEMAND frame is there after it. -/
theorem countP_singleton_add {i : RearItem} {q : List RearItem} (hq : q.countP isDemandItem ≤ 1)
    (h : ¬(isDemandItem i && q.any isDemandItem) = true) : [i].countP isDemandItem + q.countP isDemandItem ≤ 1 := by
  rw [List.countP_singleton]
  split
  · next hi =>
    have hnone : q.countP isDemandItem = 0 :=
      List.countP_eq_zero.mpr fun x hx hd => h (by rw [hi, List.any_eq_true.mpr ⟨x, hx, hd⟩]; rfl)
    rw [hnone]
  · rw [Nat.zero_add]
    exact hq

theorem placeRear_bound (i : RearItem) {r : Relay} (h : RelayBound r) : RelayBound (placeRear i r) := by
  have hlen := h.rearward
  unfold placeRear
  split
  · next hboth =>
    refine (h.withRearward (q := replaceDemand i r.rearward) ?_ ?_).same rfl
    · rw [replaceDemand, List.length_map]
      exact hlen
    · exact (countP_replaceDemand (Bool.and_eq_true_iff.mp hboth).1 _).trans_le h.demands
  · next hone =>
    have hcount := countP_singleton_add h.demands hone
    split
    · next hroom =>
      refine h.withRearward ?_ ?_
      · rw [List.length_append]
        exact hroom
      · rw [List.countP_append, Nat.add_comm]
        exact hcount
    · split
      · have hrest : (r.rearward.drop 1).countP isDemandItem ≤ r.rearward.countP isDemandItem :=
          (List.drop_sublist 1 _).countP_le
        refine (h.withRearward (q := r.rearward.drop 1 ++ [i]) ?_ ?_).same rfl
        · rw [List.length_append, List.length_drop, List.length_singleton]
          omega
        · rw [List.countP_append]
          omega
      · exact h.same rfl

theorem refuseOffer_bound {r : Relay} (h : RelayBound r) : RelayBound (refuseOffer r) :=
  h.same rfl

theorem offerRear_bound (i : RearItem) {r : Relay} (h : RelayBound r) : RelayBound (offerRear i r) := by
  unfold offerRear
  split
  · exact refuseOffer_bound h
  · exact refuseOffer_bound h
  · exact placeRear_bound i h
  · split
    · exact placeRear_bound i h
    · exact refuseOffer_bound h

theorem flushRear_bound (keep : RearItem → Bool) {r : Relay} (h : RelayBound r) : RelayBound (flushRear keep r) :=
  (h.fewer (q := r.rearward.filter keep) List.filter_sublist).same rfl

theorem enterHeld_bound {r : Relay} (h : RelayBound r) : RelayBound (enterHeld r) :=
  flushRear_bound _ (r := { r with rear := .held, rearTx := r.rearTx.map markLeft })
    (h.same rfl)

theorem enterNoPartner_bound {r : Relay} (h : RelayBound r) : RelayBound (enterNoPartner r) :=
  flushRear_bound _ (r := { r with rear := .noPartner }) (h.same rfl)

theorem enterIsolated_bound {r : Relay} (h : RelayBound r) : RelayBound (enterIsolated r) :=
  flushRear_bound _ (r := { r with rear := .isolated, isolation := none }) (h.same rfl)

theorem relayPlaced_bound {r : Relay} (h : RelayBound r) : RelayBound (relayPlaced r) := by
  unfold relayPlaced
  split
  · exact h.same rfl
  · exact h

theorem relayUnplaced_bound {r : Relay} (h : RelayBound r) : RelayBound (relayUnplaced r) := by
  unfold relayUnplaced
  split
  · exact enterHeld_bound h
  · exact h

/-- A frame that returns after its hand-over finds a DEMAND frame in the queue only where one was offered since (R155). -/
theorem returnRear_bound (i : RearItem) {r : Relay} (h : RelayBound r) : RelayBound (returnRear i r) := by
  have hlen := h.rearward
  unfold returnRear
  split
  · exact h.same rfl
  · next hone =>
    have hcount := countP_singleton_add h.demands hone
    have hcons : ∀ q : List RearItem, (i :: q).countP isDemandItem = [i].countP isDemandItem + q.countP isDemandItem :=
      fun q => List.countP_append (l₁ := [i])
    split
    · next hroom => exact h.withRearward hroom ((hcons _).trans_le hcount)
    · split
      · have hrest : (r.rearward.drop 1).countP isDemandItem ≤ r.rearward.countP isDemandItem :=
          (List.drop_sublist 1 _).countP_le
        refine (h.withRearward (q := i :: r.rearward.drop 1) ?_ ?_).same rfl
        · rw [List.length_cons, List.length_drop]
          omega
        · rw [hcons]
          omega
      · exact h.same rfl

theorem discardRear_bound {r : Relay} (h : RelayBound r) : RelayBound (discardRear r) :=
  h.same rfl

theorem rearAcked_bound {r : Relay} (h : RelayBound r) : RelayBound (rearAcked r) := by
  unfold rearAcked
  split
  · exact h.same rfl
  · exact h

theorem rearNotAcked_bound (x : RearTx) {r : Relay} (h : RelayBound r) : RelayBound (rearNotAcked x r) := by
  have hrun : ∀ n, RelayBound { r with run := n } := fun _ => h.same rfl
  unfold rearNotAcked
  split
  · split
    · split
      · exact discardRear_bound (hrun _)
      · exact returnRear_bound x.item (hrun _)
    · exact enterNoPartner_bound (discardRear_bound (hrun 3))
  · exact discardRear_bound h
  · exact discardRear_bound h
  · exact discardRear_bound h

theorem forwardFrame_bound (p : Port) (f : CanFrame) {r : Relay} (h : RelayBound r) : RelayBound (forwardFrame p f r) := by
  cases p with
  | front => exact offerRear_bound (.frame f) h
  | rear => exact placeRelayed_bound f h

theorem countMatch_bound (i : Nat) {r : Relay} (h : RelayBound r) : RelayBound (countMatch i r) :=
  ⟨h.relayed, h.rearward, h.demands, List.length_set.trans h.slots⟩

theorem routeFrame_bound (t : Table) (p : Port) (f : CanFrame) {r : Relay} (h : RelayBound r) :
    RelayBound (routeFrame t p f r) := by
  unfold routeFrame
  split
  · next i _ =>
    have hcount := countMatch_bound i h
    split
    · exact hcount.same rfl
    · exact forwardFrame_bound p _ hcount
    · exact forwardFrame_bound p f hcount
  · exact forwardFrame_bound p f (r := { r with unmatched := _ }) (h.same rfl)

theorem markRelayed_length (q : List RelayedFrame) : (markRelayed q).length = q.length := by
  have hmark : ∀ which, (changeFirst which (fun e : RelayedFrame => { e with inTx := true }) q).length = q.length := by
    intro which
    have hmap := map_changeFirst RelayedFrame.frame which (fun e => { e with inTx := true }) (fun _ => rfl) q
    simpa only [List.length_map] using congrArg List.length hmap
  unfold markRelayed
  dsimp only
  split
  · exact hmark _
  · exact hmark _

theorem relayedOutcome_length (acked : Bool) (q : List RelayedFrame) : (relayedOutcome acked q).length ≤ q.length := by
  unfold relayedOutcome
  split
  · exact List.length_filter_le _ _
  · exact (List.length_map _).le

/-! ### The tyre receiver (R101, R103, R107) -/

/-- The bounds of the telegram queue, the window and the assembly. -/
structure ReceiverBound (r : Receiver) : Prop where
  queue : r.queue.length ≤ 8
  window : r.window.length ≤ 16
  buffer : r.buffer.length < 80

theorem shiftIn_length (w : List Bool) (bit : Bool) : (shiftIn w bit).length ≤ 16 := by
  unfold shiftIn
  split
  · next hroom =>
    rw [List.length_append]
    exact hroom
  · rw [List.length_append, List.length_drop, List.length_singleton]
    omega

theorem huntBit_bound (sync : Nat) (bit : Bool) {r : Receiver} (h : ReceiverBound r) : ReceiverBound (huntBit sync bit r) := by
  unfold huntBit
  split
  · exact ⟨h.queue, Nat.zero_le _, Nat.zero_lt_succ _⟩
  · exact ⟨h.queue, shiftIn_length _ _, h.buffer⟩

theorem huntAgain_bound {r : Receiver} (h : r.queue.length ≤ 8) : ReceiverBound (huntAgain r) :=
  ⟨h, Nat.zero_le _, Nat.zero_lt_succ _⟩

theorem judgeTelegram_queue (bytes : List Byte) (now : Stamp) {r : Receiver} (h : r.queue.length ≤ 8) :
    (judgeTelegram bytes now r).queue.length ≤ 8 := by
  unfold judgeTelegram goodTelegram
  split
  · exact h
  · split
    · exact h
    · split
      · next hroom =>
        rw [List.length_append]
        exact hroom
      · exact h

theorem assembleBit_bound (now : Stamp) (bit : Bool) {r : Receiver} (h : ReceiverBound r) :
    ReceiverBound (assembleBit now bit r) := by
  unfold assembleBit
  dsimp only
  split
  · next hshort => exact ⟨h.queue, h.window, hshort⟩
  · exact huntAgain_bound (judgeTelegram_queue _ _ h.queue)

/-! ### The own response queue (R168, R169) -/

/-- The bounds of the own response queue and of its entries. -/
structure ResponsesBound (q : List (List CanFrame)) : Prop where
  queue : q.length ≤ 4
  entries : ∀ e ∈ q, 1 ≤ e.length ∧ e.length ≤ 8

theorem ResponsesBound.concat {q : List (List CanFrame)} (h : ResponsesBound q) (hroom : q.length < 4) {e : List CanFrame}
    (he : 1 ≤ e.length ∧ e.length ≤ 8) : ResponsesBound (q ++ [e]) := by
  refine ⟨?_, fun x hx => ?_⟩
  · rw [List.length_append]
    exact hroom
  · obtain hx | hx := List.mem_append.mp hx
    · exact h.entries x hx
    · exact List.mem_singleton.mp hx ▸ he

theorem dropSentFrame_bound {q : List (List CanFrame)} (h : ResponsesBound q) : ResponsesBound (dropSentFrame q) := by
  obtain ⟨hlen, hentries⟩ := h
  cases q with
  | nil => exact ⟨Nat.zero_le _, nofun⟩
  | cons e rest =>
    obtain ⟨⟨-, he⟩, hrest⟩ := List.forall_mem_cons.mp hentries
    rw [dropSentFrame]
    split
    · exact ⟨(Nat.le_add_right _ _).trans hlen, hrest⟩
    · next hmore =>
      refine ⟨hlen, List.forall_mem_cons.mpr ⟨⟨?_, ?_⟩, hrest⟩⟩
      · exact List.length_pos_iff.mpr hmore
      · rw [List.length_drop]
        exact (Nat.sub_le _ _).trans he

theorem pageFrames_length (s : State) (tag : Byte) (n seg : Nat) (bytes : List Byte) :
    1 ≤ (pageFrames s tag (n + 1) seg bytes).length ∧ (pageFrames s tag (n + 1) seg bytes).length ≤ n + 1 := by
  induction n generalizing seg bytes with
  | zero =>
    unfold pageFrames
    split
    · exact ⟨le_rfl, le_rfl⟩
    · exact ⟨le_rfl, le_rfl⟩
  | succ n ih =>
    unfold pageFrames
    split
    · exact ⟨le_rfl, Nat.le_add_left _ _⟩
    · obtain ⟨-, hmost⟩ := ih (seg + 1) (bytes.drop 6)
      exact ⟨Nat.le_add_left _ _, Nat.succ_le_succ hmost⟩

end Sys2Proof.Machine
end

section
/-! The position map and the unknown sensor list (R111): what binds, misses, activations and resets keep of them. -/

namespace Sys2Proof.Machine

open Sys2Proof

/-- No sensor ID twice in the position map, and none both there and in the unknown sensor list (R111). -/
structure PositionsBound (m : Grid (Option SensorId)) (u : Quad (Option UnknownEntry)) : Prop where
  single : ∀ p q id, gridGet m p = some id → gridGet m q = some id → p = q
  apart : ∀ p k e, quadGet u k = some e → gridGet m p ≠ some e.id

theorem mapInv_iff (s : State) : MapInv s ↔ PositionsBound s.tyres.map s.tyres.unknown :=
  ⟨fun ⟨hsingle, hapart⟩ => ⟨hsingle, hapart⟩, fun h => ⟨h.single, h.apart⟩⟩

theorem positionOf_some {m : Grid (Option SensorId)} {id : SensorId} {p : Position} (h : positionOf m id = some p) :
    gridGet m p = some id := beq_iff_eq.mp (List.find?_some h :)

theorem positionOf_none {m : Grid (Option SensorId)} {id : SensorId} (h : positionOf m id = none) (p : Position) :
    gridGet m p ≠ some id := fun hp =>
  List.find?_eq_none.mp h p (mem_allPositions p) (beq_iff_eq.mpr hp)

theorem positionOf_isSome {m : Grid (Option SensorId)} {id : SensorId} {p : Position} (h : gridGet m p = some id) :
    (positionOf m id).isSome = true := by
  cases hf : positionOf m id with
  | some q => rfl
  | none => exact absurd h (positionOf_none hf p)

namespace PositionsBound

variable {m : Grid (Option SensorId)} {u : Quad (Option UnknownEntry)} (h : PositionsBound m u)

include h

theorem emptied (q : Position) : PositionsBound (gridSet m q none) u := by
  have held : ∀ p id, gridGet (gridSet m q none) p = some id → gridGet m p = some id := fun p id hp => by
    by_cases hpq : p = q
    · rw [hpq, gridGet_set_same] at hp
      exact nomatch hp
    · rwa [gridGet_set_other _ _ hpq] at hp
  exact ⟨fun p p' id hp hp' => h.single p p' id (held _ _ hp) (held _ _ hp'),
    fun p k e he hp => h.apart p k e he (held _ _ hp)⟩

theorem withoutIds (mapped : SensorId → Bool) : PositionsBound m (quadMap (fun _ x => x.filter fun e => !mapped e.id) u) := by
  refine ⟨h.single, fun p k e he => ?_⟩
  rw [quadGet_map] at he
  exact h.apart p k e (Option.filter_eq_some_iff.mp he).1

/-- A slot takes an ID that no other slot and no entry of the list holds. -/
theorem bound {p : Position} {id : SensorId} (hmap : ∀ q, q ≠ p → gridGet m q ≠ some id)
    (hlist : ∀ k e, quadGet u k = some e → e.id ≠ id) : PositionsBound (gridSet m p (some id)) u := by
  have held : ∀ q id', gridGet (gridSet m p (some id)) q = some id' →
      (q = p ∧ id' = id) ∨ (q ≠ p ∧ id' ≠ id ∧ gridGet m q = some id') := fun q id' hq => by
    by_cases hqp : q = p
    · rw [hqp, gridGet_set_same, Option.some.injEq] at hq
      exact .inl ⟨hqp, hq.symm⟩
    · rw [gridGet_set_other _ _ hqp] at hq
      exact .inr ⟨hqp, fun hid => hmap q hqp (hid ▸ hq), hq⟩
  refine ⟨fun q q' id' hq hq' => ?_, fun q k e he hq => ?_⟩
  · obtain ⟨hp, hid⟩ | ⟨hne, hid, hold⟩ := held q id' hq
    · obtain ⟨hp', -⟩ | ⟨-, hid', -⟩ := held q' id' hq'
      · exact hp.trans hp'.symm
      · exact absurd hid hid'
    · obtain ⟨-, hid'⟩ | ⟨-, -, hold'⟩ := held q' id' hq'
      · exact absurd hid' hid
      · exact h.single q q' id' hold hold'
  · obtain ⟨-, hid⟩ | ⟨-, -, hold⟩ := held q e.id hq
    · exact hlist k e he hid
    · exact h.apart q k e he hold

/-- An entry of the list is set to one whose ID the map does not hold, or emptied. -/
theorem listed {k : Fin 4} {x : Option UnknownEntry} (hx : ∀ e, x = some e → ∀ p, gridGet m p ≠ some e.id) :
    PositionsBound m (quadSet u k x) := by
  refine ⟨h.single, fun p j e he => ?_⟩
  by_cases hjk : j = k
  · rw [hjk, quadGet_set_same] at he
    exact hx e he p
  · rw [quadGet_set_other _ _ hjk] at he
    exact h.apart p j e he

end PositionsBound

/-! ### The map of a T5 (R111, R130, R178) -/

theorem gridGet_mapOfTable (t : Table) (p : Position) :
    gridGet (mapOfTable t) p = if t5Id t p.val = 0 then none else some (t5Id t p.val) := gridGet_map _ _ p

/-- A valid T5 holds no sensor ID twice. -/
theorem mapOfTable_single {t : Table} (h : tableCheck 5 t = none) {p q : Position} {id : SensorId}
    (hp : gridGet (mapOfTable t) p = some id) (hq : gridGet (mapOfTable t) q = some id) : p = q := by
  have hall := (firstFailing_none_iff _).mp (h : t5Check t = none)
  have later : ∀ i j : Position, i < j → gridGet (mapOfTable t) i = some id → gridGet (mapOfTable t) j ≠ some id := by
    intro i j hij hi hj
    rw [gridGet_mapOfTable] at hi hj
    split at hi
    · exact nomatch hi
    · split at hj
      · exact nomatch hj
      · next hne =>
        have hcheck := hall _ (List.mem_map_of_mem (List.mem_range.mpr j.isLt))
        simp only [Bool.or_eq_true, beq_iff_eq, hne, Bool.and_eq_true, List.all_eq_true, List.mem_range, bne_iff_ne,
          false_or] at hcheck
        exact hcheck.2 i.val hij (Option.some.inj (hi.trans hj.symm))
  rcases lt_trichotomy p q with hlt | heq | hgt
  · exact absurd hq (later p q hlt hp)
  · exact heq
  · exact absurd hp (later q p hgt hq)

/-- T5 as a start-up load leaves it is valid: the stored table of a good block, or the default (R178). -/
theorem loadedT5_valid (nv : Memory) : tableCheck 5 (loadedTable nv 3 5 t5Default) = none := by
  unfold loadedTable
  split
  · next h =>
    unfold blockFinding at h
    split at h
    · split at h
      · next hall =>
        rw [List.all_eq_true] at hall
        exact Option.isNone_iff_eq_none.mp (hall 5 (by decide))
      · exact nomatch h
    · exact nomatch h
  · decide +kernel

/-- The map and the list after a reset: a loaded map, and an empty list. -/
theorem loadedMap_bound (nv : Memory) : PositionsBound (mapOfTable (loadedTable nv 3 5 t5Default)) (Quad.const none) :=
  ⟨fun _ _ _ => mapOfTable_single (loadedT5_valid nv), fun _ k _ hk => by rw [quadGet_const] at hk; exact nomatch hk⟩

/-- The map and the list after an activated T5: the table's map, and the list without the IDs of the map (R130). -/
theorem activatedMap_bound {t : Table} (h : tableCheck 5 t = none) (u : Quad (Option UnknownEntry)) :
    PositionsBound (mapOfTable t) (quadMap (fun _ x => x.filter fun e => !(positionOf (mapOfTable t) e.id).isSome) u) := by
  refine ⟨fun _ _ _ => mapOfTable_single h, fun p k e he hp => ?_⟩
  rw [quadGet_map] at he
  obtain ⟨-, hfree⟩ := Option.filter_eq_some_iff.mp he
  rw [positionOf_isSome hp] at hfree
  exact nomatch hfree

end Sys2Proof.Machine
end

section
/-! The bounds of the queues and the position map over the shared operations: alerts, answers, the table store, the pressure
arbiter, the air supervisor, the roll monitor and the load estimator. -/

namespace Sys2Proof.Machine

open Sys2Proof

theorem queueInv_iff (s : State) :
    QueueInv s ↔ AlertsBound s.alerts ∧ RelayBound s.relay ∧ ReceiverBound s.rx ∧ ResponsesBound s.mgmt.queue := by
  rw [alertsBound_iff]
  constructor
  · rintro ⟨hlen, hkeys, hrelayed, hrear, hdemand, htel, hwindow, hbuffer, hresp, hentries, hslots⟩
    exact ⟨⟨hlen, hkeys⟩, ⟨hrelayed, hrear, hdemand, hslots⟩, ⟨htel, hwindow, hbuffer⟩, ⟨hresp, hentries⟩⟩
  · rintro ⟨⟨hlen, hkeys⟩, ⟨hrelayed, hrear, hdemand, hslots⟩, ⟨htel, hwindow, hbuffer⟩, ⟨hresp, hentries⟩⟩
    exact ⟨hlen, hkeys, hrelayed, hrear, hdemand, htel, hwindow, hbuffer, hresp, hentries, hslots⟩

/-- From `s` to `t` the bounds of the queues are kept, and so is the position map. -/
structure Kept (s t : State) : Prop where
  queues : QueueInv s → QueueInv t
  positions : MapInv s → MapInv t

/-- Whether a part holds neither a queue nor the position map. -/
def isQuiet : Part → Bool
  | .alerts => false
  | .relay => false
  | .rx => false
  | .mgmt => false
  | .tyres => false
  | _ => true

namespace Kept

variable {s t u : State}

theorem refl (s : State) : Kept s s := ⟨id, id⟩

theorem andThen (h : Kept s t) (k : Kept t u) : Kept s u := ⟨k.queues ∘ h.queues, k.positions ∘ h.positions⟩

theorem ite (b : Prop) [Decidable b] (h : Kept s t) (k : Kept s u) : Kept s (if b then t else u) := by
  split
  · exact h
  · exact k

theorem foldl {β : Type} (f : State → β → State) (l : List β) (h : ∀ s b, Kept s (f s b)) (s : State) :
    Kept s (l.foldl f s) :=
  foldl_keeps (Kept s) f l (fun t b _ ht => ht.andThen (h t b)) s (.refl s)

/-- Block by block. -/
theorem of_blocks (halerts : AlertsBound s.alerts → AlertsBound t.alerts) (hrelay : RelayBound s.relay → RelayBound t.relay)
    (hrx : ReceiverBound s.rx → ReceiverBound t.rx) (hmgmt : ResponsesBound s.mgmt.queue → ResponsesBound t.mgmt.queue)
    (hmap : PositionsBound s.tyres.map s.tyres.unknown → PositionsBound t.tyres.map t.tyres.unknown) : Kept s t := by
  refine ⟨fun h => ?_, fun h => (mapInv_iff t).mpr (hmap ((mapInv_iff s).mp h))⟩
  obtain ⟨ha, hr, hx, hm⟩ := (queueInv_iff s).mp h
  exact (queueInv_iff t).mpr ⟨halerts ha, hrelay hr, hrx hx, hmgmt hm⟩

/-- What stays within the quiet parts. -/
theorem quiet {ps : List Part} (h : ChangesOnly ps s t) (hps : ps.all isQuiet = true) : Kept s t := by
  have same : ∀ p, isQuiet p = false → SamePart s t p := fun p hp =>
    h p fun hmem => Bool.false_ne_true (hp.symm.trans (List.all_eq_true.mp hps p hmem))
  have halerts : t.alerts = s.alerts := same .alerts rfl
  have hrelay : t.relay = s.relay := same .relay rfl
  have hrx : t.rx = s.rx := same .rx rfl
  have hmgmt : t.mgmt = s.mgmt := same .mgmt rfl
  have htyres : t.tyres = s.tyres := same .tyres rfl
  exact of_blocks (halerts ▸ id) (hrelay ▸ id) (hrx ▸ id) (hmgmt ▸ id) (htyres ▸ id)

theorem onAlerts {f : Alerts → Alerts} (h : AlertsBound s.alerts → AlertsBound (f s.alerts)) : Kept s (s.onAlerts f) :=
  of_blocks h id id id id

theorem onRelay {f : Relay → Relay} (h : RelayBound s.relay → RelayBound (f s.relay)) : Kept s (s.onRelay f) :=
  of_blocks id h id id id

theorem onRx {f : Receiver → Receiver} (h : ReceiverBound s.rx → ReceiverBound (f s.rx)) : Kept s (s.onRx f) :=
  of_blocks id id h id id

theorem onMgmt {f : Mgmt → Mgmt} (h : ResponsesBound s.mgmt.queue → ResponsesBound (f s.mgmt).queue) :
    Kept s (s.onMgmt f) := of_blocks id id id h id

/-- A change of the management engine that leaves its queue. -/
theorem onMgmtRest {f : Mgmt → Mgmt} (h : (f s.mgmt).queue = s.mgmt.queue) : Kept s (s.onMgmt f) :=
  onMgmt (h ▸ id)

theorem onTyres {f : Tyres → Tyres}
    (h : PositionsBound s.tyres.map s.tyres.unknown → PositionsBound (f s.tyres).map (f s.tyres).unknown) :
    Kept s (s.onTyres f) := of_blocks id id id id h

/-- A change of the tyre table that leaves the map and the unknown sensor list. -/
theorem onTyresRest {f : Tyres → Tyres}
    (h : ((f s.tyres).map, (f s.tyres).unknown) = (s.tyres.map, s.tyres.unknown)) : Kept s (s.onTyres f) := by
  obtain ⟨hmap, hlist⟩ := Prod.mk.inj h
  exact onTyres (by rw [hmap, hlist]; exact id)

end Kept

section Operations

variable (s : State)

/-! ### Alerts and answers -/

theorem raiseAlertAt_kept (time : Stamp) (c : Cause) (sub : Subject) (v : Nat) : Kept s (raiseAlertAt time c sub v s) :=
  .onAlerts (placeAlert_bound _ _)

theorem raiseAlert_kept (c : Cause) (sub : Subject) (v : Nat) : Kept s (raiseAlert c sub v s) := raiseAlertAt_kept s _ c sub v

theorem fillCapture_kept (kind : CaptureKind) (sub : Subject) (m n : Nat) : Kept s (fillCapture kind sub m n s) := by
  unfold fillCapture
  split
  · exact .onAlerts id
  · exact .onAlerts id

theorem fillCaptureBlock_kept (kind : CaptureKind) (sub : Subject) : Kept s (fillCaptureBlock kind sub s) :=
  fillCapture_kept s kind sub 0 0

theorem alertOutcome_kept (acked : Bool) : Kept s (alertOutcome acked s) :=
  .onAlerts fun h => h.sublist (alertOutcome_keys acked s.alerts.queue)

theorem statusTimerExpiry_kept : Kept s (statusTimerExpiry s) := .ite _ (.onAlerts id) (.refl s)

theorem statusOutcome_kept (first acked : Bool) : Kept s (statusOutcome first acked s) := .onAlerts fun h => by
  split
  · split
    · exact h
    · exact h
  · exact h

theorem placeEntry_kept {frames : List CanFrame} (h : 1 ≤ frames.length ∧ frames.length ≤ 8) : Kept s (placeEntry frames s) :=
  .onMgmt fun hq => by
    split
    · next hroom => exact hq.concat hroom h
    · exact hq

theorem answer_kept (code : Nat) (tag : Byte) (a : Answer) : Kept s (answer code tag a s) :=
  placeEntry_kept s (by decide : 1 ≤ 1 ∧ 1 ≤ 8)

theorem placePage_kept (tag : Byte) (page : List Byte) : Kept s (placePage tag page s) :=
  placeEntry_kept s (pageFrames_length s tag 7 0 page)

/-- An answer after other work. -/
theorem Kept.answered {s t : State} (h : Kept s t) (code : Nat) (tag : Byte) (a : Answer) : Kept s (answer code tag a t) :=
  h.andThen (answer_kept t code tag a)

theorem endPendingHalt_kept (c : Channel) (result : Completion) : Kept s (endPendingHalt c result s) := by
  unfold endPendingHalt
  split
  · exact (Kept.quiet (onChannel_touches s c _) rfl).answered _ _ _
  · exact .refl s

theorem cancelPendingHalt_kept (c : Channel) : Kept s (cancelPendingHalt c s) := endPendingHalt_kept s c _

/-! ### The table store -/

theorem completeStore_kept (result : Completion) : Kept s (completeStore result s) := by
  unfold completeStore
  split
  · exact Kept.answered (.onMgmtRest rfl) _ _ _
  · exact .refl s

theorem startWrite_kept (b : Fin 5) : Kept s (startWrite b s) := by
  refine (Kept.quiet (onStore_touches s _) rfl).andThen (.onTyres fun h => ?_)
  split
  · exact h
  · exact h

theorem blockWriteComplete_kept : Kept s (blockWriteComplete s) := by
  have stored : ∀ (t : State) b, Kept t (t.onTyres (tyresStored b)) := fun t b => .onTyres fun h => by
    unfold tyresStored
    split
    · exact h
    · exact h
  unfold blockWriteComplete
  split
  · refine .ite _ ?_ (.refl s)
    refine .andThen ?_ (.quiet (endOperation_touches _) rfl)
    refine .andThen ?_ (stored _ _)
    exact .andThen (.quiet (onStore_touches s _) rfl) (completeStore_kept _ .done)
  · exact .refl s

theorem waitingBlock3StoreStart_kept : Kept s (waitingBlock3StoreStart s) :=
  .ite _ (.andThen (.onTyresRest rfl) (.ite _ (.quiet (endOperation_touches _) rfl) (startWrite_kept _ 3))) (.refl s)

theorem requestBlock3_kept : Kept s (requestBlock3 s) := .ite _ (.onTyresRest rfl) (.ite _ (.refl s) (startWrite_kept s 3))

theorem tallyEraseComplete_kept : Kept s (tallyEraseComplete s) :=
  .ite _ (((Kept.quiet (onStore_touches s _) rfl).andThen (completeStore_kept _ .done)).andThen
    (.quiet (endOperation_touches _) rfl))
    (.refl s)

theorem protectionWordProgrammed_kept : Kept s (protectionWordProgrammed s) := by
  unfold protectionWordProgrammed
  split
  · exact .ite _ (((Kept.quiet (onStore_touches s _) rfl).andThen (completeStore_kept _ .done)).andThen
      (.quiet (endOperation_touches _) rfl)) (.refl s)
  · exact .refl s

theorem raiseIncomplete_kept (b : Nat) : Kept s (raiseIncomplete b s) := by
  unfold raiseIncomplete
  split
  · exact ((raiseAlert_kept s _ _ _).andThen (fillCaptureBlock_kept _ _ _)).andThen (.quiet (onStore_touches _ _) rfl)
  · exact .refl s

theorem raiseLoad_kept (blocks : List Nat) : Kept s (raiseLoad blocks s) :=
  .foldl _ _ (fun t b => raiseIncomplete_kept t b) s

/-! ### Faults and the fail-safe state -/

theorem sympathyBackup_kept (c : Channel) : Kept s (sympathyBackup c s) := by
  have back : ∀ t, Kept t (cancelPendingHalt c (t.onChannel c (goTo .backup (some .sympathy)))) := fun t =>
    (Kept.quiet (onChannel_touches t c _) rfl).andThen (cancelPendingHalt_kept _ c)
  unfold sympathyBackup
  split
  · exact back s
  · exact back s
  · exact (raiseAlert_kept s _ _ _).andThen (back _)
  · exact .refl s
  · exact .refl s
  · exact .refl s

theorem applyPolicy_kept (c : Channel) : Kept s (applyPolicy c s) :=
  .ite _ (.foldl _ _ (fun t d => .ite _ (.refl t) (sympathyBackup_kept t d)) s) (.refl s)

theorem enterFaulted_kept (c : Channel) (cause : FaultCause) : Kept s (enterFaulted c cause s) := by
  unfold enterFaulted
  refine .andThen ?_ (applyPolicy_kept _ c)
  refine .andThen ?_ (cancelPendingHalt_kept _ c)
  refine .andThen ?_ (fillCapture_kept _ .channelFault _ _ _)
  refine .andThen ?_ (.quiet (requestTally_touches _ tallyFaults) rfl)
  exact (Kept.quiet (onChannel_touches s c _) rfl).andThen (raiseAlert_kept _ _ _ _)

theorem errorEvent_kept (c : Channel) : Kept s (errorEvent c s) :=
  (Kept.quiet (onChannel_touches s c _) rfl).andThen (.ite _ (enterFaulted_kept _ c .counter) (.refl _))

theorem hardFault_kept (c : Channel) (cause : FaultCause) : Kept s (hardFault c cause s) :=
  .ite _ (.refl s) ((Kept.quiet (onChannel_touches s c _) rfl).andThen (enterFaulted_kept _ c cause))

theorem faultByThreshold_kept (c : Channel) : Kept s (faultByThreshold s c) :=
  .ite _ (enterFaulted_kept s c .counter) (.refl s)

theorem channelEntersFsB_kept (c : Channel) : Kept s (channelEntersFsB c s) := by
  unfold channelEntersFsB
  refine Kept.andThen ?_ (cancelPendingHalt_kept _ c)
  split
  · exact .quiet (onChannel_touches s c _) rfl
  · exact (raiseAlert_kept s _ _ _).andThen (.quiet (onChannel_touches _ c _) rfl)
  · exact .refl s
  · exact .refl s
  · exact .refl s
  · exact .refl s

theorem evaluateFailSafe_kept : Kept s (evaluateFailSafe s) := by
  have moved : ∀ f, Kept s (s.onArbiter f) := fun f => .quiet (onArbiter_touches s f) rfl
  unfold evaluateFailSafe
  refine .ite _ (.refl s) ?_
  dsimp only
  split
  · exact (moved _).andThen (.foldl _ _ (fun t c => channelEntersFsB_kept t c) _)
  · exact (moved _).andThen (.quiet (onArbiter_touches _ _) rfl)
  · exact (moved _).andThen (.quiet (onArbiter_touches _ _) rfl)

theorem examineStatus_kept (bytes : List Byte) (c : Channel) : Kept s (examineStatus bytes s c) := by
  unfold examineStatus
  split
  · exact .ite _ (hardFault_kept s c _) (.refl s)
  · exact .refl s

theorem driverStatusRecord_kept (bytes : List Byte) : Kept s (driverStatusRecord bytes s) :=
  .ite _ ((Kept.quiet (onValve_touches s _) rfl).andThen (.foldl _ _ (fun t c => examineStatus_kept t bytes c) _))
    (.quiet (onValve_touches s _) rfl)

/-! ### The pressure arbiter -/

theorem deviationCheck_kept (c : Channel) : Kept s (deviationCheck c s) := by
  unfold deviationCheck
  dsimp only
  split
  · exact .ite _ ((Kept.quiet (onChannel_touches s c _) rfl).andThen (errorEvent_kept _ c)) (.refl s)
  · exact .refl s

theorem superviseChannel_kept (c : Channel) : Kept s (superviseChannel s c) := by
  unfold superviseChannel
  refine .ite _ (.ite _ ?_ (deviationCheck_kept s c)) (.refl s)
  split
  · exact hardFault_kept s c _
  · exact hardFault_kept s c _
  · exact hardFault_kept s c _
  · exact hardFault_kept s c _
  · exact .refl s
  · exact .refl s

theorem haltedCheck_kept (c : Channel) : Kept s (haltedCheck s c) :=
  .ite _ ((raiseAlert_kept s _ _ _).andThen (.quiet (onChannel_touches _ c _) rfl)) (.refl s)

theorem pendingHaltStep_kept (c : Channel) (h : PendingHalt) : Kept s (pendingHaltStep c h s) :=
  .ite _ ((Kept.quiet (onChannel_touches s c _) rfl).andThen (endPendingHalt_kept _ c _))
    (.ite _ (cancelPendingHalt_kept s c) (.refl s))

theorem haltStep_kept (c : Channel) : Kept s (haltStep s c) := by
  unfold haltStep pendingHaltCheck
  refine (haltedCheck_kept s c).andThen ?_
  split
  · exact pendingHaltStep_kept _ c _
  · exact .refl _

theorem arbiterJudges_kept : Kept s (arbiterJudges s) := by
  unfold arbiterJudges
  refine .andThen ?_ (.quiet (onArbiter_touches _ _) rfl)
  refine .andThen ?_ (.foldl _ _ haltStep_kept _)
  refine .andThen ?_ (.quiet (controlLineChecks_frame _) rfl)
  refine .andThen ?_ (.foldl _ _ superviseChannel_kept _)
  exact .quiet (((onArbiter_touches s _).andThen (onArbiter_touches _ _)).andThen (onArbiter_touches _ _)) rfl

theorem arbiterTakesSet_kept : Kept s (arbiterTakesSet s) := by
  unfold arbiterTakesSet arbiterCommands
  refine .andThen ?_ (.quiet (onValve_touches _ _) rfl)
  exact (arbiterJudges_kept s).andThen (.quiet ((computeCommands_touches _).andThen (onArbiter_touches _ _)) rfl)

theorem arbiterTakesT1_kept : Kept s (arbiterTakesT1 s) := by
  unfold arbiterTakesT1
  refine .andThen ?_ (.quiet (setCeilings_touches _) rfl)
  refine .andThen ?_ (.foldl _ _ (fun t c => cancelPendingHalt_kept t c) _)
  exact .andThen (.quiet (onArbiter_touches s _) rfl) (.foldl _ _ faultByThreshold_kept _)

theorem haltChannel_kept (tag : Byte) (n p : Nat) : Kept s (haltChannel tag n p s) := by
  have told : ∀ a c f, Kept s (answer codeHaltChannel tag a (s.onChannel c f)) := fun _ c f =>
    (Kept.quiet (onChannel_touches s c f) rfl).answered _ _ _
  unfold haltChannel
  split
  · exact answer_kept s _ _ _
  · refine .ite _ (answer_kept s _ _ _) (.ite _ (answer_kept s _ _ _) (.ite _ (told _ _ _) ?_))
    exact .ite _ (answer_kept s _ _ _) (.ite _ (told _ _ _) (told _ _ _))

theorem runChannel_kept (tag : Byte) (n : Nat) : Kept s (runChannel tag n s) := by
  unfold runChannel
  split
  · exact answer_kept s _ _ _
  · refine .ite _ ?_ (.ite _ ((cancelPendingHalt_kept s _).answered _ _ _) (answer_kept s _ _ _))
    exact ((Kept.quiet (onChannel_touches s _ _) rfl).andThen (cancelPendingHalt_kept _ _)).answered _ _ _

theorem clearChannel_kept (tag : Byte) (n : Nat) : Kept s (clearChannel tag n s) := by
  unfold clearChannel
  split
  · exact answer_kept s _ _ _
  · refine .ite _ (Kept.answered ?_ _ _ _) (answer_kept s _ _ _)
    exact (Kept.quiet (onChannel_touches s _ _) rfl).andThen (.ite _ (.refl _) (.quiet (onArbiter_touches _ _) rfl))

/-! ### The air supervisor, the roll monitor and the load estimator -/

theorem enterSupplyLost_kept : Kept s (enterSupplyLost s) := by
  unfold enterSupplyLost
  refine .andThen ?_ (.quiet (requestTally_touches _ _) rfl)
  refine .andThen ?_ (fillCaptureBlock_kept _ _ _)
  exact (Kept.quiet (onAir_touches s _) rfl).andThen (raiseAlert_kept _ _ _ _)

theorem evaluateSupply_kept : Kept s (evaluateSupply s) := by
  have moved : ∀ new, Kept s (movedSupply new s) := fun _ => .quiet (onAir_touches s _) rfl
  rw [evaluateSupply_eq]
  refine .ite _ ((moved _).andThen (enterSupplyLost_kept _)) (.ite _ ?_ (moved _))
  exact ((moved _).andThen (.quiet (onAir_touches _ _) rfl)).andThen (raiseAlert_kept _ _ _ _)

theorem airTakesSet_kept : Kept s (airTakesSet s) := by
  have judged : Kept s (evaluateSupply (judgedPresence s)) :=
    (Kept.quiet ((onAir_touches s _).andThen (onAir_touches _ _)) rfl).andThen (evaluateSupply_kept _)
  have noted : ∀ f, Kept s ((evaluateSupply (judgedPresence s)).onAir f) := fun f =>
    judged.andThen (.quiet (onAir_touches _ f) rfl)
  obtain ⟨-, -, h⟩ | ⟨-, -, h⟩ | ⟨-, h⟩ := airTakesSet_cases s <;> rw [h]
  · exact (noted _).andThen (raiseAlert_kept _ _ _ _)
  · exact noted _
  · exact noted _

theorem goIntervene_kept : Kept s (goIntervene s) := by
  unfold goIntervene
  refine .andThen ?_ (.quiet (requestTally_touches _ _) rfl)
  refine .andThen ?_ (raiseAlert_kept _ _ _ _)
  exact (Kept.quiet (leaveTest_touches s) rfl).andThen (.quiet (onRoll_touches _ _) rfl)

theorem rampStep_kept : Kept s (rampStep s) := .ite _ (.quiet (goIdle_touches s) rfl) (.quiet (onRoll_touches s _) rfl)

theorem abortToIdle_kept : Kept s (abortToIdle s) :=
  (Kept.quiet (onRoll_touches s _) rfl).andThen (.quiet (goIdle_touches _) rfl)

theorem testStep_kept : Kept s (testStep s) := by
  have noted : ∀ f, Kept s (s.onRoll f) := fun f => .quiet (onRoll_touches s f) rfl
  unfold testStep
  dsimp only
  split
  · refine .ite _ ((noted _).andThen (goIntervene_kept _)) (.ite _ (goIntervene_kept s) ?_)
    exact .ite _ ((noted _).andThen (.quiet (goWatch_touches _) rfl)) (.ite _ ((noted _).andThen (.quiet (goIdle_touches _) rfl))
      (.refl s))
  · exact .refl s

theorem interveneStep_kept : Kept s (interveneStep s) := by
  have noted : ∀ (t : State) f, Kept t (t.onRoll f) := fun t f => .quiet (onRoll_touches t f) rfl
  exact (noted s _).andThen (.ite _ (noted _ _) (.ite _ (.ite _ (noted _ _) (.refl _)) (noted _ _)))

theorem rollStateStep_kept : Kept s (rollStateStep s) := by
  unfold rollStateStep
  split
  · exact .ite _ (.ite _ (goIntervene_kept s) (.ite _ (.quiet (tryTest_touches s) rfl) (.refl s))) (.refl s)
  · exact testStep_kept s
  · exact .ite _ (goIntervene_kept s) (.refl s)
  · exact interveneStep_kept s
  · exact .ite _ (goIntervene_kept s) (rampStep_kept s)

theorem rollInvalidStep_kept : Kept s (rollInvalidStep s) := by
  unfold rollInvalidStep
  split
  · exact .refl s
  · exact abortToIdle_kept s
  · exact .quiet (goIdle_touches s) rfl
  · exact .quiet (onRoll_touches s _) rfl
  · exact rampStep_kept s

theorem rollTakesSet_kept : Kept s (rollTakesSet s) := by
  have noted : ∀ (t : State) f, Kept t (t.onRoll f) := fun t f => .quiet (onRoll_touches t f) rfl
  exact (noted s _).andThen (.ite _ ((noted _ _).andThen (rollStateStep_kept _))
    ((noted _ _).andThen (rollInvalidStep_kept _)))

theorem rollTimerExpiry_kept : Kept s (rollTimerExpiry s) := by
  have noted : ∀ (t : State) f, Kept t (t.onRoll f) := fun t f => .quiet (onRoll_touches t f) rfl
  refine .ite _ (.andThen (t := updateThresholds s) (noted s _) ?_) (.refl s)
  unfold testExpiry watchExpiry
  dsimp only
  split
  · exact .ite _ (abortToIdle_kept _) ((noted _ _).andThen (.quiet (goWatch_touches _) rfl))
  · exact .ite _ (.quiet (goIdle_touches _) rfl) (.ite _ (goIntervene_kept _) (.ite _ (.quiet (tryTest_touches _) rfl)
      (.quiet (goIdle_touches _) rfl)))
  · exact noted _ _
  · exact .refl _
  · exact .refl _

theorem estimateTakesSet_kept (g : Group) : Kept s (estimateTakesSet g s) := by
  rw [estimateTakesSet_eq]
  refine (Kept.quiet (estimatedSet_touches g s) rfl).andThen ?_
  exact .ite _ ((Kept.quiet (onEstimate_touches _ g _) rfl).andThen (raiseAlert_kept _ _ _ _)) (.refl _)

theorem handSet_kept : Kept s (handSet s) :=
  handSet_keeps (Kept s) (fun t h => h.andThen (.quiet (spend_touches t) rfl))
    (fun t h => h.andThen ((estimateTakesSet_kept t .a).andThen (estimateTakesSet_kept _ .b)))
    (fun t h => h.andThen (arbiterTakesSet_kept t)) (fun t h => h.andThen (airTakesSet_kept t))
    (fun t h => h.andThen (rollTakesSet_kept t)) (fun _ h => h.andThen (.onTyresRest rfl)) (.refl s)

/-! ### Sample sets -/

theorem sampleSetArrival_kept (bytes : List Byte) : Kept s (sampleSetArrival bytes s) := by
  have port : ∀ f, Kept s (s.onSample f) := fun f => .quiet (onSample_touches s f) rfl
  refine .ite _ (.refl s) (.ite _ (port _) (.ite _ (port _) ?_))
  exact .andThen (.ite _ ((port _).andThen (evaluateFailSafe_kept _)) (port _)) (handSet_kept _)

theorem lossTimerExpiry_kept : Kept s (lossTimerExpiry s) := by
  refine .ite _ ?_ (.refl s)
  unfold declareLoss
  refine .andThen ?_ (.quiet (airTakesLoss_touches _) rfl)
  refine .andThen ?_ (.quiet (rollTakesLoss_touches _) rfl)
  refine .andThen ?_ (evaluateFailSafe_kept _)
  refine .andThen ?_ (.quiet (deriveDemand_touches _) rfl)
  refine .andThen ?_ (fillCaptureBlock_kept _ _ _)
  exact .andThen (.quiet (onSample_touches s _) rfl) (raiseAlert_kept _ _ _ _)

end Operations

end Sys2Proof.Machine
end

section
/-! The bounds of the queues and the position map over the tyre receiver, the tyre table, the relay and the link engine. -/

namespace Sys2Proof.Machine

open Sys2Proof

section Tyres

variable (s : State)

/-! ### The tyre receiver -/

theorem takeBit_kept (bit : Bool) : Kept s (takeBit bit s) := .onRx fun h => by
  split
  · split
    · exact huntBit_bound _ bit h
    · exact assembleBit_bound _ bit h
  · exact h

theorem carrierChange_kept (level : Bool) : Kept s (carrierChange level s) := .onRx fun h => by
  split
  · exact h
  · split
    · exact ⟨h.queue, Nat.zero_le _, h.buffer⟩
    · split
      · exact ⟨h.queue, h.window, h.buffer⟩
      · exact huntAgain_bound h.queue

/-! ### Readings and misses -/

theorem takeReading_kept (p : Position) (e : Telegram) : Kept s (takeReading p e s) := by
  have raised : ∀ (t : State) st, Kept t (tyreAlert e.time p st t) := fun t st => by
    cases st with
    | fastLeak | veryLow | hot | low => exact raiseAlertAt_kept t _ _ _ _
    | high | ok | absent | disabled | noData | lost => exact .refl t
  have entered : ∀ (t : State) st, Kept t (enterTyreState e.time p st t) := fun t st =>
    .ite _ (.refl t) (.andThen (.andThen (.onTyresRest rfl) (raised _ st)) (.onTyresRest rfl))
  have recorded : ∀ f, Kept s (s.onTyre p f) := fun _ => .onTyresRest rfl
  exact .ite _ (recorded _) ((recorded _).andThen (entered _ _))

theorem setUnknown_kept {k : Fin 4} {x : Option UnknownEntry}
    (h : MapInv s → ∀ e, x = some e → ∀ p, gridGet s.tyres.map p ≠ some e.id) : Kept s (setUnknown k x s) :=
  .onTyres fun hm => hm.listed (h ((mapInv_iff s).mpr hm))

/-- A miss enters the list an ID that the map does not hold (R125, R126). -/
theorem takeMiss_kept {e : Telegram} (h : positionOf s.tyres.map e.id = none) : Kept s (takeMiss e s) := by
  unfold takeMiss
  split
  · split
    · next k _ _ u hu =>
      have same : ∀ x : UnknownEntry, x.id = u.id → Kept s (setUnknown k (some x) s) := fun x hx =>
        setUnknown_kept s fun hm y hy p => by
          cases hy
          rw [hx]
          exact ((mapInv_iff s).mp hm).apart p k u hu
      unfold knownMiss
      refine .ite _ (.onTyresRest rfl) (.ite _ (.andThen ?_ (raiseAlertAt_kept _ _ _ _ _)) ?_)
      · exact same _ rfl
      · exact same _ rfl
    · exact .refl s
  · exact setUnknown_kept s fun _ y hy p => by
      cases hy
      exact positionOf_none h p

theorem ordinaryEntry_kept (e : Telegram) : Kept s (ordinaryEntry e s) := by
  unfold ordinaryEntry
  split
  · exact .ite _ (.onTyresRest rfl) ((takeReading_kept s _ e).andThen (.onTyresRest rfl))
  · next h => exact .andThen (.onTyresRest rfl) (takeMiss_kept _ h)

/-! ### Binds (R128) -/

theorem endSession_kept (result : Completion) : Kept s (endSession result s) := by
  unfold endSession
  split
  · exact Kept.answered (.onTyresRest rfl) _ _ _
  · exact .refl s

theorem unbindOther_kept (id : SensorId) (p : Position) : Kept s (unbindOther id p s) := by
  unfold unbindOther
  split
  · exact .ite _ (.refl s) (.onTyres fun h => h.emptied _)
  · exact .refl s

/-- Once another position that held the ID is emptied, no other position holds it (R128). -/
theorem unbindOther_frees {s : State} (h : MapInv s) {id : SensorId} {p q : Position} (hq : q ≠ p) :
    gridGet (unbindOther id p s).tyres.map q ≠ some id := by
  have hm := (mapInv_iff s).mp h
  unfold unbindOther
  split
  · next r hr =>
    have honly := positionOf_some hr
    split
    · next hrp => exact fun hid => hq ((hm.single q r id hid honly).trans hrp)
    · show gridGet (gridSet s.tyres.map r none) q ≠ some id
      by_cases hqr : q = r
      · rw [hqr, gridGet_set_same]
        exact nofun
      · rw [gridGet_set_other _ _ hqr]
        exact fun hid => hqr (hm.single q r id hid honly)
  · next hnone => exact positionOf_none hnone q

/-- The ID leaves the list and takes a slot, which alone may hold it (R128). -/
theorem bindSlot_positions {s : State} {e : Telegram} {p : Position} (h : MapInv s)
    (hfree : ∀ q, q ≠ p → gridGet s.tyres.map q ≠ some e.id) : MapInv (bindSlot e p s) := by
  refine (mapInv_iff _).mpr ((((mapInv_iff s).mp h).withoutIds fun id => id == e.id).bound hfree fun k x hx hid => ?_)
  rw [quadGet_map] at hx
  obtain ⟨-, hkept⟩ := Option.filter_eq_some_iff.mp hx
  rw [hid, beq_self_eq_true] at hkept
  exact nomatch hkept

theorem bindSensor_kept (e : Telegram) (p : Position) : Kept s (bindSensor e p s) := by
  have other := unbindOther_kept s e.id p
  have slot : Kept s (bindSlot e p (unbindOther e.id p s)) :=
    ⟨other.queues, fun h => bindSlot_positions (other.positions h) fun _ => unbindOther_frees h⟩
  unfold bindSensor
  refine .andThen ?_ (.onTyresRest rfl)
  refine .andThen ?_ (requestBlock3_kept _)
  refine .andThen ?_ (.onTyresRest rfl)
  refine .andThen ?_ (endSession_kept _ _)
  refine .andThen ?_ (.onTyresRest rfl)
  exact slot.andThen (takeReading_kept _ p e)

theorem telegramEntryTaken_kept : Kept s (telegramEntryTaken s) := by
  have judged : ∀ e t, Kept t (judgeEntry e t) := fun e t => by
    unfold judgeEntry
    split
    · exact .ite _ (bindSensor_kept t e _) (ordinaryEntry_kept t e)
    · exact ordinaryEntry_kept t e
  unfold telegramEntryTaken
  split
  · next e rest hq =>
    refine .andThen (.andThen (.onRx fun h => ?_) (.ite _ (.onTyresRest rfl) (.refl _))) (judged e _)
    have hlen := h.queue
    rw [hq, List.length_cons] at hlen
    exact ⟨(Nat.le_add_right _ _).trans hlen, h.window, h.buffer⟩
  · exact .refl s

/-! ### Learning, the check timer and activations -/

theorem learnPosition_kept (tag : Byte) (n seconds : Nat) : Kept s (learnPosition tag n seconds s) := by
  unfold learnPosition
  split
  · refine .ite _ (answer_kept s _ _ _) (.ite _ (answer_kept s _ _ _) (.ite _ (answer_kept s _ _ _) ?_))
    exact Kept.answered (.onTyresRest rfl) _ _ _
  · exact answer_kept s _ _ _

theorem cancelLearn_kept (tag : Byte) : Kept s (cancelLearn tag s) :=
  .ite _ ((answer_kept s _ _ _).andThen (endSession_kept _ _)) (answer_kept s _ _ _)

theorem checkTimerExpiry_kept : Kept s (checkTimerExpiry s) := by
  have lost : ∀ t p, Kept t (checkLost t p) := fun t p =>
    .ite _ (.andThen (.andThen (.onTyresRest rfl) (raiseAlert_kept _ _ _ _)) (.onTyresRest rfl)) (.refl t)
  have drag : ∀ t p, Kept t (checkDrag t p) := fun t p => by
    unfold checkDrag
    split
    · exact .ite _ (((errorEvent_kept t _).andThen (raiseAlert_kept _ _ _ _)).andThen (.onTyresRest rfl)) (.refl t)
    · exact .refl t
  unfold checkTimerExpiry
  refine .ite _ ?_ (.refl s)
  refine .andThen ?_ (.foldl checkDrag allPositions drag _)
  refine .andThen (.andThen ?_ (.foldl checkLost allPositions lost _)) (.onTyresRest rfl)
  exact .andThen (.onTyresRest rfl) (.ite _ (.onTyresRest rfl) (.refl _))

theorem tyresTakeT4_kept (old : Table) : Kept s (tyresTakeT4 old s) := by
  have cancelled : ∀ t, Kept t (cancelDisabledSession t) := fun t => by
    unfold cancelDisabledSession
    split
    · exact .ite _ (endSession_kept t _) (.refl t)
    · exact .refl t
  unfold tyresTakeT4
  exact .andThen (.andThen (.onTyresRest rfl) (cancelled _)) (.onTyresRest rfl)

/-- An activated T5 sets the map and empties the unknown sensor list of its IDs, whatever both held (R130). -/
theorem tyresTakeT5_positions (t5 : Table) :
    (tyresTakeT5 t5 s).tyres.map = mapOfTable t5 ∧ (tyresTakeT5 t5 s).tyres.unknown =
      quadMap (fun _ x => x.filter fun e => !(positionOf (mapOfTable t5) e.id).isSome) s.tyres.unknown := ⟨rfl, rfl⟩

theorem tyresTakeT5_kept {t5 : Table} (h : tableCheck 5 t5 = none) : Kept s (tyresTakeT5 t5 s) := by
  have honly := tyresTakeT5_touches s t5
  obtain ⟨hmap, hlist⟩ := tyresTakeT5_positions s t5
  generalize tyresTakeT5 t5 s = t at *
  have halerts : t.alerts = s.alerts := honly .alerts (by decide)
  have hrelay : t.relay = s.relay := honly .relay (by decide)
  have hrx : t.rx = s.rx := honly .rx (by decide)
  have hmgmt : t.mgmt = s.mgmt := honly .mgmt (by decide)
  exact .of_blocks (halerts ▸ id) (hrelay ▸ id) (hrx ▸ id) (hmgmt ▸ id) fun _ => by
    rw [hmap, hlist]
    exact activatedMap_bound h s.tyres.unknown

end Tyres

section Relay

variable (s : State)

/-! ### Hand-overs (R153, R155) -/

theorem rearHandover_kept : Kept s (rearHandover s) := by
  unfold rearHandover
  refine .ite _ ?_ (.refl s)
  split
  · next i rest hq =>
    refine .onRelay fun h => (h.fewer (q := rest) ?_).same rfl
    rw [hq]
    exact List.sublist_cons_self i rest
  · exact .refl s

theorem rearHandoverOutcome_kept (acked : Bool) : Kept s (rearHandoverOutcome acked s) := by
  have settled : ∀ t, Kept t (settleIsolation t) := fun t => by
    unfold settleIsolation
    split
    · exact Kept.answered (.onRelay enterIsolated_bound) _ _ _
    · exact .refl t
  unfold rearHandoverOutcome
  split
  · refine .andThen (.onRelay fun h => ?_) (settled _)
    have free : RelayBound { s.relay with rearTx := none } := h.same rfl
    dsimp only
    split
    · exact rearAcked_bound free
    · exact rearNotAcked_bound _ free
  · exact .refl s

theorem isolateRear_kept (tag : Byte) : Kept s (isolateRear tag s) := by
  refine .ite _ (answer_kept s _ _ _) (.ite _ (answer_kept s _ _ _) (.ite _ ?_ ?_))
  · exact Kept.answered (.onRelay enterIsolated_bound) _ _ _
  · exact Kept.answered (.onRelay fun h => h.same rfl) _ _ _

theorem resumeRear_kept (tag : Byte) : Kept s (resumeRear tag s) := by
  refine .ite _ (Kept.answered (.onRelay fun h => h.same rfl) _ _ _) ?_
  split
  · exact (Kept.answered (.onRelay fun h => h.same rfl) _ _ _).answered _ _ _
  · exact answer_kept s _ _ _

theorem markFront_kept (source : FrontSource) : Kept s (markFront source s) := by
  unfold markFront
  split
  · refine .onAlerts fun h => ?_
    unfold AlertsBound
    rw [map_changeFirst raiseKey _ (fun e : Alert => { e with inTx := true }) fun _ => rfl]
    exact h
  · exact .onRelay fun h => h.withRelayed ((markRelayed_length _).trans_le h.relayed)
  · exact .refl s
  · exact .onAlerts id
  · exact .onAlerts id

theorem frontHandover_kept : Kept s (frontHandover s) := by
  unfold frontHandover
  split
  · exact (markFront_kept s _).andThen (.onRelay fun h => h.same rfl)
  · exact .refl s
  · exact .refl s

theorem frontOutcome_kept (source : FrontSource) (acked : Bool) : Kept s (frontOutcome source acked s) := by
  unfold frontOutcome
  split
  · exact alertOutcome_kept s acked
  · exact .onRelay fun h => h.withRelayed ((relayedOutcome_length acked _).trans h.relayed)
  · exact .ite _ (.onMgmt dropSentFrame_bound) (.refl s)
  · exact statusOutcome_kept s true acked
  · exact statusOutcome_kept s false acked

theorem frontHandoverOutcome_kept (acked : Bool) : Kept s (frontHandoverOutcome acked s) := by
  unfold frontHandoverOutcome
  split
  · exact (frontOutcome_kept s _ acked).andThen (.onRelay fun h => h.same rfl)
  · exact .refl s

theorem relayTakesT6_kept : Kept s (relayTakesT6 s) :=
  .onRelay fun h => ⟨h.relayed, h.rearward, h.demands, List.length_replicate⟩

/-! ### The link engine -/

theorem offerDemand_kept (seq : Nat) (stale substitute : Bool) : Kept s (offerDemand seq stale substitute s) :=
  .onRelay (offerRear_bound _)

theorem takePosition_kept (data : List Byte) : Kept s (takePosition data s) := by
  have link : ∀ (t : State) f, Kept t (t.onLink f) := fun t f => .quiet (onLink_touches t f) rfl
  have mismatch : ∀ n t, Kept t (positionMismatch n t) := fun n t =>
    (link t _).andThen (.ite _ (raiseAlert_kept _ _ _ _) (.refl _))
  have learn : ∀ n t, Kept t (learnPlacement n t) := fun n t => by
    unfold learnPlacement
    split
    · exact .ite _ ((link t _).andThen (.onRelay relayPlaced_bound)) (.refl t)
    · refine .ite _ (link t _) (.ite _ (.ite _ ((link t _).andThen (link _ _)) ?_) (mismatch n t))
      exact ((link t _).andThen (link _ _)).andThen (.onRelay relayUnplaced_bound)
  have fixed : ∀ n t, Kept t (fixedPlacement n t) := fun n t => .ite _ (link t _) (mismatch n t)
  have offered : ∀ t, Kept t (offerPosition t) := fun t => .ite _ (.onRelay (offerRear_bound _)) (.refl t)
  refine .ite _ (link s _) ?_
  exact ((link s _).andThen (.ite _ (learn _ _) (fixed _ _))).andThen (offered _)

theorem sendRearward_kept : Kept s (sendRearward s) := by
  have link : ∀ f, Kept s (s.onLink f) := fun f => .quiet (onLink_touches s f) rfl
  unfold sendRearward
  split
  · exact (link _).andThen (offerDemand_kept _ _ _ _)
  · exact .ite _ ((link _).andThen (offerDemand_kept _ _ _ _)) (link _)
  · exact .refl s
  · exact .refl s

theorem takeDemand_kept (data : List Byte) : Kept s (takeDemand data s) := by
  have link : ∀ f, Kept s (s.onLink f) := fun f => .quiet (onLink_touches s f) rfl
  refine .ite _ (link _) (.ite _ ?_ (link _))
  unfold takeFresh
  refine .andThen ?_ (offerDemand_kept _ _ _ _)
  refine .andThen ?_ (.quiet (deriveDemand_touches _) rfl)
  exact .ite _ ((link _).andThen (evaluateFailSafe_kept _)) (link _)

theorem enterLost_kept : Kept s (enterLost s) := by
  unfold enterLost
  refine .andThen ?_ (sendRearward_kept _)
  refine .andThen ?_ (.quiet (deriveDemand_touches _) rfl)
  refine .andThen ?_ (evaluateFailSafe_kept _)
  refine .andThen ?_ (fillCaptureBlock_kept _ _ _)
  exact .andThen (.quiet (onLink_touches s _) rfl) (raiseAlert_kept _ _ _ _)

theorem enterStale_kept : Kept s (enterStale s) := by
  unfold enterStale
  refine .andThen ?_ (sendRearward_kept _)
  exact (Kept.quiet (onLink_touches s _) rfl).andThen (.quiet (deriveDemand_touches _) rfl)

theorem demandTimerExpiry_kept : Kept s (demandTimerExpiry s) := by
  refine .ite _ ?_ (.refl s)
  split
  · exact enterStale_kept s
  · exact enterLost_kept s
  · exact enterLost_kept s
  · exact .refl s

theorem rearwardTimerExpiry_kept : Kept s (rearwardTimerExpiry s) :=
  .ite _ (.andThen (.quiet (onLink_touches s _) rfl) (sendRearward_kept _)) (.refl s)

end Relay

end Sys2Proof.Machine
end

section
/-! The bounds of the queues and the position map over the requests, the resets and every command: every step keeps them. -/

namespace Sys2Proof.Machine

open Sys2Proof

section Requests

variable (s : State)

/-! ### The requests of the management engine -/

theorem readRecord_kept (tag : Byte) (selector number index : Nat) : Kept s (readRecord tag selector number index s) := by
  unfold readRecord
  split
  · exact (placePage_kept s _ _).andThen (.quiet (spend_touches _) rfl)
  · exact (answer_kept s _ _ _).andThen (.quiet (spend_touches _) rfl)

theorem openTable_kept (tag : Byte) (n : Nat) : Kept s (openTable tag n s) :=
  .ite _ (Kept.answered (.onMgmtRest rfl) _ _ _) (answer_kept s _ _ _)

theorem loadSegment_kept (tag : Byte) (i : Nat) (bytes : List Byte) : Kept s (loadSegment tag i bytes s) := by
  unfold loadSegment
  split
  · exact answer_kept s _ _ _
  · exact .ite _ (Kept.answered (.onMgmtRest rfl) _ _ _) (answer_kept s _ _ _)

theorem evaluateDerates_kept : Kept s (evaluateDerates s) := .onTyresRest rfl

theorem activateT1_kept (t1 : Table) : Kept s (activateT1 t1 s) := by
  have tyres : ∀ t, Kept t (tyresTakeT1 t) := evaluateDerates_kept
  have port : Kept s (portTakesT1 (s.onTables fun x => { x with t1 := t1 })) :=
    (Kept.quiet (onTables_touches s _) rfl).andThen (.quiet (portTakesT1_touches _) rfl)
  unfold activateT1
  dsimp only
  refine .andThen ?_ (.quiet (spend_touches _) rfl)
  split
  · exact (port.andThen (tyres _)).andThen (arbiterTakesT1_kept _)
  · exact (port.andThen (arbiterTakesT1_kept _)).andThen (tyres _)

theorem installTable_kept {n : Nat} {bytes : Table} (h : tableCheck n bytes = none) : Kept s (installTable n bytes s) := by
  have tables : ∀ f, Kept s (s.onTables f) := fun f => .quiet (onTables_touches s f) rfl
  unfold installTable
  split
  case h_1 => exact activateT1_kept s bytes
  case h_2 => exact (tables _).andThen (.quiet (estimatorTakesT2_touches _) rfl)
  case h_3 => exact tables _
  case h_4 => exact (tables _).andThen (tyresTakeT4_kept _ _)
  case h_5 => exact tyresTakeT5_kept s h
  case h_6 => exact (tables _).andThen (relayTakesT6_kept _)
  case h_7 => exact .refl s

theorem activateTable_kept (tag : Byte) (n : Nat) : Kept s (activateTable tag n s) := by
  unfold activateTable
  split
  · exact answer_kept s _ _ _
  · next h => exact Kept.answered ((installTable_kept s (activation_valid h).1).andThen (.onMgmtRest rfl)) _ _ _

/-- An operation of the table store that a request starts: it holds the request's tag and is answered ACCEPTED. -/
theorem accepted_kept {t : State} (h : Kept s t) (code : Nat) (tag : Byte) :
    Kept s (answer code tag .accepted (holdStoreTag code tag t)) := (h.andThen (.onMgmtRest rfl)).answered _ _ _

theorem storeBlock_kept (tag : Byte) (n : Nat) : Kept s (storeBlock tag n s) := by
  unfold storeBlock
  split
  · refine .ite _ (answer_kept s _ _ _) (.ite _ (answer_kept s _ _ _) ?_)
    exact accepted_kept s (startWrite_kept s _) _ _
  · exact answer_kept s _ _ _

theorem eraseTallies_kept (tag : Byte) : Kept s (eraseTallies tag s) := by
  refine .ite _ (answer_kept s _ _ _) (.ite _ (answer_kept s _ _ _) ?_)
  exact accepted_kept s (.quiet (startErase_touches s) rfl) _ _

theorem setProtection_kept (tag : Byte) (mask : Nat) : Kept s (setProtection tag mask s) := by
  refine .ite _ (answer_kept s _ _ _) (.ite _ (answer_kept s _ _ _) (.ite _ (answer_kept s _ _ _) ?_))
  exact accepted_kept s (.quiet (startProtect_touches s _) rfl) _ _

theorem refreshProtection_kept (tag : Byte) : Kept s (refreshProtection tag s) :=
  .ite _ (answer_kept s _ _ _) ((Kept.quiet (onStore_touches s _) rfl).answered _ _ _)

theorem lockCalibration_kept (tag : Byte) : Kept s (lockCalibration tag s) := by
  refine .ite _ (answer_kept s _ _ _) (.ite _ (answer_kept s _ _ _) (.ite _ (answer_kept s _ _ _) ?_))
  exact accepted_kept s (.quiet (startProtect_touches s _) rfl) _ _

theorem clearCapture_kept (tag : Byte) : Kept s (clearCapture tag s) :=
  Kept.answered (t := emptyCapture s) (.onAlerts id) _ _ _

/-! ### Resets and power -/

theorem receiverReset_bound (carrier : Bool) : ReceiverBound (receiverReset carrier) :=
  ⟨Nat.zero_le _, Nat.zero_le _, Nat.zero_lt_succ _⟩

theorem relayReset_bound (placed rearOff : Bool) : RelayBound (relayReset placed rearOff) :=
  ⟨Nat.zero_le _, Nat.zero_le _, Nat.zero_le _, List.length_replicate⟩

theorem raisesBound_nil : RaisesBound [] := ⟨Nat.zero_le _, List.nodup_nil⟩

theorem cancelOperations_kept : Kept s (cancelOperations s) := by
  have ended : Kept s (endSession .cancelled (allChannels.foldl (fun s c => cancelPendingHalt c s) s)) :=
    (Kept.foldl _ _ (fun t c => cancelPendingHalt_kept t c) s).andThen (endSession_kept _ _)
  exact .ite _ (ended.andThen (completeStore_kept _ _)) ended

theorem resetBlocks_kept : Kept s (resetBlocks s) :=
  .of_blocks id id (fun _ => receiverReset_bound _) id fun _ => loadedMap_bound _

theorem functionalReset_kept : Kept s (functionalReset s) := by
  unfold functionalReset arbiterAfterReset
  refine .andThen ?_ (.foldl _ _ faultByThreshold_kept _)
  refine .andThen ?_ (raiseLoad_kept _ _)
  refine .andThen ?_ (.quiet (deriveDemand_touches _) rfl)
  refine .andThen ?_ (.quiet (onArbiter_touches _ _) rfl)
  refine .andThen ?_ (resetBlocks_kept _)
  exact .andThen (.onAlerts (f := fun a => { a with queue := [] }) fun _ => raisesBound_nil) (cancelOperations_kept _)

/-- A power-on reset starts with empty queues, and with the position map of block 3 (R178). -/
theorem poweredState_kept (nv : Memory) (prot : BitVec 16) : Kept s (poweredState nv prot s) :=
  .of_blocks (fun _ => raisesBound_nil) (fun _ => relayReset_bound _ _) (fun _ => receiverReset_bound _)
    (fun _ => ⟨Nat.zero_le _, nofun⟩) fun _ => loadedMap_bound _

theorem powerOn_kept : Kept s (powerOn s) := (poweredState_kept s _ _).andThen (raiseLoad_kept _ _)

theorem setLine_touches (level : Bool) : ChangesOnly [.line] s { s with resetLine := level } := by
  intro p hp
  cases p
  case line => exact absurd (by decide) hp
  all_goals rfl

theorem setLine_kept (level : Bool) : Kept s { s with resetLine := level } := .quiet (setLine_touches s level) rfl

theorem powerOff_touches : ChangesOnly [.power] s { s with powered := false } := by
  intro p hp
  cases p
  case power => exact absurd (by decide) hp
  all_goals rfl

theorem losePower_kept : Kept s (losePower s) := by
  unfold losePower
  split
  · exact (poweredState_kept s _ _).andThen (.quiet (powerOff_touches _) rfl)
  · exact .refl s

theorem assertResetLine_kept : Kept s (assertResetLine s) := by
  unfold assertResetLine
  split
  · exact .refl s
  · exact (setLine_kept s true).andThen (functionalReset_kept _)

theorem releaseResetLine_kept : Kept s (releaseResetLine s) := by
  unfold releaseResetLine
  split
  · exact (setLine_kept s false).andThen (.quiet (onSample_touches _ _) rfl)
  · exact .refl s

/-! ### Requests and frames -/

theorem restart_kept (tag : Byte) : Kept s (restart tag s) :=
  .ite _ (answer_kept s _ _ _) ((answer_kept s _ _ _).andThen (functionalReset_kept _))

theorem passRequest_kept (code : Nat) (tag : Byte) (data : List Byte) : Kept s (passRequest code tag data s) := by
  unfold passRequest
  split
  case h_1 => exact readRecord_kept s _ _ _ _
  case h_2 => exact openTable_kept s _ _
  case h_3 => exact loadSegment_kept s _ _ _
  case h_4 => exact activateTable_kept s _ _
  case h_5 => exact storeBlock_kept s _ _
  case h_6 => exact eraseTallies_kept s _
  case h_7 => exact setProtection_kept s _ _
  case h_8 => exact refreshProtection_kept s _
  case h_9 => exact lockCalibration_kept s _
  case h_10 => exact haltChannel_kept s _ _ _
  case h_11 => exact runChannel_kept s _ _
  case h_12 => exact clearChannel_kept s _ _
  case h_13 => exact clearCapture_kept s _
  case h_14 => exact learnPosition_kept s _ _ _
  case h_15 => exact cancelLearn_kept s _
  case h_16 => exact isolateRear_kept s _
  case h_17 => exact resumeRear_kept s _
  case h_18 => exact restart_kept s _
  case h_19 => exact .refl s

theorem judgeRequest_kept (f : CanFrame) (tag : Byte) : Kept s (judgeRequest f tag s) := by
  refine .ite _ (Kept.answered (.onMgmtRest rfl) _ _ _) (.ite _ (Kept.answered (.onMgmtRest rfl) _ _ _) ?_)
  exact .ite _ (answer_kept s _ _ _) (passRequest_kept s _ _ _)

theorem engineTakes_kept (f : CanFrame) : Kept s (engineTakes f s) := by
  unfold engineTakes
  refine .andThen (t := s.onMgmt fun m => { m with taken := satInc m.taken }) (.onMgmtRest rfl) ?_
  dsimp only
  split
  · exact judgeRequest_kept _ f _
  · exact .onMgmtRest rfl

theorem handleRequest_kept (f : CanFrame) : Kept s (handleRequest f s) := by
  refine .ite _ ((engineTakes_kept s f).andThen (.onRelay (offerRear_bound _))) (.ite _ (engineTakes_kept s f) ?_)
  exact .ite _ (.onRelay (offerRear_bound _)) (.onRelay fun h => h.same rfl)

theorem countArrival_kept (p : Port) : Kept s (countArrival p s) := by
  cases p with
  | front => exact .onRelay fun h => h.same rfl
  | rear => exact .onRelay fun h => h.same rfl

theorem requestArrival_kept (code : Nat) (q : ReqFrame) : Kept s (requestArrival code q s) :=
  (countArrival_kept s .front).andThen (handleRequest_kept _ _)

theorem handleFront_kept (f : CanFrame) : Kept s (handleFront f s) := by
  have dropped : Kept s (dropMisdirected s) := .onRelay fun h => h.same rfl
  unfold handleFront
  split
  case h_2 => exact takeDemand_kept s _
  case h_3 => exact takePosition_kept s _
  case h_6 => exact handleRequest_kept s f
  case h_8 => exact .onRelay (routeFrame_bound _ _ _)
  all_goals exact dropped

theorem handleRear_kept (f : CanFrame) : Kept s (handleRear f s) := by
  have dropped : Kept s (dropWrongDirection s) := .onRelay fun h => h.same rfl
  have placed : Kept s (s.onRelay (placeRelayed f)) := .onRelay (placeRelayed_bound f)
  unfold handleRear
  split
  case h_4 => exact placed
  case h_5 => exact placed
  case h_7 => exact placed
  case h_8 => exact .onRelay (routeFrame_bound _ _ _)
  all_goals exact dropped

theorem frameArrival_kept (p : Port) (f : CanFrame) : Kept s (frameArrival p f s) := by
  cases p with
  | front =>
    refine (countArrival_kept s .front).andThen ?_
    exact .ite _ (handleFront_kept _ f) (.onRelay fun h => h.same rfl)
  | rear =>
    refine (countArrival_kept s .rear).andThen ?_
    exact .ite _ (.onRelay fun h => h.same rfl) (.ite _ (handleRear_kept _ f) (.onRelay fun h => h.same rfl))

theorem learnTimerExpiry_kept : Kept s (learnTimerExpiry s) := .ite _ (endSession_kept s _) (.refl s)

end Requests

/-! ### Every command and every step -/

/-- Every command that a part without supply does not take. -/
theorem effect_kept {c : Instr} {f : State → State} (h : effectOf c = some f) (s : State) : Kept s (f s) := by
  cases c <;> simp only [effectOf, reduceCtorEq, Option.some.injEq] at h <;> subst h
  case sampleSetArrival b => exact sampleSetArrival_kept s b
  case lossTimerExpiry => exact lossTimerExpiry_kept s
  case valveRecordSent => exact .quiet (valveRecordSent_touches s) rfl
  case pendingRecordTransmit => exact .quiet (pendingRecordTransmit_touches s) rfl
  case refreshDue => exact .quiet (refreshDue_touches s) rfl
  case driverStatusRecord b => exact driverStatusRecord_kept s b
  case holdTimerExpiry c => exact .quiet (holdTimerExpiry_touches s c) rfl
  case rollTimerExpiry => exact rollTimerExpiry_kept s
  case syncMatch b => exact takeBit_kept s b
  case telegramComplete b => exact takeBit_kept s b
  case bitTaken b => exact takeBit_kept s b
  case telegramEntryTaken => exact telegramEntryTaken_kept s
  case checkTimerExpiry => exact checkTimerExpiry_kept s
  case learnTimerExpiry => exact learnTimerExpiry_kept s
  case frameArrival p f => exact frameArrival_kept s p f
  case demandFrame f => exact (countArrival_kept s .front).andThen (takeDemand_kept _ _)
  case positionFrame f => exact (countArrival_kept s .front).andThen (takePosition_kept _ _)
  case demandTimerExpiry => exact demandTimerExpiry_kept s
  case rearwardTimerExpiry => exact rearwardTimerExpiry_kept s
  case frontHandover => exact frontHandover_kept s
  case frontHandoverOutcome a => exact frontHandoverOutcome_kept s a
  case rearHandover => exact rearHandover_kept s
  case rearHandoverOutcome a => exact rearHandoverOutcome_kept s a
  case statusTimerExpiry => exact statusTimerExpiry_kept s
  case blockWriteComplete => exact blockWriteComplete_kept s
  case tallyEraseComplete => exact tallyEraseComplete_kept s
  case tallyBitProgrammed => exact .quiet (tallyBitProgrammed_touches s) rfl
  case pendingTallyStart => exact .quiet (pendingTallyStart_touches s) rfl
  case waitingBlock3StoreStart => exact waitingBlock3StoreStart_kept s
  case protectionWordProgrammed => exact protectionWordProgrammed_kept s
  all_goals exact requestArrival_kept s _ _

theorem exec_kept {c : Instr} {s t : State} (h : exec c s = .next t) : Kept s t := by
  obtain ⟨-, ht⟩ | ⟨-, ht⟩ | ⟨-, ht⟩ | ⟨-, ht⟩ | ⟨b, -, ht⟩ | ⟨f, hf, ht⟩ := exec_cases h <;> rw [ht]
  · exact powerOn_kept s
  · exact losePower_kept s
  · split
    · exact assertResetLine_kept s
    · exact setLine_kept s true
  · split
    · exact releaseResetLine_kept s
    · exact setLine_kept s false
  · split
    · exact carrierChange_kept s b
    · exact .onRx fun h => ⟨h.queue, h.window, h.buffer⟩
  · split
    · exact effect_kept hf s
    · exact .refl s

theorem step_kept {s t : State} (h : step s = .next t) : Kept s t := by
  obtain ⟨-, rfl⟩ | ⟨c, rest, -, hx⟩ := step_cases h
  · exact .quiet (idleTick_touches s) rfl
  · exact (Kept.quiet (withPending_touches s rest) rfl).andThen (exec_kept hx)

/-- Settles O58: every command keeps the bounds of the queues and the position map, block by block. -/
theorem stepsKeepTheQueuesAndTheMap : Obligations.StepsKeepTheQueuesAndTheMap :=
  ⟨fun _ _ hs h => (step_kept h).queues hs, fun _ _ hs h => (step_kept h).positions hs⟩

end Sys2Proof.Machine
end

section
/-! The tyre receiver: a bit taken in HUNT (R101, R109), the 80th bit of an assembly (R103, R105 to R107), and the carrier line
(R102). -/

namespace Sys2Proof.Machine

open Sys2Proof

/-! ### Bits -/

theorem takeBit_without_carrier {s : State} (h : s.rx.carrier = false) (bit : Bool) : takeBit bit s = s := by
  simp only [takeBit, State.onRx, h, Bool.false_eq_true, if_false]

theorem takeBit_hunt {s : State} (hcarrier : s.rx.carrier = true) (hstate : s.rx.state = .hunt) (bit : Bool) :
    takeBit bit s = { s with rx := huntBit (t4Sync s.tables.t4) bit s.rx } := by
  simp only [takeBit, State.onRx, hcarrier, if_true, hstate]

theorem takeBit_assemble {s : State} (hcarrier : s.rx.carrier = true) (hstate : s.rx.state = .assemble) (bit : Bool) :
    takeBit bit s = { s with rx := assembleBit s.timeBase bit s.rx } := by
  simp only [takeBit, State.onRx, hcarrier, if_true, hstate]

/-- The shift window keeps the latest sixteen bits (R101). -/
theorem shiftIn_eq (w : List Bool) (bit : Bool) : shiftIn w bit = (w ++ [bit]).drop ((w ++ [bit]).length - 16) := by
  rw [List.length_append, List.length_singleton]
  unfold shiftIn
  split
  · next hroom => rw [Nat.sub_eq_zero_of_le hroom, List.drop_zero]
  · next hfull =>
    have hn : w.length + 1 - 16 = w.length - 15 := by omega
    rw [hn, List.drop_append_of_le_length (Nat.sub_le _ _)]

theorem syncMatches_iff (sync : Nat) (w : List Bool) : syncMatches sync w = true ↔ w.length = 16 ∧ bitsNat w = sync := by
  rw [syncMatches, Bool.and_eq_true, decide_eq_true_iff, beq_iff_eq]

/-- Settles O24: the three rows are one operation, and a window of at most sixteen bits either is the sync word or is kept. -/
theorem bitsAreHuntedForTheSyncWord : Obligations.BitsAreHuntedForTheSyncWord := by
  intro s bit c hpowered hc
  have heffect : effectOf c = some (takeBit bit) := by
    rcases hc with rfl | rfl | rfl
    · rfl
    · rfl
    · rfl
  have hlast : exec (.telegramComplete bit) s = .next (takeBit bit s) := exec_powered rfl hpowered
  rw [hlast, exec_powered heffect hpowered]
  refine ⟨fun hcarrier => ?_, fun hcarrier hstate => ?_, rfl⟩
  · rw [takeBit_without_carrier hcarrier]
  · rw [takeBit_hunt hcarrier hstate, huntBit, shiftIn_eq]
    refine ⟨fun hmatch => ?_, fun hother => ?_⟩
    · rw [if_pos ((syncMatches_iff _ _).mpr hmatch)]
      rfl
    · have hno : ¬syncMatches (t4Sync s.tables.t4) ((s.rx.window ++ [bit]).drop ((s.rx.window ++ [bit]).length - 16)) = true := by
        rw [syncMatches_iff]
        rintro ⟨hlength, hword⟩
        exact hother.elim hlength.not_lt (absurd hword)
      rw [if_neg hno]

/-! ### The judgement of a telegram -/

theorem telegramCrcOk_iff (bytes : List Byte) : telegramCrcOk bytes = true ↔ bytes.getD 9 0 = crc8 (bytes.take 9) := beq_iff_eq

theorem telegramInRange_iff (bytes : List Byte) : telegramInRange bytes = true ↔
    ¬(telegramId bytes = 0 ∨ telegramId bytes = 0xFFFFFFFF ∨ 1600 < dataWord bytes 4) := by
  simp only [telegramInRange, Bool.and_eq_true, bne_iff_ne, decide_eq_true_iff, not_or, not_lt, and_assoc, ne_eq]

theorem judgeTelegram_wrongCheck {bytes : List Byte} (h : bytes.getD 9 0 ≠ crc8 (bytes.take 9)) (now : Stamp) (r : Receiver) :
    judgeTelegram bytes now r = { r with crcErrors := satInc r.crcErrors } := by
  have hbad : telegramCrcOk bytes = false := Bool.eq_false_iff.mpr (mt (telegramCrcOk_iff bytes).mp h)
  rw [judgeTelegram, hbad]
  rfl

theorem judgeTelegram_outOfRange {bytes : List Byte} (hcheck : ¬bytes.getD 9 0 ≠ crc8 (bytes.take 9))
    (h : telegramId bytes = 0 ∨ telegramId bytes = 0xFFFFFFFF ∨ 1600 < dataWord bytes 4) (now : Stamp) (r : Receiver) :
    judgeTelegram bytes now r = { r with rangeErrors := satInc r.rangeErrors } := by
  have hok : telegramCrcOk bytes = true := (telegramCrcOk_iff bytes).mpr (not_not.mp hcheck)
  have hout : telegramInRange bytes = false := Bool.eq_false_iff.mpr fun hin => (telegramInRange_iff bytes).mp hin h
  rw [judgeTelegram, hok, hout]
  rfl

theorem judgeTelegram_good {bytes : List Byte} (hcheck : ¬bytes.getD 9 0 ≠ crc8 (bytes.take 9))
    (h : ¬(telegramId bytes = 0 ∨ telegramId bytes = 0xFFFFFFFF ∨ 1600 < dataWord bytes 4)) (now : Stamp) (r : Receiver) :
    judgeTelegram bytes now r = goodTelegram bytes now r := by
  have hok : telegramCrcOk bytes = true := (telegramCrcOk_iff bytes).mpr (not_not.mp hcheck)
  have hin : telegramInRange bytes = true := (telegramInRange_iff bytes).mpr h
  rw [judgeTelegram, hok, hin]
  rfl

theorem assembleBit_short {r : Receiver} {bit : Bool} (h : (r.buffer ++ [bit]).length < 80) (now : Stamp) :
    assembleBit now bit r = { r with buffer := r.buffer ++ [bit] } := if_pos h

theorem assembleBit_full {r : Receiver} {bit : Bool} (h : 80 ≤ (r.buffer ++ [bit]).length) (now : Stamp) :
    assembleBit now bit r = huntAgain (judgeTelegram (bytesOfBits 10 (r.buffer ++ [bit])) now r) := if_neg (not_lt_of_ge h)

/-- Settles O25: the 80th bit hands the telegram to its judgement, whose three outcomes are taken in turn. -/
theorem telegramsAreJudgedInOrder : Obligations.TelegramsAreJudgedInOrder := by
  intro s bit hpowered hcarrier hstate
  have hexec : exec (.telegramComplete bit) s = .next { s with rx := assembleBit s.timeBase bit s.rx } := by
    rw [exec_powered (f := takeBit bit) rfl hpowered, takeBit_assemble hcarrier hstate]
  rw [hexec]
  refine ⟨fun hshort => ?_, fun hfull hbad => ?_, fun hfull hcheck hout => ?_, fun hfull hcheck hin hroom => ?_,
    fun hfull hcheck hin hqueue => ?_⟩
  · rw [assembleBit_short hshort]
  · rw [assembleBit_full hfull, judgeTelegram_wrongCheck hbad]
    rfl
  · rw [assembleBit_full hfull, judgeTelegram_outOfRange hcheck hout]
    rfl
  · rw [assembleBit_full hfull, judgeTelegram_good hcheck hin, goodTelegram, if_pos hroom]
    rfl
  · rw [assembleBit_full hfull, judgeTelegram_good hcheck hin, goodTelegram, if_neg (not_lt_of_ge hqueue)]
    rfl

/-! ### The carrier line -/

theorem exec_carrierChange {s : State} (hpowered : s.powered = true) (level : Bool) :
    exec (.carrierChange level) s = .next (carrierChange level s) := if_pos hpowered

/-- A power-on reset takes the carrier line as it stands (R102). -/
theorem powerOn_rx (s : State) : (powerOn s).rx = receiverReset s.rx.carrier := by
  have hload : (powerOn s).rx = (poweredState (nvAfterLoss s) (protectionAfterLoss s) s).rx :=
    raiseLoad_touches _ _ .rx (by decide)
  exact hload

/-- So does a functional reset (R102). -/
theorem functionalReset_rx (s : State) : (functionalReset s).rx = receiverReset s.rx.carrier := by
  obtain ⟨u, hbefore, hafter⟩ := functionalReset_around s
  have hu : u.rx = s.rx := hbefore .rx (by decide)
  have ht : (functionalReset s).rx = receiverReset u.rx.carrier := hafter .rx (by decide)
  rw [ht, hu]

/-- After a reset of either kind the receiver is at its after-reset values, the carrier line as it stands (R102). -/
theorem reset_takes_carrier {s t : State} (h : exec .powerOnReset s = .next t ∨
      (s.powered = true ∧ s.resetLine = false ∧ exec .resetLineAsserted s = .next t) ∨
      ∃ q tag, TakesRequest s q 1 tag ∧ s.store.state = .idle ∧ exec (.restart q) s = .next t) :
    t.rx = receiverReset s.rx.carrier := by
  rcases h with hon | ⟨hpowered, hline, hassert⟩ | ⟨q, tag, htakes, hidle, hrestart⟩
  · exact Host.Outcome.next.inj hon ▸ powerOn_rx s
  · rw [assertion_resets hpowered hline hassert]
    exact functionalReset_rx _
  · have hanswer : (answer 18 tag .done (requestTaken s)).rx = s.rx := answer_touches _ _ _ _ .rx (by decide)
    rw [restart_resets htakes hidle hrestart, functionalReset_rx, hanswer]

/-- Settles O27: by the level and the state for CARRIER_CHANGE, and by the after-reset receiver for the three resets. -/
theorem carrierChangesEmptyTheWindow : Obligations.CarrierChangesEmptyTheWindow := by
  refine ⟨fun s level hpowered => ⟨fun hsame => ?_, fun hother hstate => ?_, fun hcarrier hstate => ?_⟩, fun s t h => ?_⟩
  · rw [exec_carrierChange hpowered, carrierChange, State.onRx, if_pos hsame]
  · simp only [exec_carrierChange hpowered, carrierChange, State.onRx, if_neg hother, hstate]
  · have hfall : ¬s.rx.carrier = false := by rw [hcarrier]; exact Bool.true_eq_false_eq_False
    rw [exec_carrierChange hpowered, carrierChange, State.onRx, if_neg hfall, hstate]
    rfl
  · rw [reset_takes_carrier h]
    exact ⟨rfl, rfl, rfl⟩

end Sys2Proof.Machine
end

section
/-! The check byte of a telegram (R104): bits and bytes, the register as a linear map, and the errors within eight bits. -/

namespace Sys2Proof.Machine

open Sys2Proof

/-! ### Bits and bytes -/

theorem byteBits_byteOf {l : List Bool} (h : l.length = 8) : byteBits (byteOf (bitsNat l)) = l := by
  have eight : ∀ a b c d e f g h, byteBits (byteOf (bitsNat [a, b, c, d, e, f, g, h])) = [a, b, c, d, e, f, g, h] := by
    decide +kernel
  match l, h with
  | [a, b, c, d, e, f, g, k], _ => exact eight a b c d e f g k

theorem byteOf_byteBits : ∀ b : Byte, byteOf (bitsNat (byteBits b)) = b := by decide +kernel

theorem byteBits_inj {a b : Byte} : byteBits a = byteBits b ↔ a = b :=
  ⟨fun h => by rw [← byteOf_byteBits a, h, byteOf_byteBits], congrArg byteBits⟩

theorem getElem?_byteBits (b : Byte) {k : Nat} (hk : k < 8) : (byteBits b)[k]? = some (b.getLsbD (7 - k)) := by
  interval_cases k
  all_goals rfl

theorem bytesOfBits_flatMap {n : Nat} {bits : List Bool} (h : 8 * n ≤ bits.length) :
    (bytesOfBits n bits).flatMap byteBits = bits.take (8 * n) := by
  induction n generalizing bits with
  | zero => rfl
  | succ n ih =>
    have hfirst : (bits.take 8).length = 8 := by rw [List.length_take]; omega
    have hrest : 8 * n ≤ (bits.drop 8).length := by rw [List.length_drop]; omega
    have hsplit : 8 * (n + 1) = 8 + 8 * n := by omega
    rw [bytesOfBits, List.flatMap_cons, byteBits_byteOf hfirst, ih hrest, hsplit, List.take_add]

theorem bytesOfBits_take (n m : Nat) (bits : List Bool) : (bytesOfBits (n + m) bits).take n = bytesOfBits n bits := by
  induction n generalizing bits with
  | zero => rfl
  | succ n ih => rw [Nat.succ_add, bytesOfBits, bytesOfBits, List.take_succ_cons, ih]

theorem bytesOfBits_getD {n k : Nat} (h : k < n) (bits : List Bool) :
    (bytesOfBits n bits).getD k 0 = byteOf (bitsNat ((bits.drop (8 * k)).take 8)) := by
  induction n generalizing k bits with
  | zero => exact absurd h (Nat.not_lt_zero k)
  | succ n ih =>
    cases k with
    | zero => rfl
    | succ k =>
      have hdrop : (bits.drop 8).drop (8 * k) = bits.drop (8 * (k + 1)) := by
        rw [List.drop_drop, Nat.mul_succ, Nat.add_comm 8]
      rw [bytesOfBits, List.getD_cons_succ, ih (Nat.lt_of_succ_lt_succ h), hdrop]

/-! ### The register -/

/-- The register after the first 72 bits of a telegram. -/
def checkRegister (bits : List Bool) : Byte := (bits.take 72).foldl crcBit 0xFF

/-- A telegram passes when its last eight bits are those of the register (R104). -/
theorem telegramCrcOk_bits {bits : List Bool} (h : bits.length = 80) :
    telegramCrcOk (bytesOfBits 10 bits) = true ↔ bits.drop 72 = byteBits (checkRegister bits) := by
  have hlast : (bits.drop 72).take 8 = bits.drop 72 := List.take_of_length_le (by rw [List.length_drop]; omega)
  have hbody : crc8 ((bytesOfBits 10 bits).take 9) = checkRegister bits := by
    rw [crc8, bytesOfBits_take 9 1, bytesOfBits_flatMap (by omega)]
    rfl
  rw [telegramCrcOk, beq_iff_eq, hbody, bytesOfBits_getD (by decide), hlast, ← byteBits_inj,
    byteBits_byteOf (by rw [List.length_drop]; omega)]

/-- The step of the register as R104 words it. -/
theorem crcBit_eq (r : Byte) (b : Bool) : crcBit r b = if b ≠ r.getLsbD 7 then (r <<< 1) ^^^ 0x2F else r <<< 1 := by
  have htop : r.msb = r.getLsbD 7 := BitVec.msb_eq_getLsbD_last r
  rw [crcBit, htop]
  by_cases h : b = r.getLsbD 7
  · rw [if_pos (beq_iff_eq.mpr h.symm), if_neg (not_not_intro h)]
  · rw [if_neg (mt beq_iff_eq.mp (Ne.symm h)), if_pos h]

theorem crcBit_top (r : Byte) : crcBit r (r.getLsbD 7) = r <<< 1 := by
  rw [crcBit_eq, if_neg (not_not_intro rfl)]

/-- The first `k` bits of the register itself shift it left. -/
theorem foldl_crcBit_top (r : Byte) {k : Nat} (hk : k ≤ 8) : ((byteBits r).take k).foldl crcBit r = r <<< k := by
  induction k with
  | zero => exact (BitVec.shiftLeft_zero r).symm
  | succ k ih =>
    have htop : r.getLsbD (7 - k) = (r <<< k).getLsbD 7 := by
      rw [BitVec.getLsbD_shiftLeft, decide_eq_true (by decide), decide_eq_false (by omega)]
      rfl
    rw [List.take_add_one, getElem?_byteBits r hk, List.foldl_append, ih (Nat.le_of_succ_le hk), htop]
    exact (crcBit_top _).trans (BitVec.shiftLeft_add r k 1).symm

/-- A telegram that passes leaves the register at zero after all its 80 bits. -/
theorem foldl_of_passes {bits : List Bool} (h : bits.length = 80) (hpass : telegramCrcOk (bytesOfBits 10 bits) = true) :
    bits.foldl crcBit 0xFF = 0 := by
  rw [telegramCrcOk_bits h] at hpass
  rw [← List.take_append_drop 72 bits, List.foldl_append, hpass]
  exact (foldl_crcBit_top _ le_rfl).trans (BitVec.shiftLeft_eq_zero le_rfl)

/-- What a step combines the shifted register with. -/
def crcTaps (differs : Bool) : Byte := if differs then 0x2F else 0

theorem crcTaps_xor : ∀ p q, crcTaps (p ^^ q) = crcTaps p ^^^ crcTaps q := by decide

theorem crcBit_taps (r : Byte) (b : Bool) : crcBit r b = (r <<< 1) ^^^ crcTaps (r.msb ^^ b) := by
  rw [crcBit, crcTaps]
  by_cases h : r.msb = b
  · rw [if_pos (beq_iff_eq.mpr h), h, Bool.xor_self]
    exact BitVec.xor_zero.symm
  · rw [if_neg (mt beq_iff_eq.mp h), if_pos (bne_iff_ne.mpr h)]

theorem crcBit_xor (r s : Byte) (b c : Bool) : crcBit (r ^^^ s) (b ^^ c) = crcBit r b ^^^ crcBit s c := by
  have hbits : ((r.msb ^^ s.msb) ^^ (b ^^ c)) = ((r.msb ^^ b) ^^ (s.msb ^^ c)) := by
    rw [Bool.xor_assoc, Bool.xor_assoc, Bool.xor_left_comm s.msb]
  rw [crcBit_taps, crcBit_taps, crcBit_taps, BitVec.msb_xor, BitVec.shiftLeft_xor_distrib, hbits, crcTaps_xor]
  ac_rfl

/-- The register is linear: the difference of two streams runs from the difference of the registers. -/
theorem foldl_crcBit_xor {xs ys : List Bool} (h : xs.length = ys.length) (r s : Byte) :
    (List.zipWith xor xs ys).foldl crcBit (r ^^^ s) = xs.foldl crcBit r ^^^ ys.foldl crcBit s := by
  induction xs generalizing ys r s with
  | nil =>
    obtain rfl := List.eq_nil_of_length_eq_zero h.symm
    rfl
  | cons x xs ih =>
    cases ys with
    | nil => exact nomatch h
    | cons y ys =>
      rw [List.zipWith_cons_cons, List.foldl_cons, List.foldl_cons, List.foldl_cons, crcBit_xor]
      exact ih (Nat.succ.inj h) _ _

/-! ### Errors within eight bits -/

theorem crcBit_false_eq_zero : ∀ r : Byte, crcBit r false = 0 → r = 0 := by decide +kernel

/-- With `n` more bits that may be set, the register comes to zero only when its low `8 - n` bits are clear: a step that
combines 0x2F sets the lowest bit, and too few shifts are left to move it out. -/
theorem shifted_out {e : List Bool} {n : Nat} {r : Byte} (hn : n ≤ 7) (hlast : ∀ i, e[i]? = some true → i < n)
    (h : e.foldl crcBit r = 0) : r <<< n = 0 := by
  induction e generalizing n r with
  | nil =>
    rw [show r = 0 from h]
    exact BitVec.zero_shiftLeft n
  | cons b e ih =>
    cases n with
    | zero =>
      have hb : b = false := Bool.eq_false_iff.mpr fun hb => Nat.not_lt_zero 0 (hlast 0 (congrArg some hb))
      have hrest := ih (Nat.zero_le 7) (fun i hi => absurd (hlast (i + 1) hi) (Nat.not_lt_zero _)) h
      rw [BitVec.shiftLeft_zero, hb] at hrest
      rw [BitVec.shiftLeft_zero, crcBit_false_eq_zero r hrest]
    | succ n =>
      have hrest := ih (by omega) (fun i hi => Nat.lt_of_succ_lt_succ (hlast (i + 1) hi)) h
      rw [crcBit] at hrest
      split at hrest
      · rwa [← BitVec.shiftLeft_add, Nat.add_comm] at hrest
      · have hset : (((r <<< 1) ^^^ 0x2F) <<< n).getLsbD n = true := by
          rw [BitVec.getLsbD_shiftLeft, Nat.sub_self, BitVec.getLsbD_xor, BitVec.getLsbD_shiftLeft]
          simp [show n < 8 by omega]
        rw [hrest, BitVec.ofNat_eq_ofNat, BitVec.getLsbD_zero] at hset
        exact nomatch hset

/-- A stream from a register of zero, its set bits within eight consecutive places, comes back to zero only without any. -/
theorem no_burst {e : List Bool} {j : Nat} (hburst : ∀ i, e[i]? = some true → j ≤ i ∧ i < j + 8)
    (h : e.foldl crcBit 0 = 0) (i : Nat) : e[i]? ≠ some true := by
  induction e generalizing i j with
  | nil => exact nofun
  | cons b e ih =>
    cases b with
    | false =>
      have hrest := ih (j := j - 1) (fun k hk => by have hplace := hburst (k + 1) hk; omega) h
      cases i with
      | zero => exact nofun
      | succ i => exact hrest i
    | true =>
      have hseven : ∀ k, e[k]? = some true → k < 7 := fun k hk => by
        have hfirst := hburst 0 rfl
        have hplace := hburst (k + 1) hk
        omega
      have hzero : (0x2F : Byte) <<< 7 = 0 := shifted_out le_rfl hseven h
      exact absurd hzero (by decide)

/-- Two streams of one length that leave the register alike differ outside every eight consecutive places. -/
theorem eq_of_same_register {xs ys : List Bool} {j : Nat} (hlength : xs.length = ys.length)
    (hburst : ∀ i, i < j ∨ j + 8 ≤ i → xs[i]? = ys[i]?) (h : xs.foldl crcBit 0xFF = ys.foldl crcBit 0xFF) : xs = ys := by
  have hzero : (List.zipWith xor xs ys).foldl crcBit 0 = 0 := by
    have hlinear := foldl_crcBit_xor hlength 0xFF 0xFF
    rwa [h, BitVec.xor_self, BitVec.xor_self] at hlinear
  have differ : ∀ i, (List.zipWith xor xs ys)[i]? = some true ↔ xs[i]? ≠ ys[i]? := fun i => by
    rw [List.getElem?_zipWith]
    by_cases hi : i < xs.length
    · rw [List.getElem?_eq_getElem hi, List.getElem?_eq_getElem (hlength ▸ hi)]
      simp
    · rw [List.getElem?_eq_none (not_lt.mp hi), List.getElem?_eq_none (hlength ▸ not_lt.mp hi)]
      simp
  refine List.ext_getElem? fun i => not_not.mp fun hi => ?_
  refine no_burst (j := j) (fun k hk => ?_) hzero i ((differ i).mpr hi)
  have hinside := mt (hburst k) ((differ k).mp hk)
  omega

/-- Settles O26: a telegram that passes leaves the register at zero, and by linearity two that pass cannot differ by a burst of
eight bits or fewer. -/
theorem checkByteFindsErrorsWithinEightBits : Obligations.CheckByteFindsErrorsWithinEightBits := by
  intro bits hlength
  have hshift : (fun (r : BitVec 8) (b : Bool) => if b ≠ r.getLsbD 7 then (r <<< 1) ^^^ 0x2F else r <<< 1) = crcBit :=
    funext fun r => funext fun b => (crcBit_eq r b).symm
  dsimp only
  rw [hshift]
  refine ⟨(telegramCrcOk_bits hlength).trans ⟨fun h k hk => ?_, fun h => List.ext_getElem? fun k => ?_⟩,
    fun bits' j hlength' hne hburst hpass => ?_⟩
  · rw [← List.getElem?_drop, h]
    exact getElem?_byteBits _ hk
  · rw [List.getElem?_drop]
    by_cases hk : k < 8
    · rw [h k hk]
      exact (getElem?_byteBits _ hk).symm
    · rw [List.getElem?_eq_none (by omega)]
      exact (List.getElem?_eq_none (not_lt.mp hk)).symm
  · refine Bool.eq_false_iff.mpr fun hpass' => hne ?_
    exact eq_of_same_register (hlength'.trans hlength.symm) hburst
      ((foldl_of_passes hlength' hpass').trans (foldl_of_passes hlength hpass).symm)

end Sys2Proof.Machine
end

section
/-! The learning session: LEARN_POSITION, CANCEL_LEARN and the session's timer (R127). -/

namespace Sys2Proof.Machine

open Sys2Proof

/-! ### LEARN_POSITION -/

section Session

variable {s : State} {q : ReqFrame} {tag : Byte}

theorem exec_learnPosition (h : TakesRequest s q 4 tag) : exec (.learnPosition q) s =
    .next (learnPosition tag (dataByte q.data 1) (dataWord q.data 2) (requestTaken s)) := by
  obtain ⟨hpowered, -⟩ := id h
  rw [exec_powered rfl hpowered, request_reaches h (code := codeLearnPosition) (by decide) (by decide)]
  rfl

theorem learnPosition_outside {n sec : Nat} (h : 15 < n ∨ sec < 10 ∨ 600 < sec) (s : State) :
    learnPosition tag n sec s = answer 14 tag (.refused .range) s := by
  unfold learnPosition
  split
  · exact if_pos (by omega)
  · rfl

section InRange

variable {sec : Nat} (hlow : 10 ≤ sec) (hhigh : sec ≤ 600)

include hlow hhigh

/-- LEARN_POSITION in range: the conditions of R127 in their order. -/
theorem learnPosition_number (s : State) (p : Position) : learnPosition tag p.val sec s =
    if s.tyres.session.isSome then answer 14 tag (.refused .busy) s
    else if (tyre s p).state = .disabled then answer 14 tag (.refused .state) s
    else answer 14 tag .accepted (s.onTyres fun t =>
      { t with session := some { position := p, start := s.timeBase, bound := 1000 * sec, tag := tag } }) := by
  unfold learnPosition
  rw [dif_pos p.isLt, if_neg (by omega)]
  rfl

variable {p : Position}

theorem learnPosition_of_open (h : s.tyres.session.isSome = true) :
    learnPosition tag p.val sec s = answer 14 tag (.refused .busy) s := by
  rw [learnPosition_number hlow hhigh, if_pos h]

variable (h : s.tyres.session = none)

include h

theorem learnPosition_of_disabled (hstate : (tyre s p).state = .disabled) :
    learnPosition tag p.val sec s = answer 14 tag (.refused .state) s := by
  rw [learnPosition_number hlow hhigh, if_neg (by simp [h]), if_pos hstate]

theorem learnPosition_of_free (hstate : (tyre s p).state ≠ .disabled) :
    learnPosition tag p.val sec s = answer 14 tag .accepted (s.onTyres fun t =>
      { t with session := some { position := p, start := s.timeBase, bound := 1000 * sec, tag := tag } }) := by
  rw [learnPosition_number hlow hhigh, if_neg (by simp [h]), if_neg hstate]

end InRange

/-! ### The end of a session -/

theorem endSession_of_open {l : Session} (h : s.tyres.session = some l) (result : Completion) : endSession result s =
    answer 14 l.tag (.completed result) (s.onTyres fun t => { t with session := none }) := by
  rw [endSession, h]
  rfl

theorem exec_cancelLearn (h : TakesRequest s q 1 tag) :
    exec (.cancelLearn q) s = .next (cancelLearn tag (requestTaken s)) := by
  obtain ⟨hpowered, -⟩ := id h
  rw [exec_powered rfl hpowered, request_reaches h (code := codeCancelLearn) (by decide) (by decide)]
  rfl

theorem cancelLearn_of_none (h : s.tyres.session = none) : cancelLearn tag s = answer 15 tag (.refused .state) s :=
  if_neg (by simp [h])

/-- The cancelled session is answered after the request that cancels it. -/
theorem cancelLearn_of_open {l : Session} (h : s.tyres.session = some l) : cancelLearn tag s =
    answer 14 l.tag (.completed .cancelled)
      ((answer 15 tag .done s).onTyres fun t => { t with session := none }) := by
  have hopen : cancelLearn tag s = endSession .cancelled (answer 15 tag .done s) := if_pos (by simp [h])
  exact hopen.trans (endSession_of_open (s := answer 15 tag .done s) h _)

theorem learnTimerExpiry_of_open {l : Session} (h : s.tyres.session = some l) : learnTimerExpiry s =
    if l.bound ≤ (s.timeBase - l.start).toNat then
      answer 14 l.tag (.completed .timeout) (s.onTyres fun t => { t with session := none })
    else s := by
  have hdue : sessionExpired s = true ↔ l.bound ≤ (s.timeBase - l.start).toNat := by
    rw [sessionExpired_iff, h]
    simp
  simp only [learnTimerExpiry, hdue, endSession_of_open h]

end Session

theorem requestTaken_touches (s : State) : ChangesOnly [.relay, .mgmt] s (requestTaken s) :=
  ((onRelay_touches s fun r => { r with frontArrivals := satInc r.frontArrivals }).within (by decide)).andThen
    ((onMgmt_touches _ fun m => { m with taken := satInc m.taken }).within (by decide))

/-- Two answers placed with room for both. -/
theorem placed_twice {m : Mgmt} (h : m.queue.length < 3) (e f : List CanFrame) :
    (placed f (placed e m)).queue = m.queue ++ [e, f] := by
  have hfirst : placed e m = { m with queue := m.queue ++ [e] } := if_pos (by omega)
  have hsecond : placed f { m with queue := m.queue ++ [e] } = { m with queue := m.queue ++ [e] ++ [f] } :=
    if_pos (by rw [List.length_append, List.length_singleton]; omega)
  rw [hfirst, hsecond, List.append_assoc]
  rfl

/-- Settles O32: each request reaches its judgement by R127, whose conditions the counts of the request do not touch, and the
expiry is judged by the session's own bound. -/
theorem learnSessionsOpenAndEnd : Obligations.LearnSessionsOpenAndEnd := by
  refine ⟨fun s q tag h => ?_, fun s q tag h => ?_, fun s l hpowered hopen => ?_⟩
  · dsimp only
    rw [exec_learnPosition h]
    refine ⟨fun hout => congrArg _ (learnPosition_outside hout _), fun p hn hlow hhigh => ?_⟩
    rw [hn]
    exact ⟨fun hbusy => congrArg _ (learnPosition_of_open hlow hhigh hbusy),
      fun hfree hoff => congrArg _ (learnPosition_of_disabled (s := requestTaken s) hlow hhigh hfree hoff),
      fun hfree hon => congrArg _ (learnPosition_of_free (s := requestTaken s) hlow hhigh hfree hon)⟩
  · rw [exec_cancelLearn h]
    refine ⟨fun hnone => congrArg _ (cancelLearn_of_none (s := requestTaken s) hnone), fun l hopen => ?_⟩
    have heq := cancelLearn_of_open (s := requestTaken s) (tag := tag) hopen
    refine ⟨_, rfl, by rw [heq]; rfl, fun hroom => ?_, ?_⟩
    · rw [heq]
      exact placed_twice (m := (requestTaken s).mgmt) hroom _ _
    · exact ((requestTaken_touches s).within (by decide)).andThen ((cancelLearn_touches _ tag).within (by decide))
  · rw [exec_powered rfl hpowered, learnTimerExpiry_of_open hopen]
    exact ⟨fun hearly => by rw [if_neg (Nat.not_le.mpr hearly)], fun hdue => by rw [if_pos hdue]; rfl⟩

end Sys2Proof.Machine
end

section
/-! The first of the numbered things that meets a condition, and the taking of a telegram entry up to the judgement of R114. -/

namespace Sys2Proof.Machine

open Sys2Proof

/-! ### The least number that meets a condition -/

/-- A search in ascending order finds the least number that meets its condition. -/
theorem find?_least {n : Nat} {l : List (Fin n)} (hsorted : l.Pairwise (· < ·)) (hall : ∀ k, k ∈ l) {f : Fin n → Bool}
    {k : Fin n} : l.find? f = some k ↔ f k = true ∧ ∀ j, j < k → f j = false := by
  rw [List.find?_eq_some_iff_append]
  constructor
  · rintro ⟨hk, as, bs, rfl, hbefore⟩
    obtain ⟨-, hrest, -⟩ := List.pairwise_append.mp hsorted
    refine ⟨hk, fun j hj => ?_⟩
    rcases List.mem_append.mp (hall j) with hjas | hjk
    · exact (Bool.not_eq_true' _).mp (hbefore j hjas)
    · rcases List.mem_cons.mp hjk with rfl | hjbs
      · exact absurd hj (lt_irrefl j)
      · exact absurd (List.rel_of_pairwise_cons hrest hjbs) hj.asymm
  · rintro ⟨hk, hleast⟩
    obtain ⟨as, bs, rfl⟩ := List.append_of_mem (hall k)
    obtain ⟨-, -, hacross⟩ := List.pairwise_append.mp hsorted
    exact ⟨hk, as, bs, rfl, fun j hj => (Bool.not_eq_true' _).mpr (hleast j (hacross j hj k List.mem_cons_self))⟩

theorem mem_unknownSlots (k : Fin 4) : k ∈ unknownSlots := by
  fin_cases k <;> simp [unknownSlots]

theorem unknownSlots_sorted : unknownSlots.Pairwise (· < ·) := by decide

/-! ### Taking an entry (R114) -/

/-- The state once the oldest entry has left the queue and its overrun-before mark is counted (step 1 of R114, R115). -/
def withoutEntry (e : Telegram) (rest : List Telegram) (s : State) : State :=
  { s with
    rx := { s.rx with queue := rest }
    tyres := { s.tyres with marks := if e.overrunBefore then satInc s.tyres.marks else s.tyres.marks } }

theorem withoutEntry_touches (e : Telegram) (rest : List Telegram) (s : State) :
    ChangesOnly [.rx, .tyres] s (withoutEntry e rest s) := by
  intro p hp
  cases p <;> first | rfl | simp at hp

/-- The misses count raised (step 5 of R114). -/
def countMiss (s : State) : State := s.onTyres fun t => { t with misses := satInc t.misses }

/-- No session binds an entry: it is not learn-flagged, or its ID already stands in the session's slot (step 2 of R114). -/
abbrev notBound (s : State) (e : Telegram) : Prop :=
  ∀ l ∈ s.tyres.session, e.learn = true → gridGet s.tyres.map l.position = some e.id

section Entry

variable {s : State} {e : Telegram} {rest : List Telegram}

theorem telegramEntryTaken_of_nil (h : s.rx.queue = []) : telegramEntryTaken s = s := by
  rw [telegramEntryTaken, h]

theorem telegramEntryTaken_of_cons (h : s.rx.queue = e :: rest) :
    telegramEntryTaken s = judgeEntry e (withoutEntry e rest s) := by
  have hcounted : (if e.overrunBefore then
      (s.onRx fun r => { r with queue := rest }).onTyres fun t => { t with marks := satInc t.marks }
      else s.onRx fun r => { r with queue := rest }) = withoutEntry e rest s := by
    unfold withoutEntry
    split
    · rfl
    · rfl
  rw [telegramEntryTaken, h, ← hcounted]

theorem judgeEntry_of_notBound (h : notBound s e) : judgeEntry e s = ordinaryEntry e s := by
  unfold judgeEntry
  split
  · next l hl => exact if_neg fun ⟨hlearn, hother⟩ => hother (h l hl hlearn)
  · rfl

theorem judgeEntry_of_learn {l : Session} (hsession : s.tyres.session = some l) (hlearn : e.learn = true)
    (hother : gridGet s.tyres.map l.position ≠ some e.id) : judgeEntry e s = bindSensor e l.position s := by
  rw [judgeEntry, hsession]
  exact if_pos ⟨hlearn, hother⟩

theorem exec_entry (hpowered : s.powered = true) (hqueue : s.rx.queue = e :: rest) :
    exec .telegramEntryTaken s = .next (judgeEntry e (withoutEntry e rest s)) := by
  rw [exec_powered rfl hpowered, telegramEntryTaken_of_cons hqueue]

theorem exec_ordinaryEntry (hpowered : s.powered = true) (hqueue : s.rx.queue = e :: rest) (h : notBound s e) :
    exec .telegramEntryTaken s = .next (ordinaryEntry e (withoutEntry e rest s)) := by
  rw [exec_entry hpowered hqueue, judgeEntry_of_notBound (s := withoutEntry e rest s) h]

/-! ### Hits and misses (steps 3 to 5 of R114) -/

theorem isRepeat_iff (r : TyreRec) : isRepeat e r = true ↔
    r.lastCounter = some e.counter ∧ r.state ≠ .lost ∧ (e.time - r.lastHeard).toNat ≤ 2000 := by
  rw [isRepeat, Bool.and_eq_true, Bool.and_eq_true, beq_iff_eq, bne_iff_ne, decide_eq_true_iff, elapsed, and_assoc]

theorem ordinaryEntry_of_repeat {p : Position} (hp : positionOf s.tyres.map e.id = some p)
    (h : isRepeat e (tyre s p) = true) : ordinaryEntry e s = countRepeat s := by
  rw [ordinaryEntry, hp]
  exact if_pos h

theorem ordinaryEntry_of_reading {p : Position} (hp : positionOf s.tyres.map e.id = some p)
    (h : ¬isRepeat e (tyre s p) = true) : ordinaryEntry e s = countReading (takeReading p e s) := by
  rw [ordinaryEntry, hp]
  exact if_neg h

theorem ordinaryEntry_of_miss (h : positionOf s.tyres.map e.id = none) :
    ordinaryEntry e s = takeMiss e (countMiss s) := by
  rw [ordinaryEntry, h, countMiss]

end Entry

end Sys2Proof.Machine
end

section
/-! The unknown sensor list: where a miss finds or puts its ID, and what it raises (R125, R126). -/

namespace Sys2Proof.Machine

open Sys2Proof

/-! ### The slot of an ID -/

section Slots

variable {u : Quad (Option UnknownEntry)} {id : SensorId}

theorem unknownSlotOf_of_absent (h : ∀ k x, quadGet u k = some x → x.id ≠ id) : unknownSlotOf u id = none := by
  refine List.find?_eq_none.mpr fun k _ hk => ?_
  obtain ⟨x, hx, hid⟩ := (Option.any_eq_true _ _).mp hk
  exact h k x hx (beq_iff_eq.mp hid)

theorem unknownSlotOf_of_first {k : Fin 4} {x : UnknownEntry} (hx : quadGet u k = some x) (hid : x.id = id)
    (hfirst : ∀ j, j < k → ∀ y ∈ quadGet u j, y.id ≠ id) : unknownSlotOf u id = some k := by
  refine (find?_least unknownSlots_sorted mem_unknownSlots).mpr ⟨?_, fun j hj => ?_⟩
  · rw [hx]
    exact beq_iff_eq.mpr hid
  · cases hy : quadGet u j with
    | none => rfl
    | some y => exact beq_eq_false_iff_ne.mpr (hfirst j hj y hy)

/-- The lowest empty slot is empty, and no slot below it is. -/
theorem emptySlot_eq_some_iff {k : Fin 4} :
    emptySlot u = some k ↔ quadGet u k = none ∧ ∀ j, j < k → quadGet u j ≠ none := by
  refine (find?_least unknownSlots_sorted mem_unknownSlots).trans (and_congr Option.isNone_iff_eq_none ?_)
  exact forall₂_congr fun j _ => by rw [Option.isNone_eq_false_iff, Option.isSome_iff_ne_none]

theorem emptySlot_eq_none_iff : emptySlot u = none ↔ ∀ k, quadGet u k ≠ none := by
  unfold emptySlot
  simp [List.find?_eq_none, mem_unknownSlots]

end Slots

/-! ### The slot that gives way in a full list (R126) -/

section GivesWay

variable (now : Stamp) (u : Quad (Option UnknownEntry))

/-- The entry of slot `i` gives way before that of slot `j`: a lower count, or of equal counts the one least recently heard,
or of those the lower slot (R126). -/
def GivesWay (i j : Fin 4) : Prop :=
  ∀ x, quadGet u i = some x → ∀ y, quadGet u j = some y →
    x.count < y.count ∨ (x.count = y.count ∧ (elapsed now y.lastHeard < elapsed now x.lastHeard ∨
      (elapsed now y.lastHeard = elapsed now x.lastHeard ∧ i ≤ j)))

theorem GivesWay.refl (i : Fin 4) : GivesWay now u i i := fun x hx y hy => by
  rw [hx, Option.some.injEq] at hy
  rw [hy]
  exact .inr ⟨rfl, .inr ⟨rfl, le_rfl⟩⟩

variable {now u}

theorem GivesWay.trans {i j k : Fin 4} (h : GivesWay now u i j) (h' : GivesWay now u j k) (hj : quadGet u j ≠ none) :
    GivesWay now u i k := fun x hx z hz => by
  obtain ⟨y, hy⟩ := Option.ne_none_iff_exists'.mp hj
  have hfirst := h x hx y hy
  have hsecond := h' y hy z hz
  omega

/-- The one of two slots whose entry is replaced first. -/
def firstReplaced (now : Stamp) (u : Quad (Option UnknownEntry)) (i j : Fin 4) : Fin 4 :=
  if replacedBefore now (quadGet u i) (quadGet u j) then i else j

theorem replacedSlot_eq : replacedSlot now u =
    firstReplaced now u (firstReplaced now u (firstReplaced now u 0 1) 2) 3 := rfl

/-- Of two slots with an entry each, the one replaced first gives way before both. -/
theorem firstReplaced_givesWay {i j : Fin 4} (hij : i < j) (hi : quadGet u i ≠ none) (hj : quadGet u j ≠ none) :
    GivesWay now u (firstReplaced now u i j) i ∧ GivesWay now u (firstReplaced now u i j) j := by
  obtain ⟨x, hx⟩ := Option.ne_none_iff_exists'.mp hi
  obtain ⟨y, hy⟩ := Option.ne_none_iff_exists'.mp hj
  have hbefore : replacedBefore now (quadGet u i) (quadGet u j) = true ↔ x.count < y.count ∨
      (x.count = y.count ∧ elapsed now y.lastHeard ≤ elapsed now x.lastHeard) := by
    rw [hx, hy]
    simp [replacedBefore]
  unfold firstReplaced
  split
  · next hb =>
    refine ⟨.refl now u i, fun x' hx' y' hy' => ?_⟩
    rw [hx, Option.some.injEq] at hx'
    rw [hy, Option.some.injEq] at hy'
    subst hx' hy'
    have horder := hbefore.mp hb
    omega
  · next hb =>
    refine ⟨fun y' hy' x' hx' => ?_, .refl now u j⟩
    rw [hx, Option.some.injEq] at hx'
    rw [hy, Option.some.injEq] at hy'
    subst hx' hy'
    have horder := mt hbefore.mpr hb
    omega

theorem firstReplaced_cases (i j : Fin 4) : firstReplaced now u i j = i ∨ firstReplaced now u i j = j :=
  ite_eq_or_eq _ _ _

/-- In a full list the entry of the replaced slot gives way before every other. -/
theorem replacedSlot_givesWay (hfull : ∀ k, quadGet u k ≠ none) (j : Fin 4) : GivesWay now u (replacedSlot now u) j := by
  rw [replacedSlot_eq]
  generalize ha : firstReplaced now u 0 1 = a
  have ha2 : a < 2 := by
    rcases firstReplaced_cases (now := now) (u := u) 0 1 with h | h <;> rw [← ha, h] <;> decide
  obtain ⟨h0, h1⟩ := ha ▸ firstReplaced_givesWay (now := now) (by decide : (0 : Fin 4) < 1) (hfull 0) (hfull 1)
  generalize hb : firstReplaced now u a 2 = b
  have hb3 : b < 3 := by
    rcases firstReplaced_cases (now := now) (u := u) a 2 with h | h <;> rw [← hb, h]
    · exact ha2.trans (by decide)
    · decide
  obtain ⟨hba, h2⟩ := hb ▸ firstReplaced_givesWay (now := now) ha2 (hfull a) (hfull 2)
  obtain ⟨hcb, h3⟩ := firstReplaced_givesWay (now := now) hb3 (hfull b) (hfull 3)
  have hca := hcb.trans hba (hfull b)
  fin_cases j
  · exact hca.trans h0 (hfull a)
  · exact hca.trans h1 (hfull a)
  · exact hcb.trans h2 (hfull b)
  · exact h3

end GivesWay

/-! ### A miss -/

section Miss

variable {s : State} {e : Telegram}

/-- The slot that a new ID takes (R126). -/
def slotForNew (s : State) : Fin 4 := (emptySlot s.tyres.unknown).getD (replacedSlot s.timeBase s.tyres.unknown)

theorem slotForNew_of_room (h : ∃ j, quadGet s.tyres.unknown j = none) :
    quadGet s.tyres.unknown (slotForNew s) = none ∧ ∀ j, quadGet s.tyres.unknown j = none → slotForNew s ≤ j := by
  unfold slotForNew
  cases hslot : emptySlot s.tyres.unknown with
  | none => exact absurd h fun ⟨j, hj⟩ => emptySlot_eq_none_iff.mp hslot j hj
  | some k =>
    obtain ⟨hempty, hleast⟩ := emptySlot_eq_some_iff.mp hslot
    exact ⟨hempty, fun j hj => not_lt.mp fun hlt => hleast j hlt hj⟩

theorem slotForNew_givesWay {x : UnknownEntry} (hx : quadGet s.tyres.unknown (slotForNew s) = some x) (j : Fin 4) :
    GivesWay s.timeBase s.tyres.unknown (slotForNew s) j := by
  have hfull : emptySlot s.tyres.unknown = none := emptySlot_eq_none_iff.mpr fun k hk => by
    obtain ⟨hempty, -⟩ := slotForNew_of_room ⟨k, hk⟩
    exact nomatch hempty.symm.trans hx
  have hslot : slotForNew s = replacedSlot s.timeBase s.tyres.unknown := by rw [slotForNew, hfull]; rfl
  rw [hslot]
  exact replacedSlot_givesWay (emptySlot_eq_none_iff.mp hfull) j

theorem takeMiss_of_new (h : ∀ k x, quadGet s.tyres.unknown k = some x → x.id ≠ e.id) :
    takeMiss e s = setUnknown (slotForNew s) (some (newUnknown e)) s := by
  rw [takeMiss, unknownSlotOf_of_absent h]
  rfl

theorem takeMiss_of_known {k : Fin 4} {x : UnknownEntry} (hx : quadGet s.tyres.unknown k = some x) (hid : x.id = e.id)
    (hfirst : ∀ j, j < k → ∀ y ∈ quadGet s.tyres.unknown j, y.id ≠ e.id) : takeMiss e s = knownMiss k x e s := by
  simp only [takeMiss, unknownSlotOf_of_first hx hid hfirst, hx]

variable (k : Fin 4) (x : UnknownEntry)

/-- A miss is a repeat of the entry's latest telegram (R125). -/
abbrev missRepeats (e : Telegram) (x : UnknownEntry) : Prop :=
  x.lastCounter = e.counter ∧ (e.time - x.lastHeard).toNat ≤ 2000

/-- A miss that is no repeat is the one at which UNKNOWN_SENSOR is raised (R125). -/
abbrev missReports (x : UnknownEntry) : Prop := 3 ≤ min (x.count + 1) 255 ∧ x.reported = false

theorem knownMiss_of_repeat (h : missRepeats e x) : knownMiss k x e s = countRepeat s := if_pos h

theorem knownMiss_of_new (h : ¬missRepeats e x) : knownMiss k x e s = { s with
    tyres := { s.tyres with unknown := quadSet s.tyres.unknown k (some { x with
      count := min (x.count + 1) 255, lastHeard := e.time, lastCounter := e.counter
      reported := x.reported || decide (missReports x) }) }
    alerts := if missReports x then raisedAt s e.time .unknownSensor ⟨.block, 7⟩ k.val s.alerts else s.alerts } := by
  unfold knownMiss
  rw [if_neg (c := x.lastCounter = e.counter ∧ elapsed e.time x.lastHeard ≤ 2000) h]
  by_cases hr : missReports x
  · rw [if_pos hr, decide_eq_true hr, Bool.or_true]
    exact if_pos hr
  · rw [if_neg hr, decide_eq_false hr, Bool.or_false]
    exact if_neg hr

end Miss

/-- Settles O28: an entry that no session binds is judged by R114 alone; a miss goes to the slot of its ID, or to the slot
that `slotForNew` gives. -/
theorem repeatsAndMissesAreNotReadings : Obligations.RepeatsAndMissesAreNotReadings := by
  refine ⟨fun s hpowered hqueue => by rw [exec_powered rfl hpowered, telegramEntryTaken_of_nil hqueue],
    fun s e rest hpowered hqueue hfree => ?_⟩
  dsimp only
  rw [exec_ordinaryEntry hpowered hqueue hfree]
  refine ⟨fun p hp hcounter hlost htime => ?_, fun hmiss hnew => ?_, fun k x hmiss hx hid hfirst => ⟨fun hr => ?_, fun hr => ?_⟩⟩
  · rw [ordinaryEntry_of_repeat (s := withoutEntry e rest s) hp ((isRepeat_iff _).mpr ⟨hcounter, hlost, htime⟩)]
    rfl
  · rw [ordinaryEntry_of_miss (s := withoutEntry e rest s) hmiss, takeMiss_of_new (s := countMiss (withoutEntry e rest s)) hnew]
    exact ⟨_, slotForNew s, rfl, rfl,
      (withoutEntry_touches e rest s).andThen (((onTyres_touches _ _).andThen (onTyres_touches _ _)).within (by decide)),
      rfl, slotForNew_of_room, fun x hx j => slotForNew_givesWay hx j x hx⟩
  · rw [ordinaryEntry_of_miss (s := withoutEntry e rest s) hmiss,
      takeMiss_of_known (s := countMiss (withoutEntry e rest s)) hx hid hfirst, knownMiss_of_repeat k x hr]
    rfl
  · rw [ordinaryEntry_of_miss (s := withoutEntry e rest s) hmiss,
      takeMiss_of_known (s := countMiss (withoutEntry e rest s)) hx hid hfirst, knownMiss_of_new k x hr]
    rfl

end Sys2Proof.Machine
end

section
/-! Tyre records and group-side derates: a record after a change, and what the evaluation of the derates says (R111, R122). -/

namespace Sys2Proof.Machine

open Sys2Proof

/-! ### Tyre records after a change of one -/

@[simp] theorem tyre_onTyre_same (p : Position) (f : TyreRec → TyreRec) (s : State) : tyre (s.onTyre p f) p = f (tyre s p) :=
  gridGet_set_same _ _ _

theorem tyre_onTyre_other {p j : Position} (h : j ≠ p) (f : TyreRec → TyreRec) (s : State) :
    tyre (s.onTyre p f) j = tyre s j := gridGet_set_other _ _ h

theorem onTyre_tyres (p : Position) (f : TyreRec → TyreRec) (s : State) :
    (s.onTyre p f).tyres = { s.tyres with records := gridSet s.tyres.records p (f (tyre s p)) } := rfl

/-- A part's sameness, spelled as the equation of its field. -/
theorem ChangesOnly.tyreTable {ps : List Part} {s t : State} (h : ChangesOnly ps s t) (hp : Part.tyres ∉ ps) :
    t.tyres = s.tyres := h .tyres hp

theorem tyre_frame {ps : List Part} {s t : State} (h : ChangesOnly ps s t) (hp : Part.tyres ∉ ps) (p : Position) :
    tyre t p = tyre s p := by
  rw [tyre, h.tyreTable hp, tyre]

theorem raisedAt_congr {s t : State} (h : t.timeBase = s.timeBase) (time : Stamp) (cause : Cause) (subject : Subject)
    (value : Nat) (a : Alerts) : raisedAt t time cause subject value a = raisedAt s time cause subject value a := by
  rw [raisedAt, h, raisedAt]

/-! ### Derates (R122) -/

/-- The four group-side derates as the records of a state have them. -/
def deratesOf (s : State) : Sides Bool :=
  ⟨sideDerated s .a .left, sideDerated s .a .right, sideDerated s .b .left, sideDerated s .b .right⟩

theorem positionSide_eq : ∀ p : Position, positionSide p = if p.val % 4 < 2 then .left else .right := by decide

theorem sideDerated_iff (s : State) (g : Group) (sd : Side) : sideDerated s g sd = true ↔
    ∃ j : Position, t1AxleGroup s.tables.t1 (j.val / 4) = g ∧ (if j.val % 4 < 2 then Side.left else .right) = sd ∧
      ((tyre s j).state = .veryLow ∨ (tyre s j).state = .fastLeak) := by
  simp only [sideDerated, List.any_eq_true, mem_allPositions, true_and, Bool.and_eq_true, Bool.or_eq_true, beq_iff_eq,
    deratingState, positionGroup, positionSide_eq, and_assoc]

theorem sidesGet_deratesOf (s : State) (g : Group) (sd : Side) : sidesGet (deratesOf s) g sd = true ↔
    ∃ j : Position, t1AxleGroup s.tables.t1 (j.val / 4) = g ∧ (if j.val % 4 < 2 then Side.left else .right) = sd ∧
      ((tyre s j).state = .veryLow ∨ (tyre s j).state = .fastLeak) := by
  rw [← sideDerated_iff]
  cases g with
  | a => cases sd <;> rfl
  | b => cases sd <;> rfl

/-- The derates follow the tables in force and the states of the records alone. -/
theorem deratesOf_congr {s t : State} (ht : t.tables = s.tables) (hs : ∀ p, (tyre t p).state = (tyre s p).state) :
    deratesOf t = deratesOf s := by
  simp only [deratesOf, sideDerated, positionGroup, ht, hs]

end Sys2Proof.Machine
end

section
/-! A reading of a position (R116 to R119): the history, the leak rate, the record, and what an entry into a state raises. -/

namespace Sys2Proof.Machine

open Sys2Proof

/-! ### The history and the leak rate (R116, R118) -/

section History

variable {h : List Reading} {r newest : Reading}

theorem addReading_of_recent (hlast : h.getLast? = some newest) (hrecent : (r.time - newest.time).toNat < 10000) :
    addReading r h = h := by
  have hnot : reached r.time newest.time 10000 = false := (reached_false_iff _ _ _).mpr hrecent
  simp only [addReading, hlast, hnot, Bool.false_eq_true, if_false]

theorem addReading_of_due (hlast : h.getLast? = some newest) (hdue : 10000 ≤ (r.time - newest.time).toNat)
    (hlength : h.length ≤ 4) : addReading r h = (if h.length = 4 then h.drop 1 else h) ++ [r] := by
  have hreached : reached r.time newest.time 10000 = true := (reached_iff _ _ _).mpr hdue
  simp only [addReading, hlast, hreached, if_true]
  split
  · next hfull => rw [hfull, List.drop_append_of_le_length (by omega)]
  · next hroom => rw [show h.length + 1 - 4 = 0 by omega, List.drop_zero]

theorem leakRate_eq {oldest : Reading} (hfirst : h.head? = some oldest) (hlast : h.getLast? = some newest) :
    leakRate h = if 2 ≤ h.length ∧ 20000 ≤ (newest.time - oldest.time).toNat
      then (oldest.gauge - newest.gauge) * 60000 / (newest.time - oldest.time).toNat else 0 := by
  match h, hfirst, hlast with
  | [_], _, _ => rfl
  | first :: second :: rest, hfirst, hlast =>
    obtain rfl : first = oldest := Option.some.inj hfirst
    have hnew : (second :: rest).getLastD second = newest := by
      rw [List.getLast?_cons_cons] at hlast
      rw [List.getLastD_eq_getLast?, hlast, Option.getD_some]
    have hlength : 2 ≤ (first :: second :: rest).length := by simp
    simp only [leakRate, hnew, elapsed, hlength, true_and]

end History

/-! ### The record -/

section Record

variable (s : State) (p : Position) (e : Telegram)

/-- The target of a reading of a position, with its levels (R117). -/
def readingTarget : Target := targetOf s.tables.t4 (positionGroup s p) (estimate s (positionGroup s p)).ratio

/-- A record after a reading, its state included (R116, R119, R120). -/
def tyreOnReading : TyreRec :=
  let r := recordReading e (readingTarget s p) (tyre s p)
  if (tyre s p).state = .disabled then r else { r with state := readingState s.tables.t4 e (readingTarget s p) r }

variable {s p}

theorem tyreOnReading_of_disabled (h : (tyre s p).state = .disabled) :
    tyreOnReading s p e = recordReading e (readingTarget s p) (tyre s p) := if_pos h

theorem tyreOnReading_of_enabled (h : (tyre s p).state ≠ .disabled) : tyreOnReading s p e =
    { recordReading e (readingTarget s p) (tyre s p) with
      state := readingState s.tables.t4 e (readingTarget s p) (recordReading e (readingTarget s p) (tyre s p)) } := if_neg h

variable (s p)

/-- Beside its state a record is as the steps 1 to 5 of R116 leave it. -/
theorem tyreOnReading_rest : tyreOnReading s p e =
    { recordReading e (readingTarget s p) (tyre s p) with state := (tyreOnReading s p e).state } := by
  unfold tyreOnReading
  dsimp only
  split <;> rfl

end Record

/-! ### The alert of an entry into a state (R119) -/

/-- The alerts after the entry of a position into the state of its record `r`, at a time (R119, R159). -/
def stateRaised (s : State) (time : Stamp) (p : Position) (r : TyreRec) (a : Alerts) : Alerts :=
  match r.state with
  | .fastLeak => raisedAt s time .tyreFastLeak ⟨.tyre, p.val⟩ r.leak a
  | .veryLow => raisedAt s time .tyreVeryLow ⟨.tyre, p.val⟩ (r.gauge.getD 0) a
  | .hot => raisedAt s time .tyreHot ⟨.tyre, p.val⟩ (r.temperature.getD 0).toNat a
  | .low => raisedAt s time .tyreLow ⟨.tyre, p.val⟩ (r.gauge.getD 0) a
  | .high => a
  | .ok => a
  | .absent => a
  | .disabled => a
  | .noData => a
  | .lost => a

theorem stateRaised_by_state (s : State) (time : Stamp) (p : Position) {r : TyreRec} {gauge : Nat} {temperature : Int}
    (hgauge : r.gauge = some gauge) (htemperature : r.temperature = some temperature) (a : Alerts) :
    let raised := fun cause value => raisedAt s time cause ⟨.tyre, p.val⟩ value a
    (r.state = .fastLeak → stateRaised s time p r a = raised .tyreFastLeak r.leak) ∧
    (r.state = .veryLow → stateRaised s time p r a = raised .tyreVeryLow gauge) ∧
    (r.state = .hot → stateRaised s time p r a = raised .tyreHot temperature.toNat) ∧
    (r.state = .low → stateRaised s time p r a = raised .tyreLow gauge) ∧
    (r.state = .high ∨ r.state = .ok → stateRaised s time p r a = a) := by
  refine ⟨fun h => ?_, fun h => ?_, fun h => ?_, fun h => ?_, fun h => ?_⟩
  · rw [stateRaised, h]
  · rw [stateRaised, h, hgauge, Option.getD_some]
  · rw [stateRaised, h, htemperature, Option.getD_some]
  · rw [stateRaised, h, hgauge, Option.getD_some]
  · rcases h with h | h <;> rw [stateRaised, h]

theorem tyreAlert_alerts (time : Stamp) (p : Position) (st : TyreState) (s : State) :
    (tyreAlert time p st s).alerts = stateRaised s time p { tyre s p with state := st } s.alerts := by
  cases st <;> rfl

/-! ### Taking a reading -/

/-- What a reading of a position makes of a state: the record, the alert of an entry into another state, and the derates after
such an entry (R116 to R119, R122). -/
structure TakesReading (s : State) (p : Position) (e : Telegram) (t : State) : Prop where
  frame : ChangesOnly [.tyres, .alerts] s t
  record : tyre t p = tyreOnReading s p e
  others : ∀ j, j ≠ p → tyre t j = tyre s j
  tyres : t.tyres = { s.tyres with records := t.tyres.records, derates := t.tyres.derates }
  quiet : (tyreOnReading s p e).state = (tyre s p).state → t.alerts = s.alerts ∧ t.tyres.derates = s.tyres.derates
  entered : (tyreOnReading s p e).state ≠ (tyre s p).state →
    t.alerts = stateRaised s e.time p (tyreOnReading s p e) s.alerts ∧ t.tyres.derates = deratesOf t

/-- A reading that leaves the state in force. -/
theorem takesReading_of_same {s : State} {p : Position} {e : Telegram}
    (hsame : (tyreOnReading s p e).state = (tyre s p).state) :
    TakesReading s p e (s.onTyre p (recordReading e (readingTarget s p))) where
  frame := (onTyre_touches s p _).within (by decide)
  record := by
    rw [tyre_onTyre_same, tyreOnReading_rest, hsame]
    rfl
  others _ hj := tyre_onTyre_other hj _ s
  tyres := rfl
  quiet _ := ⟨rfl, rfl⟩
  entered hne := absurd hsame hne

/-- A reading that enters another state. -/
theorem takesReading_of_entry {s u : State} {p : Position} {e : Telegram} (hne : (tyreOnReading s p e).state ≠ (tyre s p).state)
    (hu : u = (s.onTyre p (recordReading e (readingTarget s p))).onTyre p fun r =>
      { r with state := (tyreOnReading s p e).state }) :
    TakesReading s p e (evaluateDerates (tyreAlert e.time p (tyreOnReading s p e).state u)) := by
  have hown : tyre u p = tyreOnReading s p e := by
    rw [hu, tyre_onTyre_same, tyre_onTyre_same]
    exact (tyreOnReading_rest s p e).symm
  have hothers : ∀ j, j ≠ p → tyre u j = tyre s j := fun j hj => by
    rw [hu, tyre_onTyre_other hj, tyre_onTyre_other hj]
  have hbefore : ChangesOnly [.tyres] s u := hu ▸ (onTyre_touches s p _).andThen (onTyre_touches _ p _)
  have htyres : u.tyres = { s.tyres with records := u.tyres.records } := by rw [hu]; rfl
  clear hu
  have hraise := tyreAlert_touches u e.time p (tyreOnReading s p e).state
  have halerts : (tyreAlert e.time p (tyreOnReading s p e).state u).alerts =
      stateRaised s e.time p (tyreOnReading s p e) s.alerts := by
    have hclock : u.timeBase = s.timeBase := hbefore .clock (by decide)
    have hfrom : u.alerts = s.alerts := hbefore .alerts (by decide)
    rw [tyreAlert_alerts, hown, hfrom]
    simp only [stateRaised, raisedAt_congr hclock]
  generalize tyreAlert e.time p (tyreOnReading s p e).state u = v at hraise halerts
  have hsame : ∀ j, tyre v j = tyre u j := tyre_frame hraise (by decide)
  have htable : v.tyres = u.tyres := hraise.tyreTable (by decide)
  exact {
    frame := ((hbefore.within (by decide)).andThen (hraise.within (by decide))).andThen
      ((evaluateDerates_touches v).within (by decide))
    record := (hsame p).trans hown
    others := fun j hj => (hsame j).trans (hothers j hj)
    tyres := by
      have hevaluated : (evaluateDerates v).tyres = { v.tyres with derates := deratesOf v } := rfl
      rw [hevaluated, htable, htyres]
    quiet := fun hst => absurd hst hne
    entered := fun _ => ⟨halerts, deratesOf_congr rfl fun _ => rfl⟩ }

theorem takeReading_takes (s : State) (p : Position) (e : Telegram) : TakesReading s p e (takeReading p e s) := by
  have heq : takeReading p e s = if (tyre s p).state = .disabled then s.onTyre p (recordReading e (readingTarget s p))
      else enterTyreState e.time p (readingState s.tables.t4 e (readingTarget s p)
        (tyre (s.onTyre p (recordReading e (readingTarget s p))) p)) (s.onTyre p (recordReading e (readingTarget s p))) := rfl
  rw [heq]
  by_cases hoff : (tyre s p).state = .disabled
  · rw [if_pos hoff]
    exact takesReading_of_same (by rw [tyreOnReading_of_disabled e hoff]; rfl)
  · have hstate : readingState s.tables.t4 e (readingTarget s p)
        (tyre (s.onTyre p (recordReading e (readingTarget s p))) p) = (tyreOnReading s p e).state := by
      rw [tyre_onTyre_same, tyreOnReading_of_enabled e hoff]
    rw [if_neg hoff, hstate, enterTyreState]
    have hbefore : (tyre (s.onTyre p (recordReading e (readingTarget s p))) p).state = (tyre s p).state := by
      rw [tyre_onTyre_same]
      rfl
    rw [hbefore]
    split
    · next hsame => exact takesReading_of_same hsame.symm
    · next hne => exact takesReading_of_entry (Ne.symm hne) rfl

/-- Settles O29: the entry is a reading, whose record `tyreOnReading` gives; the marks and the readings are counted around it. -/
theorem readingUpdatesTheRecord : Obligations.ReadingUpdatesTheRecord := by
  intro s e rest p hpowered hqueue hfree hp _ hnew
  rw [exec_ordinaryEntry hpowered hqueue hfree,
    ordinaryEntry_of_reading (s := withoutEntry e rest s) hp (mt (isRepeat_iff _).mp hnew)]
  obtain ⟨hframe, hrecord, hothers, htyres, hquiet, hentered⟩ := takeReading_takes (withoutEntry e rest s) p e
  have hrest := tyreOnReading_rest (withoutEntry e rest s) p e
  refine ⟨_, rfl, ?_⟩
  generalize takeReading p e (withoutEntry e rest s) = t at *
  generalize hr : tyreOnReading (withoutEntry e rest s) p e = r at *
  have hown : tyre (countReading t) p = r := hrecord
  intro r' k gauge t4 g target low veryLow high old
  have hr' : r' = r := hown
  clear_value r'
  subst hr'
  obtain ⟨hfast, hvery, hhot, hlow, hfine⟩ := stateRaised_by_state s e.time p (r := r') (gauge := gauge)
    (temperature := e.temperature) (by rw [hrest]; rfl) (by rw [hrest]; rfl) s.alerts
  have hhistory : r'.history = addReading ⟨e.time, gauge⟩ old := by rw [hrest]; rfl
  have hleak : r'.leak = leakRate r'.history := by rw [hrest]; rfl
  have hlast : r'.lastHeard = e.time ∧ r'.lastCounter = some e.counter ∧ r'.batteryLow = e.batteryLow ∧
      r'.lastDrag = (tyre s p).lastDrag := by rw [hrest]; exact ⟨rfl, rfl, rfl, rfl⟩
  obtain ⟨hheard, hcounter, hbattery, hdrag⟩ := hlast
  refine ⟨by rw [hrest]; rfl, by rw [hrest]; rfl, by rw [hrest]; rfl, by rw [hrest]; rfl, hheard, hcounter, hbattery, hdrag,
    fun hnone => ?_, fun newest hnewest hrecent => ?_, fun newest hnewest hdue hlength => ?_, fun oldest hold newest hnewest => ?_,
    fun hoff => ?_, fun hon => ?_, hothers, ?_, ?_, ⟨fun hstays => ?_, fun henters => ?_⟩, ?_⟩
  · rw [hleak, hhistory, hnone]
    exact ⟨rfl, rfl⟩
  · rw [hhistory, addReading_of_recent hnewest hrecent]
  · rw [hhistory, addReading_of_due hnewest hdue hlength]
  · rw [hleak]
    exact leakRate_eq hold hnewest
  · rw [← hr, tyreOnReading_of_disabled (s := withoutEntry e rest s) e hoff]
    exact hoff
  · rw [← hr, tyreOnReading_of_enabled (s := withoutEntry e rest s) e hon]
    rfl
  · exact hframe .rx (by decide)
  · show { t.tyres with readings := satInc t.tyres.readings } = _
    rw [htyres]
    rfl
  · exact hquiet (not_not.mp hstays)
  · obtain ⟨halerts, hderates⟩ := hentered henters
    have hraised : (countReading t).alerts = stateRaised s e.time p r' s.alerts := halerts
    rw [hraised]
    refine ⟨hfast, hvery, hhot, hlow, hfine, fun g sd => ?_⟩
    have hside := sidesGet_deratesOf t g sd
    rwa [← hderates, show t.tables = s.tables from hframe .tables (by decide)] at hside
  · exact ((withoutEntry_touches e rest s).within (by decide)).andThen
      ((hframe.within (by decide)).andThen ((onTyres_touches t _).within (by decide)))

end Sys2Proof.Machine
end

section
/-! A bind: the position that takes the sensor, the position that it leaves, and the store of block 3 that is asked for (R128,
R129). -/

namespace Sys2Proof.Machine

open Sys2Proof

/-! ### The map and the records (R128) -/

/-- Step 1 of a bind: every slot that holds the ID is emptied, and its record starts afresh. -/
theorem unbindOther_positions {s : State} (h : MapInv s) {id : SensorId} {p : Position} (hp : gridGet s.tyres.map p ≠ some id) :
    (∀ j, gridGet (unbindOther id p s).tyres.map j =
      if gridGet s.tyres.map j = some id then none else gridGet s.tyres.map j) ∧
    (∀ j, tyre (unbindOther id p s) j = if gridGet s.tyres.map j = some id then
      tyreFresh (if t4PositionEnabled s.tables.t4 j = true then .absent else .disabled) s.timeBase else tyre s j) ∧
    (unbindOther id p s).tyres = { s.tyres with
      map := (unbindOther id p s).tyres.map, records := (unbindOther id p s).tyres.records } ∧
    ChangesOnly [.tyres] s (unbindOther id p s) := by
  cases hq : positionOf s.tyres.map id with
  | none =>
    have hsame : unbindOther id p s = s := by rw [unbindOther, hq]
    have hnot : ∀ j, gridGet s.tyres.map j ≠ some id := positionOf_none hq
    rw [hsame]
    exact ⟨fun j => (if_neg (hnot j)).symm, fun j => (if_neg (hnot j)).symm, rfl, ChangesOnly.nothing _ s⟩
  | some q =>
    have hheld : gridGet s.tyres.map q = some id := positionOf_some hq
    have honly : ∀ j, gridGet s.tyres.map j = some id → j = q := fun j hj => ((mapInv_iff s).mp h).single j q id hj hheld
    have hqp : q ≠ p := fun heq => hp (heq ▸ hheld)
    have hemptied : unbindOther id p s = s.onTyres fun t => { t with
        map := gridSet t.map q none
        records := gridSet t.records q (tyreFresh (freshState s q none) s.timeBase) } := by
      rw [unbindOther, hq]
      exact if_neg hqp
    rw [hemptied]
    refine ⟨fun j => ?_, fun j => ?_, rfl, onTyres_touches s _⟩
    · by_cases hj : j = q
      · rw [hj, if_pos hheld]
        exact gridGet_set_same _ _ _
      · rw [if_neg (mt (honly j) hj)]
        exact gridGet_set_other _ _ hj
    · by_cases hj : j = q
      · rw [hj, if_pos hheld]
        exact gridGet_set_same _ _ _
      · rw [if_neg (mt (honly j) hj)]
        exact gridGet_set_other _ _ hj

/-- What steps 1 to 4 of a bind make of the tyre table: the position holds the sensor alone, with its record afresh (R128). -/
structure BindsPosition (s : State) (p : Position) (e : Telegram) (t : State) : Prop where
  frame : ChangesOnly [.tyres] s t
  map : ∀ j, gridGet t.tyres.map j = if j = p then some e.id
    else if gridGet s.tyres.map j = some e.id then none else gridGet s.tyres.map j
  unknown : ∀ k, quadGet t.tyres.unknown k = (quadGet s.tyres.unknown k).filter fun u => u.id != e.id
  own : tyre t p = tyreFresh .noData e.time
  left : ∀ j, j ≠ p → gridGet s.tyres.map j = some e.id →
    tyre t j = tyreFresh (if t4PositionEnabled s.tables.t4 j = true then .absent else .disabled) s.timeBase
  others : ∀ j, j ≠ p → gridGet s.tyres.map j ≠ some e.id → tyre t j = tyre s j
  tyres : t.tyres = { s.tyres with map := t.tyres.map, records := t.tyres.records, unknown := t.tyres.unknown }

theorem bindSlot_binds {s : State} (h : MapInv s) {p : Position} {e : Telegram} (hp : gridGet s.tyres.map p ≠ some e.id) :
    BindsPosition s p e (bindSlot e p (unbindOther e.id p s)) := by
  obtain ⟨hmap, hrecords, htyres, hframe⟩ := unbindOther_positions h hp
  generalize unbindOther e.id p s = u at *
  have hother : ∀ j, j ≠ p → tyre (bindSlot e p u) j = tyre u j := fun j hj => gridGet_set_other _ _ hj
  exact {
    frame := hframe.andThen ((onTyres_touches u _).andThen (onTyres_touches _ _))
    map := fun j => by
      by_cases hj : j = p
      · rw [if_pos hj, hj]
        exact gridGet_set_same _ _ _
      · rw [if_neg hj, ← hmap]
        exact gridGet_set_other _ _ hj
    unknown := fun k => by
      have hsame : u.tyres.unknown = s.tyres.unknown := by rw [htyres]
      rw [← hsame]
      exact quadGet_map _ _ _
    own := gridGet_set_same _ _ _
    left := fun j hj hheld => by rw [hother j hj, hrecords, if_pos hheld]
    others := fun j hj hfree => by rw [hother j hj, hrecords, if_neg hfree]
    tyres := by
      have hbound : (bindSlot e p u).tyres = { u.tyres with
        map := (bindSlot e p u).tyres.map, records := (bindSlot e p u).tyres.records
        unknown := (bindSlot e p u).tyres.unknown } := rfl
      rw [hbound, htyres] }

/-! ### The store of block 3 (R129) -/

/-- The store of block 3 is refused: a block that is write-protected (R174). -/
theorem writeLocked_block3 (s : State) : writeLocked s 3 = protectFlag s.store.protForce 3 := by
  rw [writeLocked, show ((3 : Fin 5) == 1) = false from rfl, Bool.false_and, Bool.or_false]
  rfl

section Request

variable {s : State}

theorem requestBlock3_of_busy (h : s.store.state ≠ .idle) :
    requestBlock3 s = s.onTyres fun y => { y with waiting := true } := if_pos (bne_iff_ne.mpr h)

theorem requestBlock3_of_locked (h : s.store.state = .idle) (hlocked : protectFlag s.store.protForce 3 = true) :
    requestBlock3 s = s := by
  have hidle : ¬storeBusy s = true := fun hbusy => bne_iff_ne.mp hbusy h
  rw [requestBlock3, if_neg hidle, if_pos ((writeLocked_block3 s).trans hlocked)]

theorem requestBlock3_of_free (h : s.store.state = .idle) (hfree : ¬protectFlag s.store.protForce 3 = true) :
    requestBlock3 s = startWrite 3 s := by
  have hidle : ¬storeBusy s = true := fun hbusy => bne_iff_ne.mp hbusy h
  rw [requestBlock3, if_neg hidle, if_neg (writeLocked_block3 s ▸ hfree)]

end Request

/-! ### The end of a bind (steps 5 and 6 of R128, R129) -/

/-- What remains of a bind once its reading is taken. -/
def closeBind (s : State) : State := countReading (requestBlock3 (mapChanged (endSession .bound s)))

/-- The state of a bind once its reading is taken and the derates are evaluated (steps 1 to 5 of R128). -/
def boundReading (e : Telegram) (p : Position) (s : State) : State :=
  evaluateDerates (takeReading p e (bindSlot e p (unbindOther e.id p s)))

theorem bindSensor_eq (e : Telegram) (p : Position) (s : State) : bindSensor e p s = closeBind (boundReading e p s) := rfl

/-- What the end of a bind leaves: no session, the map unsaved, the answer, and the store asked for. -/
structure ClosesBind (s : State) (l : Session) (t : State) : Prop where
  frame : ChangesOnly [.tyres, .mgmt, .store] s t
  tyres : t.tyres = { s.tyres with
    session := none, unsaved := true
    changedSinceStore := decide (¬s.store.state = .idle ∨ protectFlag s.store.protForce 3 = true)
    waiting := s.tyres.waiting || decide ¬s.store.state = .idle, readings := satInc s.tyres.readings }
  mgmt : t.mgmt = placed [responseFrame s 14 [l.tag, 2, 2]] s.mgmt
  kept : ¬s.store.state = .idle ∨ protectFlag s.store.protForce 3 = true → t.store = s.store
  begun : s.store.state = .idle → ¬protectFlag s.store.protForce 3 = true → t.store = { s.store with
    state := .writing, ended := false, since := s.timeBase, writing := some ⟨3, s.tables.t4 ++ mapBytes s.tyres.map⟩ }

/-- What stands when the store of block 3 is asked for: the session is ended and answered, and the map is marked (R129). -/
theorem boundBeforeStore {s : State} {l : Session} (h : s.tyres.session = some l) :
    ∃ u, closeBind s = countReading (requestBlock3 u) ∧
      u.tyres = { s.tyres with session := none, unsaved := true, changedSinceStore := true } ∧
      u.mgmt = placed [responseFrame s 14 [l.tag, 2, 2]] s.mgmt ∧ ChangesOnly [.tyres, .mgmt] s u := by
  refine ⟨mapChanged (answer 14 l.tag (.completed .bound) (s.onTyres fun t => { t with session := none })), ?_, rfl, rfl,
    (answer_after ((onTyres_touches s _).within (by decide)) _ _ _ (by decide)).andThen
      ((onTyres_touches _ _).within (by decide))⟩
  rw [closeBind, endSession_of_open h]

theorem closeBind_closes {s : State} {l : Session} (h : s.tyres.session = some l) : ClosesBind s l (closeBind s) := by
  obtain ⟨u, heq, htyres, hmgmt, hbefore⟩ := boundBeforeStore h
  have hstore : u.store = s.store := hbefore .store (by decide)
  have htables : u.tables = s.tables := hbefore .tables (by decide)
  have hclock : u.timeBase = s.timeBase := hbefore .clock (by decide)
  have hframe : ChangesOnly [.tyres, .mgmt, .store] s (closeBind s) := heq ▸ (hbefore.within (by decide)).andThen
    (((requestBlock3_touches u).within (by decide)).andThen ((onTyres_touches _ _).within (by decide)))
  rw [heq] at hframe ⊢
  by_cases hidle : s.store.state = .idle
  · by_cases hlocked : protectFlag s.store.protForce 3 = true
    · rw [requestBlock3_of_locked (by rw [hstore, hidle]) (by rw [hstore, hlocked])] at hframe ⊢
      refine ⟨hframe, ?_, hmgmt, fun _ => hstore, fun _ hfree => absurd hlocked hfree⟩
      rw [countReading, onTyres_tyres, htyres]
      simp [hidle, hlocked]
    · rw [requestBlock3_of_free (by rw [hstore, hidle]) (by rw [hstore]; exact hlocked)] at hframe ⊢
      refine ⟨hframe, ?_, hmgmt, fun hkept => (hkept.elim (· hidle) hlocked).elim, fun _ _ => ?_⟩
      · rw [countReading, onTyres_tyres, startWrite, onTyres_tyres, onStore_tyres, htyres]
        simp [hidle, hlocked]
      · have hwritten : (countReading (startWrite 3 u)).store = { u.store with
            state := .writing, ended := false, since := u.timeBase
            writing := some ⟨3, u.tables.t4 ++ mapBytes u.tyres.map⟩ } := rfl
        rw [hwritten, hstore, htables, htyres, hclock]
  · rw [requestBlock3_of_busy (by rw [hstore]; exact hidle)] at hframe ⊢
    refine ⟨hframe, ?_, hmgmt, fun _ => hstore, fun h => absurd h hidle⟩
    rw [countReading, onTyres_tyres, onTyres_tyres, htyres]
    simp [hidle]

/-! ### The first reading of a bound position -/

/-- The record of a position after its first reading: no leak rate yet, and a history of that reading alone (R116 to R119). -/
def firstRecord (s : State) (p : Position) (e : Telegram) : TyreRec :=
  let gauge := compensatedGauge e.pressure e.temperature
  let target := readingTarget s p
  { state := if t4Leak s.tables.t4 = 0 ∨ e.fastLeak = true then .fastLeak else if gauge < target.veryLow then .veryLow
      else if (t4Hot s.tables.t4 : Int) ≤ e.temperature then .hot else if gauge < target.low then .low
      else if target.high < gauge then .high else .ok
    pressure := some e.pressure, temperature := some e.temperature, gauge := some gauge, target := some target, leak := 0
    lastHeard := e.time, lastCounter := some e.counter, batteryLow := e.batteryLow, history := [⟨e.time, gauge⟩]
    lastDrag := none }

theorem firstRecord_congr {s t : State} {ps : List Part} (h : ChangesOnly ps s t) (ht : Part.tables ∉ ps)
    (hl : Part.load ∉ ps) (p : Position) (e : Telegram) : firstRecord t p e = firstRecord s p e := by
  have htables : t.tables = s.tables := h .tables ht
  have htarget : readingTarget t p = readingTarget s p := by
    simp only [readingTarget, positionGroup, htables, estimate_frame h hl]
  rw [firstRecord, htarget, htables, firstRecord]

theorem firstRecord_ne_noData (s : State) (p : Position) (e : Telegram) : (firstRecord s p e).state ≠ .noData := by
  dsimp only [firstRecord]
  split_ifs <;> decide

theorem tyreOnReading_of_fresh {s : State} {p : Position} {now : Stamp} (h : tyre s p = tyreFresh .noData now) (e : Telegram) :
    tyreOnReading s p e = firstRecord s p e := by
  have hon : (tyre s p).state ≠ .disabled := by rw [h]; exact nofun
  rw [tyreOnReading_of_enabled e hon, h]
  exact congrArg (fun st => { recordReading e (readingTarget s p) (tyreFresh .noData now) with state := st })
    (if_congr (P := t4Leak s.tables.t4 ≤ 0 ∨ e.fastLeak = true) (or_congr_left Nat.le_zero) rfl rfl)

/-- What a bind makes of the tyre table and the alerts before its end (R128). -/
structure TakesBind (s : State) (p : Position) (e : Telegram) (t : State) : Prop where
  frame : ChangesOnly [.tyres, .alerts] s t
  map : ∀ j, gridGet t.tyres.map j = if j = p then some e.id
    else if gridGet s.tyres.map j = some e.id then none else gridGet s.tyres.map j
  unknown : ∀ k, quadGet t.tyres.unknown k = (quadGet s.tyres.unknown k).filter fun u => u.id != e.id
  own : tyre t p = firstRecord s p e
  left : ∀ j, j ≠ p → gridGet s.tyres.map j = some e.id →
    tyre t j = tyreFresh (if t4PositionEnabled s.tables.t4 j = true then .absent else .disabled) s.timeBase
  others : ∀ j, j ≠ p → gridGet s.tyres.map j ≠ some e.id → tyre t j = tyre s j
  tyres : t.tyres = { s.tyres with
    map := t.tyres.map, records := t.tyres.records, derates := t.tyres.derates, unknown := t.tyres.unknown }
  alerts : t.alerts = stateRaised s e.time p (firstRecord s p e) s.alerts
  derates : t.tyres.derates = deratesOf t

theorem boundReading_takes {s : State} (h : MapInv s) {p : Position} {e : Telegram} (hp : gridGet s.tyres.map p ≠ some e.id) :
    TakesBind s p e (boundReading e p s) := by
  have hbind := bindSlot_binds h hp
  unfold boundReading
  generalize bindSlot e p (unbindOther e.id p s) = b at hbind
  have hread := takeReading_takes b p e
  generalize takeReading p e b = v at hread
  have hfirst : tyreOnReading b p e = firstRecord s p e :=
    (tyreOnReading_of_fresh hbind.own e).trans (firstRecord_congr hbind.frame (by decide) (by decide) p e)
  have hfresh : (tyre b p).state = .noData := by rw [hbind.own]; rfl
  obtain ⟨halerts, -⟩ := hread.entered (by rw [hfirst, hfresh]; exact firstRecord_ne_noData s p e)
  have hevaluated : (evaluateDerates v).tyres = { v.tyres with derates := deratesOf v } := rfl
  exact {
    frame := ((hbind.frame.within (by decide)).andThen hread.frame).andThen ((evaluateDerates_touches v).within (by decide))
    map := by rw [hevaluated, hread.tyres]; exact hbind.map
    unknown := by rw [hevaluated, hread.tyres]; exact hbind.unknown
    own := hread.record.trans hfirst
    left := fun j hj hheld => (hread.others j hj).trans (hbind.left j hj hheld)
    others := fun j hj hfree => (hread.others j hj).trans (hbind.others j hj hfree)
    tyres := by rw [hevaluated, hread.tyres, hbind.tyres]
    alerts := by
      have hbefore : b.alerts = s.alerts := hbind.frame .alerts (by decide)
      have hclock : b.timeBase = s.timeBase := hbind.frame .clock (by decide)
      have hsame : (evaluateDerates v).alerts = v.alerts := rfl
      rw [hsame, halerts, hfirst, hbefore]
      simp only [stateRaised, raisedAt_congr hclock]
    derates := deratesOf_congr rfl fun _ => rfl }

/-- Settles O30: `TakesBind` gives the position, its first reading and what the sensor leaves, and `ClosesBind` the end of the
session with the store asked for. -/
theorem learnTelegramIsBound : Obligations.LearnTelegramIsBound := by
  intro s e rest l hmap hpowered hqueue hsession hlearn hother
  rw [exec_entry hpowered hqueue, judgeEntry_of_learn (s := withoutEntry e rest s) hsession hlearn hother, bindSensor_eq]
  have hbind := boundReading_takes (s := withoutEntry e rest s) hmap hother
  generalize boundReading e l.position (withoutEntry e rest s) = w at hbind
  have hframe : ChangesOnly [.rx, .tyres, .alerts] s w :=
    ((withoutEntry_touches e rest s).within (by decide)).andThen (hbind.frame.within (by decide))
  have hstore : w.store = s.store := hframe .store (by decide)
  have htables : w.tables = s.tables := hframe .tables (by decide)
  have hclock : w.timeBase = s.timeBase := hframe .clock (by decide)
  have hopen : w.tyres.session = some l := by rw [hbind.tyres]; exact hsession
  have hclose := closeBind_closes hopen
  generalize closeBind w = t at hclose
  have hrecord : ∀ j, tyre t j = tyre w j := fun j => by rw [tyre, hclose.tyres, tyre]
  have halerts : t.alerts = w.alerts := hclose.frame .alerts (by decide)
  have htyres : t.tyres.map = w.tyres.map ∧ t.tyres.unknown = w.tyres.unknown ∧ t.tyres.derates = w.tyres.derates := by
    rw [hclose.tyres]
    exact ⟨rfl, rfl, rfl⟩
  obtain ⟨hsameMap, hsameUnknown, hsameDerates⟩ := htyres
  refine ⟨t, rfl, ?_⟩
  intro p r k gauge t4 g target low veryLow high state raised idle held
  have hr : r = firstRecord s p e := (hrecord p).trans hbind.own
  obtain ⟨hfast, hvery, hhot, hlow, hfine⟩ := stateRaised_by_state s e.time p (r := firstRecord s p e) (gauge := gauge)
    (temperature := e.temperature) rfl rfl s.alerts
  have hraised : t.alerts = stateRaised s e.time p (firstRecord s p e) s.alerts := halerts.trans hbind.alerts
  rw [hraised]
  refine ⟨by rw [hsameMap]; exact hbind.map, by rw [hsameUnknown]; exact hbind.unknown, hr,
    fun j hj hheld => (hrecord j).trans (hbind.left j hj hheld),
    fun j hj hfree => (hrecord j).trans (hbind.others j hj hfree), fun g sd => ?_, ?_, hfast, hvery, hhot, hlow, hfine, ?_,
    fun hkept => ?_, fun hidle hfree => ?_, ?_, ?_⟩
  · have hside := sidesGet_deratesOf w g sd
    rw [← hbind.derates, htables] at hside
    simp only [hrecord, hsameDerates]
    exact hside
  · rw [hclose.tyres, hbind.tyres, hstore]
    rfl
  · rw [hclose.mgmt, responseFrame_congr (hframe .link (by decide) : w.link = s.link),
      show w.mgmt = s.mgmt from hframe .mgmt (by decide)]
    rfl
  · rw [← hstore]
    exact hclose.kept (by rw [hstore]; exact hkept)
  · rw [hclose.begun (by rw [hstore]; exact hidle) (by rw [hstore]; exact hfree), hstore, htables, hclock, hsameMap]
    rfl
  · exact Eq.trans (hclose.frame .rx (by decide)) (hbind.frame .rx (by decide))
  · exact (hframe.within (by decide)).andThen (hclose.frame.within (by decide))

end Sys2Proof.Machine
end

section
/-! The zero-demand run on a sample set (R123): the tyre table's own step, and the demand it may find while a set is taken. -/

namespace Sys2Proof.Machine

open Sys2Proof

theorem tyresTakeSet_eq (u : State) : tyresTakeSet u = { u with tyres := { u.tyres with
    zeroRun := if demandLevel u = 0 then some (u.tyres.zeroRun.getD u.timeBase) else none } } := by
  have hrun : runUpdate (decide (demandLevel u = 0)) u.timeBase u.tyres.zeroRun =
      if demandLevel u = 0 then some (u.tyres.zeroRun.getD u.timeBase) else none := by
    simp only [runUpdate, decide_eq_true_eq]
  rw [← hrun]
  rfl

/-- The driver demand of the link is one of no pressure. -/
abbrev linkCalm (s : State) : Prop :=
  s.link.state = .nothing ∨ ((s.link.state = .fresh ∨ s.link.state = .stale) ∧ s.link.demand = 0)

/-- The driver demand of the link is one of a pressure. -/
abbrev linkBrakes (s : State) : Prop := (s.link.state = .fresh ∨ s.link.state = .stale) ∧ 0 < s.link.demand

/-- What the takers of a set beside the tyre table leave for it: its own record, the clock, the link, and a demand that stays
on the side of zero on which the link has it. -/
structure BesideTyres (s t : State) : Prop where
  tyres : t.tyres = s.tyres
  clock : t.timeBase = s.timeBase
  link : t.link = s.link
  calm : linkCalm s → demandLevel s = 0 → demandLevel t = 0
  brakes : linkBrakes s → 0 < demandLevel s → 0 < demandLevel t

namespace BesideTyres

variable {s t u : State}

theorem refl (s : State) : BesideTyres s s := ⟨rfl, rfl, rfl, fun _ => id, fun _ => id⟩

theorem trans (h : BesideTyres s t) (k : BesideTyres t u) : BesideTyres s u where
  tyres := k.tyres.trans h.tyres
  clock := k.clock.trans h.clock
  link := k.link.trans h.link
  calm hl hd := k.calm (by rw [linkCalm, h.link]; exact hl) (h.calm hl hd)
  brakes hl hd := k.brakes (by rw [linkBrakes, h.link]; exact hl) (h.brakes hl hd)

theorem of_demand {ps : List Part} (h : ChangesOnly ps s t) (hps : Part.tyres ∉ ps ∧ Part.clock ∉ ps ∧ Part.link ∉ ps)
    (hd : demandLevel t = demandLevel s) : BesideTyres s t where
  tyres := h .tyres hps.1
  clock := h .clock hps.2.1
  link := h .link hps.2.2
  calm _ hz := hd.trans hz
  brakes _ hp := by rwa [hd]

theorem of_frame {ps : List Part} (h : ChangesOnly ps s t)
    (hps : (Part.tyres ∉ ps ∧ Part.clock ∉ ps ∧ Part.link ∉ ps) ∧ Part.arbiter ∉ ps) : BesideTyres s t :=
  .of_demand h hps.1 (by rw [demandLevel, h.arbiter hps.2, demandLevel])

end BesideTyres

/-- The demand that the arbiter derives on a set is on the side of zero on which the link has it (R41). -/
theorem arbiterTakesSet_besideTyres (u : State) : BesideTyres u (arbiterTakesSet u) := by
  have hframe := arbiterTakesSet_touches u
  obtain ⟨hdemand, hsource⟩ := arbiterTakesSet_demand u
  obtain ⟨helectric, -, hnothing⟩ := derivedDemand_cases u
  have hlevel : ∀ d, derivedDemand u = (d, .electric) → demandLevel (arbiterTakesSet u) = d := fun d h => by
    have hd : (measured u).arbiter.demand = d := congrArg Prod.fst h
    have hs : (measured u).arbiter.source = .electric := congrArg Prod.snd h
    rw [demandLevel, hdemand, hsource, hd, hs]
  exact {
    tyres := hframe .tyres (by decide)
    clock := hframe .clock (by decide)
    link := hframe .link (by decide)
    calm := fun hl _ => by
      rcases hl with hnone | ⟨helec, hzero⟩
      · have hs : (measured u).arbiter.source = .nothing := congrArg Prod.snd (hnothing (.inl hnone))
        rw [demandLevel, hsource, hs]
      · rw [hlevel _ (helectric helec), hzero]
    brakes := fun ⟨helec, hpos⟩ _ => by rwa [hlevel _ (helectric helec)] }

/-- The tyre table takes an accepted set once, in a state that the other takers leave for it. -/
theorem handSet_tyres (v : State) : ∃ u, BesideTyres v u ∧ (handSet v).tyres = (tyresTakeSet u).tyres := by
  have hperm : setTakers.Perm [tyresTakeSet, estimatorTakesSet, arbiterTakesSet, airTakesSet, rollTakesSet] :=
    List.perm_middle (l₁ := [estimatorTakesSet, arbiterTakesSet, airTakesSet, rollTakesSet])
  obtain ⟨u, hu, ht⟩ := handSet_once (E := BesideTyres) .refl .trans hperm (by
      simp only [List.mem_cons, List.not_mem_nil, or_false, forall_eq_or_imp, forall_eq]
      exact ⟨fun s => .of_frame (estimatorTakesSet_touches s) (by decide), arbiterTakesSet_besideTyres,
        fun s => .of_frame (airTakesSet_touches s) (by decide), fun s => .of_frame (rollTakesSet_touches s) (by decide)⟩)
    (fun s => .of_frame (spend_touches s) (by decide)) v
  exact ⟨u, hu, ht.tyres⟩

/-- An accepted set changes the tyre table in its zero-demand run alone, which follows the demand of the link (R123). -/
theorem acceptedSet_tyres {s : State} {bytes : List Byte} (h : AcceptsSet s bytes) :
    ∃ t, exec (.sampleSetArrival bytes) s = .next t ∧ t.tyres = { s.tyres with zeroRun := t.tyres.zeroRun } ∧
      (demandLevel s = 0 → linkCalm s → t.tyres.zeroRun = some (s.tyres.zeroRun.getD s.timeBase)) ∧
      (0 < demandLevel s → linkBrakes s → t.tyres.zeroRun = none) := by
  obtain ⟨v, hv, hframe, hfigures⟩ := accepted_before s bytes
  have hbefore : BesideTyres s v := .of_demand hframe (by decide) (by
    rw [demandLevel, hfigures.demand, hfigures.source, demandLevel])
  obtain ⟨u, hu, htaken⟩ := handSet_tyres v
  have hall := hbefore.trans hu
  rw [tyresTakeSet_eq] at htaken
  refine ⟨handSet v, (exec_acceptedSet h).trans (by rw [hv]), ?_, fun hzero hcalm => ?_, fun hpos hbrakes => ?_⟩
  · rw [htaken, hall.tyres]
  · rw [htaken, if_pos (hall.calm hcalm hzero), hall.tyres, hall.clock]
  · rw [htaken, if_neg (hall.brakes hbrakes hpos).ne']

end Sys2Proof.Machine
end

section
/-! The check of the positions for LOST (R121): one position, and the run over all of them. -/

namespace Sys2Proof.Machine

open Sys2Proof

/-! ### Runs over things that differ -/

/-- What a run over different things has established of those done so far, it establishes of all. -/
theorem foldl_upTo {α β : Type} {P : List β → α → Prop} {f : α → β → α}
    (hstep : ∀ done b a, b ∉ done → P done a → P (done ++ [b]) (f a b)) {l : List β} (hl : l.Nodup) {a : α} (h : P [] a) :
    P l (l.foldl f a) := by
  induction l using List.reverseRecOn with
  | nil => exact h
  | append_singleton done b ih =>
    obtain ⟨hdone, -, hapart⟩ := List.nodup_append.mp hl
    rw [List.foldl_append]
    exact hstep done b _ (fun hb => hapart b hb b (List.mem_singleton_self b) rfl) (ih hdone)

theorem allPositions_nodup : allPositions.Nodup := by decide

/-- A run in which nothing is done for any thing changes nothing. -/
theorem foldl_resting {α β : Type} {work : α → β → α} {l : List β} (h : ∀ b ∈ l, ∀ a, work a b = a) (a : α) :
    l.foldl work a = a :=
  foldl_same id work l (fun a b hb => h b hb a) a

/-- A run in which something is done for one thing alone. -/
theorem foldl_for_one {α β : Type} {work : α → β → α} {l : List β} (hl : l.Nodup) {b : β} (hb : b ∈ l)
    (h : ∀ c, c ≠ b → ∀ a, work a c = a) (a : α) : l.foldl work a = work a b := by
  obtain ⟨before, after, rfl⟩ := List.append_of_mem hb
  obtain ⟨-, hrest, hapart⟩ := List.nodup_append.mp hl
  have hbefore : ∀ c ∈ before, ∀ a, work a c = a := fun c hc => h c fun heq =>
    hapart c hc b List.mem_cons_self heq
  have hafter : ∀ c ∈ after, ∀ a, work a c = a := fun c hc => h c fun heq =>
    (List.nodup_cons.mp hrest).1 (heq ▸ hc)
  rw [List.foldl_append, List.foldl_cons, foldl_resting hbefore, foldl_resting hafter]

/-! ### One position -/

/-- A position that the check timer finds silent for the LOST time (R121). -/
abbrev goesLost (s : State) (p : Position) : Prop :=
  (tyre s p).state ≠ .absent ∧ (tyre s p).state ≠ .disabled ∧ (tyre s p).state ≠ .lost ∧
    1000 * t4Lost s.tables.t4 ≤ (s.timeBase - (tyre s p).lastHeard).toNat

/-- A record after the check for LOST. -/
def checkedRecord (s : State) (p : Position) : TyreRec :=
  if goesLost s p then { tyre s p with state := .lost } else tyre s p

/-- The alerts after the check of a position for LOST. -/
def lostRaised (s : State) (a : Alerts) (p : Position) : Alerts :=
  if goesLost s p then raisedAt s s.timeBase .tyreLost ⟨.tyre, p.val⟩ ((tyre s p).gauge.getD 0) a else a

theorem lostRaised_of_heard {s : State} {p : Position} (h : ¬goesLost s p) (a : Alerts) : lostRaised s a p = a := if_neg h

theorem lostRaised_of_silent {s : State} {p : Position} (h : goesLost s p) (a : Alerts) : lostRaised s a p =
    raisedAt s s.timeBase .tyreLost ⟨.tyre, p.val⟩ ((tyre s p).gauge.getD 0) a := if_pos h

theorem checkedState_iff (st : TyreState) : checkedState st = true ↔ st ≠ .absent ∧ st ≠ .disabled ∧ st ≠ .lost := by
  cases st <;> simp [checkedState]

theorem goesLost_iff (s : State) (p : Position) : goesLost s p ↔ (checkedState (tyre s p).state &&
    reached s.timeBase (tyre s p).lastHeard (1000 * t4Lost s.tables.t4)) = true := by
  rw [Bool.and_eq_true, checkedState_iff, reached_iff, and_assoc, and_assoc]

theorem checkLost_of_heard {s : State} {p : Position} (h : ¬goesLost s p) : checkLost s p = s :=
  if_neg (mt (goesLost_iff s p).mpr h)

theorem checkLost_of_silent {s : State} {p : Position} (h : goesLost s p) : checkLost s p =
    evaluateDerates (raiseAlert .tyreLost (tyreSubject p) ((tyre s p).gauge.getD 0)
      (s.onTyre p fun r => { r with state := .lost })) := if_pos ((goesLost_iff s p).mp h)

/-! ### All positions -/

/-- What the check for LOST of a list of positions makes of a state. -/
structure ChecksLost (s : State) (l : List Position) (t : State) : Prop where
  frame : ChangesOnly [.tyres, .alerts] s t
  tyres : t.tyres = { s.tyres with records := t.tyres.records, derates := t.tyres.derates }
  records : ∀ p, tyre t p = if p ∈ l then checkedRecord s p else tyre s p
  alerts : t.alerts = l.foldl (lostRaised s) s.alerts
  quiet : (∀ p ∈ l, ¬goesLost s p) → t.tyres.derates = s.tyres.derates
  derated : (∃ p ∈ l, goesLost s p) → t.tyres.derates = deratesOf t

section Step

variable {s t : State} {l : List Position} {p : Position} (h : ChecksLost s l t) (hp : p ∉ l)

include h hp

theorem ChecksLost.untouched : tyre t p = tyre s p := by rw [h.records, if_neg hp]

theorem ChecksLost.goesLost_iff : goesLost t p ↔ goesLost s p := by
  have hclock : t.timeBase = s.timeBase := h.frame .clock (by decide)
  have htables : t.tables = s.tables := h.frame .tables (by decide)
  rw [goesLost, h.untouched hp, hclock, htables]

theorem ChecksLost.heard (hheard : ¬goesLost s p) : ChecksLost s (l ++ [p]) t where
  frame := h.frame
  tyres := h.tyres
  records q := by
    rw [h.records]
    by_cases hq : q = p
    · rw [hq, if_neg hp, if_pos (by simp), checkedRecord, if_neg hheard]
    · simp [hq]
  alerts := by
    rw [List.foldl_append, ← h.alerts]
    exact (lostRaised_of_heard hheard _).symm
  quiet hall := h.quiet fun q hq => hall q (List.mem_append_left _ hq)
  derated := fun ⟨q, hq, hlost⟩ => by
    rcases List.mem_append.mp hq with hin | hlast
    · exact h.derated ⟨q, hin, hlost⟩
    · exact absurd (List.mem_singleton.mp hlast ▸ hlost) hheard

theorem ChecksLost.silent (hsilent : goesLost s p) : ChecksLost s (l ++ [p]) (checkLost t p) := by
  have hclock : t.timeBase = s.timeBase := h.frame .clock (by decide)
  rw [checkLost_of_silent ((h.goesLost_iff hp).mpr hsilent)]
  have hraise := raiseAlert_touches (t.onTyre p fun r => { r with state := .lost }) .tyreLost (tyreSubject p)
    ((tyre t p).gauge.getD 0)
  have halerts : (raiseAlert .tyreLost (tyreSubject p) ((tyre t p).gauge.getD 0)
      (t.onTyre p fun r => { r with state := .lost })).alerts = lostRaised s t.alerts p := by
    rw [lostRaised_of_silent hsilent, ← raisedAt_congr hclock, ← hclock, ← h.untouched hp]
    rfl
  generalize raiseAlert .tyreLost (tyreSubject p) ((tyre t p).gauge.getD 0) _ = u at hraise halerts
  have htable : u.tyres = (t.onTyre p fun r => { r with state := .lost }).tyres := hraise.tyreTable (by decide)
  have hevaluated : (evaluateDerates u).tyres = { u.tyres with derates := deratesOf u } := rfl
  exact {
    frame := h.frame.andThen ((((onTyre_touches t p _).within (by decide)).andThen (hraise.within (by decide))).andThen
      ((evaluateDerates_touches u).within (by decide)))
    tyres := by
      rw [hevaluated, htable, onTyre_tyres, h.tyres]
    records := fun q => by
      have hsame : tyre (evaluateDerates u) q = tyre (t.onTyre p fun r => { r with state := .lost }) q :=
        tyre_frame hraise (by decide) q
      rw [hsame]
      by_cases hq : q = p
      · rw [hq, tyre_onTyre_same, if_pos (by simp), checkedRecord, if_pos hsilent, h.untouched hp]
      · rw [tyre_onTyre_other hq, h.records]
        simp [hq]
    alerts := by
      rw [List.foldl_append, ← h.alerts]
      exact halerts
    quiet := fun hall => absurd hsilent (hall p (by simp))
    derated := fun _ => deratesOf_congr rfl fun _ => rfl }

end Step

theorem checkLost_all (s : State) : ChecksLost s allPositions (allPositions.foldl checkLost s) := by
  refine foldl_upTo (P := ChecksLost s) (fun l p t hp h => ?_) allPositions_nodup
    ⟨ChangesOnly.nothing _ s, rfl, fun _ => rfl, rfl, fun _ => rfl, fun ⟨_, hp, _⟩ => absurd hp List.not_mem_nil⟩
  by_cases hsilent : goesLost s p
  · exact h.silent hp hsilent
  · rw [checkLost_of_heard (mt (h.goesLost_iff hp).mp hsilent)]
    exact h.heard hp hsilent

end Sys2Proof.Machine
end

section
/-! An error event of a channel (R52): the counter, and the entry into FAULTED at the threshold. -/

namespace Sys2Proof.Machine

open Sys2Proof

/-- An error event takes its channel to FAULTED: the channel is not there yet, and the counter reaches the threshold. -/
abbrev errorFaults (s : State) (r : ChannelRec) : Prop :=
  r.state ≠ .faulted ∧ t1Threshold s.tables.t1 ≤ min (r.errors + 1) 15

/-- A record with its error counter raised (R52). -/
def erredRecord (r : ChannelRec) : ChannelRec := { r with errors := min (r.errors + 1) 15 }

section Event

variable {s : State} {c : Channel}

theorem errorEvent_of_counted (h : ¬errorFaults s (chan s c)) : errorEvent c s = s.onChannel c erredRecord := by
  unfold errorEvent
  dsimp only
  rw [chan_onChannel_same]
  exact if_neg h

theorem errorEvent_of_faulting (h : errorFaults s (chan s c)) :
    errorEvent c s = enterFaulted c .counter (s.onChannel c erredRecord) := by
  unfold errorEvent
  dsimp only
  rw [chan_onChannel_same]
  exact if_pos h

theorem errorEvent_only (c : Channel) (s : State) : ChannelsOnly s (errorEvent c s) := by
  have hcounted : ChannelsOnly s (s.onChannel c erredRecord) := (OneChannel.onChannel c erredRecord s).toChannelsOnly
  by_cases h : errorFaults s (chan s c)
  · obtain ⟨hentered, -⟩ := enterFaulted_channels c .counter (s.onChannel c erredRecord)
    rw [errorEvent_of_faulting h]
    exact hcounted.trans hentered
  · rw [errorEvent_of_counted h]
    exact hcounted

/-- At the threshold the channel is FAULTED with cause COUNTER, and the fault policy moves the others. -/
theorem errorEvent_channels_of_faulting (h : errorFaults s (chan s c)) :
    chan (errorEvent c s) c = faultedRecord .counter (erredRecord (chan s c)) ∧
      ∀ d, d ≠ c → chan (errorEvent c s) d = afterPolicy s c d (chan s d) := by
  obtain ⟨-, hown, hothers, -⟩ := enterFaulted_channels c .counter (s.onChannel c erredRecord)
  rw [errorEvent_of_faulting h]
  refine ⟨by rw [hown, chan_onChannel_same], fun d hd => ?_⟩
  rw [hothers d hd, chan_onChannel_other hd, afterPolicy_congr (OneChannel.onChannel c erredRecord s).toChannelsOnly]

theorem errorEvent_channels_of_counted (h : ¬errorFaults s (chan s c)) :
    chan (errorEvent c s) c = erredRecord (chan s c) ∧ ∀ d, d ≠ c → chan (errorEvent c s) d = chan s d := by
  rw [errorEvent_of_counted h]
  exact ⟨chan_onChannel_same c _ s, fun d hd => chan_onChannel_other hd _ s⟩

/-- The fault policy keeps a record's error counter, and neither takes a channel to FAULTED nor away from it (R51). -/
theorem afterPolicy_keeps (s : State) (c d : Channel) (r : ChannelRec) : (afterPolicy s c d r).errors = r.errors ∧
    ((afterPolicy s c d r).state = .faulted ↔ r.state = .faulted) ∧
    (r.state = .faulted → afterPolicy s c d r = r) := by
  unfold afterPolicy
  split
  · next hb =>
    have hnot : r.state ≠ .faulted := by
      obtain ⟨-, -, h | h | h⟩ := hb <;> rw [h] <;> exact nofun
    exact ⟨rfl, ⟨nofun, fun h => absurd h hnot⟩, fun h => absurd h hnot⟩
  · exact ⟨rfl, Iff.rfl, fun _ => rfl⟩

/-- What an error event makes of another channel's record. -/
theorem errorEvent_other {d : Channel} (hd : d ≠ c) : (chan (errorEvent c s) d).errors = (chan s d).errors ∧
    ((chan (errorEvent c s) d).state = .faulted ↔ (chan s d).state = .faulted) ∧
    ((chan s d).state = .faulted ∨ ¬errorFaults s (chan s c) ∨ t1PolicyAll s.tables.t1 = false →
      chan (errorEvent c s) d = chan s d) := by
  by_cases h : errorFaults s (chan s c)
  · obtain ⟨-, hothers⟩ := errorEvent_channels_of_faulting h
    obtain ⟨herrors, hstate, hsame⟩ := afterPolicy_keeps s c d (chan s d)
    rw [hothers d hd]
    refine ⟨herrors, hstate, fun hcase => ?_⟩
    obtain hfaulted | hnot | hpolicy := hcase
    · exact hsame hfaulted
    · exact absurd h hnot
    · exact if_neg fun ⟨hall, _⟩ => Bool.false_ne_true (hpolicy.symm.trans hall)
  · obtain ⟨-, hothers⟩ := errorEvent_channels_of_counted h
    rw [hothers d hd]
    exact ⟨rfl, Iff.rfl, fun _ => rfl⟩

/-- What it makes of its own. -/
theorem errorEvent_own : (chan (errorEvent c s) c).errors = min ((chan s c).errors + 1) 15 ∧
    ((chan (errorEvent c s) c).state = .faulted ↔ (chan s c).state = .faulted ∨ errorFaults s (chan s c)) ∧
    (errorFaults s (chan s c) → (chan (errorEvent c s) c).cause = some .counter) := by
  by_cases h : errorFaults s (chan s c)
  · obtain ⟨hown, -⟩ := errorEvent_channels_of_faulting h
    rw [hown]
    exact ⟨rfl, ⟨fun _ => .inr h, fun _ => rfl⟩, fun _ => rfl⟩
  · obtain ⟨hown, -⟩ := errorEvent_channels_of_counted h
    rw [hown]
    exact ⟨rfl, ⟨.inl, fun hcase => hcase.resolve_right h⟩, fun hf => absurd hf h⟩

end Event

end Sys2Proof.Machine
end

section
/-! The drag events of the check timer (R124): a run of error events over the channels, and the check of all positions. -/

namespace Sys2Proof.Machine

open Sys2Proof

/-! ### Several error events (R52) -/

/-- An error counter after a number of error events. -/
def erred (e n : Nat) : Nat := if n = 0 then e else min (e + n) 15

theorem erred_succ (e n : Nat) : erred e (n + 1) = min (erred e n + 1) 15 := by
  rw [erred, if_neg (Nat.succ_ne_zero n), erred]
  split <;> omega

/-- A channel that a number of error events takes to FAULTED. -/
abbrev faultsAfter (w : State) (c : Channel) (n : Nat) : Prop :=
  (chan w c).state ≠ .faulted ∧ 0 < n ∧ t1Threshold w.tables.t1 ≤ erred (chan w c).errors n

/-- What error events make of the channels, their number given for each. -/
structure TakesEvents (w : State) (n : Channel → Nat) (t : State) : Prop where
  tables : t.tables = w.tables
  errors : ∀ c, (chan t c).errors = erred (chan w c).errors (n c)
  faulted : ∀ c, (chan t c).state = .faulted ↔ (chan w c).state = .faulted ∨ faultsAfter w c (n c)
  cause : ∀ c, faultsAfter w c (n c) → (chan t c).cause = some .counter
  calm : ∀ c, ¬faultsAfter w c (n c) → t1PolicyAll w.tables.t1 = false ∨ (∀ d, ¬faultsAfter w d (n d)) →
    chan t c = { chan w c with errors := erred (chan w c).errors (n c) }

theorem TakesEvents.none (w : State) : TakesEvents w (fun _ => 0) w where
  tables := rfl
  errors _ := rfl
  faulted _ := ⟨.inl, fun h => h.resolve_right fun hf => absurd hf.2.1 (lt_irrefl 0)⟩
  cause _ hf := absurd hf.2.1 (lt_irrefl 0)
  calm _ _ _ := rfl

theorem TakesEvents.of_channels {w t u : State} {n : Channel → Nat} (h : TakesEvents w n t) (ht : u.tables = t.tables)
    (hc : ∀ c, chan u c = chan t c) : TakesEvents w n u where
  tables := ht.trans h.tables
  errors c := by rw [hc, h.errors]
  faulted c := by rw [hc, h.faulted]
  cause c := by rw [hc]; exact h.cause c
  calm c := by rw [hc]; exact h.calm c

section Event

variable {w t : State} {n : Channel → Nat} {c : Channel} (h : TakesEvents w n t)

include h

/-- A further event takes its channel to FAULTED exactly where it makes the number of events one that does. -/
theorem TakesEvents.faultsAfter_succ :
    faultsAfter w c (n c + 1) ↔ faultsAfter w c (n c) ∨ errorFaults t (chan t c) := by
  rw [errorFaults, ne_eq, h.faulted, h.errors, h.tables, ← erred_succ, not_or]
  constructor
  · rintro ⟨hnot, -, hlevel⟩
    exact or_iff_not_imp_left.mpr fun hbefore => ⟨⟨hnot, hbefore⟩, hlevel⟩
  · rintro (⟨hnot, hpos, hlevel⟩ | ⟨⟨hnot, -⟩, hlevel⟩)
    · refine ⟨hnot, Nat.succ_pos _, hlevel.trans ?_⟩
      unfold erred
      rw [if_neg hpos.ne', if_neg (Nat.succ_ne_zero _)]
      omega
    · exact ⟨hnot, Nat.succ_pos _, hlevel⟩

theorem TakesEvents.event : TakesEvents w (Function.update n c (n c + 1)) (errorEvent c t) := by
  have hsucc := h.faultsAfter_succ (c := c)
  obtain ⟨herrors, hfaulted, hcause⟩ := errorEvent_own (s := t) (c := c)
  have hmono : ∀ d, ¬faultsAfter w d (Function.update n c (n c + 1) d) → ¬faultsAfter w d (n d) := fun d hnot => by
    by_cases hd : d = c
    · subst hd
      rw [Function.update_self, hsucc] at hnot
      exact fun hb => hnot (.inl hb)
    · rwa [Function.update_of_ne hd] at hnot
  refine ⟨(errorEvent_only c t).tables.trans h.tables, fun d => ?_, fun d => ?_, fun d => ?_, fun d hnot hpolicy => ?_⟩
  all_goals by_cases hd : d = c
  · rw [hd, Function.update_self, herrors, h.errors, erred_succ]
  · obtain ⟨hsame, -⟩ := errorEvent_other (s := t) hd
    rw [Function.update_of_ne hd, hsame, h.errors]
  · rw [hd, Function.update_self, hfaulted, h.faulted, hsucc, or_assoc]
  · obtain ⟨-, hsame, -⟩ := errorEvent_other (s := t) hd
    rw [Function.update_of_ne hd, hsame, h.faulted]
  · rw [hd, Function.update_self, hsucc]
    by_cases hnow : errorFaults t (chan t c)
    · exact fun _ => hcause hnow
    · obtain ⟨hcounted, -⟩ := errorEvent_channels_of_counted hnow
      rw [hcounted]
      exact fun hb => h.cause c (hb.resolve_right hnow)
  · obtain ⟨-, -, hsame⟩ := errorEvent_other (s := t) hd
    rw [Function.update_of_ne hd]
    exact fun hf => by rw [hsame (.inl ((h.faulted d).mpr (.inr hf))), h.cause d hf]
  · subst hd
    have hbefore := h.calm d (hmono d hnot) (hpolicy.imp_right fun hall e => hmono e (hall e))
    rw [Function.update_self, hsucc, not_or] at hnot
    obtain ⟨hcounted, -⟩ := errorEvent_channels_of_counted hnot.2
    rw [hcounted, erredRecord, h.errors, ← erred_succ, hbefore, Function.update_self]
  · obtain ⟨-, -, hsame⟩ := errorEvent_other (s := t) hd
    have hcase : ¬errorFaults t (chan t c) ∨ t1PolicyAll t.tables.t1 = false := by
      rw [h.tables]
      refine hpolicy.symm.imp_left fun hall hnow => hall c ?_
      rw [Function.update_self, hsucc]
      exact .inr hnow
    rw [hsame (.inr hcase), Function.update_of_ne hd]
    exact h.calm d (hmono d hnot) (hpolicy.imp_right fun hall e => hmono e (hall e))

end Event

/-! ### One position -/

/-- The channel that serves a position (R37, R111). -/
def servedBy (w : State) (p : Position) : Option Channel := servingChannel w (positionGroup w p) (positionSide p)

/-- A position gives a drag event of a channel. -/
abbrev dragsAt (w : State) (p : Position) (c : Channel) : Prop := dragConditions w p = true ∧ servedBy w p = some c

/-- The record of a position with a drag event. -/
def draggedRecord (w : State) (r : TyreRec) : TyreRec := { r with lastDrag := some w.timeBase }

/-- The alerts after the check of a position for drag, but for those of the error event. -/
def dragRaised (w : State) (a : Alerts) (p : Position) : Alerts :=
  match servedBy w p with
  | some c => if dragConditions w p then raisedAt w w.timeBase .brakeDrag ⟨.channel, c.val + 1⟩ p.val a else a
  | none => a

theorem dragRaised_of_drag {w : State} {p : Position} {c : Channel} (h : dragsAt w p c) (a : Alerts) :
    dragRaised w a p = raisedAt w w.timeBase .brakeDrag ⟨.channel, c.val + 1⟩ p.val a := by
  rw [dragRaised, h.2]
  exact if_pos h.1

theorem dragRaised_of_none {w : State} {p : Position} (h : ∀ c, ¬dragsAt w p c) (a : Alerts) : dragRaised w a p = a := by
  unfold dragRaised
  split
  · next c hc => exact if_neg fun hcond => h c ⟨hcond, hc⟩
  · rfl

theorem checkDrag_of_drag {s : State} {p : Position} {c : Channel} (h : dragsAt s p c) : checkDrag s p =
    (raiseAlert .brakeDrag (channelSubject c) p.val (errorEvent c s)).onTyre p (draggedRecord s) := by
  unfold checkDrag
  rw [show servingChannel s (positionGroup s p) (positionSide p) = some c from h.2]
  exact if_pos h.1

theorem checkDrag_of_none {s : State} {p : Position} (h : ∀ c, ¬dragsAt s p c) : checkDrag s p = s := by
  unfold checkDrag
  split
  · next c hc => exact if_neg fun hcond => h c ⟨hcond, hc⟩
  · rfl

/-! ### All positions -/

/-- The number of drag events of a channel in a list of positions. -/
def dragCount (w : State) (l : List Position) (c : Channel) : Nat := (l.filter fun p => decide (dragsAt w p c)).length

theorem dragCount_pos {w : State} {l : List Position} {c : Channel} : 0 < dragCount w l c ↔ ∃ p ∈ l, dragsAt w p c := by
  simp [dragCount, List.length_pos_iff_exists_mem]

theorem dragCount_append {w : State} {l : List Position} {p : Position} {c : Channel} :
    dragCount w (l ++ [p]) c = dragCount w l c + if dragsAt w p c then 1 else 0 := by
  rw [dragCount, List.filter_append, List.length_append, dragCount, List.filter_singleton]
  by_cases h : dragsAt w p c
  · rw [if_pos h, decide_eq_true h]
    rfl
  · rw [if_neg h, decide_eq_false h]
    rfl

/-- What the check for drag of a list of positions makes of a state. -/
structure ChecksDrag (w : State) (l : List Position) (t : State) : Prop where
  frame : ChangesOnly [.tyres, .arbiter, .alerts, .mgmt, .store] w t
  tyres : t.tyres = { w.tyres with records := t.tyres.records }
  records : ∀ p, tyre t p = if p ∈ l ∧ ∃ c, dragsAt w p c then draggedRecord w (tyre w p) else tyre w p
  events : TakesEvents w (dragCount w l) t
  quiet : (∀ c, ¬faultsAfter w c (dragCount w l c)) →
    t.store = w.store ∧ t.mgmt = w.mgmt ∧ t.alerts = l.foldl (dragRaised w) w.alerts

section Step

variable {w t : State} {l : List Position} {p : Position} (h : ChecksDrag w l t) (hp : p ∉ l)

include h hp

theorem ChecksDrag.untouched : tyre t p = tyre w p := by rw [h.records, if_neg fun hin => hp hin.1]

theorem ChecksDrag.dragsAt_iff (c : Channel) : dragsAt t p c ↔ dragsAt w p c := by
  have hclock : t.timeBase = w.timeBase := h.frame .clock (by decide)
  have htables : t.tables = w.tables := h.frame .tables (by decide)
  have hrun : t.tyres.zeroRun = w.tyres.zeroRun := (congrArg Tyres.zeroRun h.tyres :)
  have hspeed : vehicleSpeed t = vehicleSpeed w := by
    simp only [vehicleSpeed, wheel, reading_congr (show t.sample = w.sample from h.frame .sample (by decide))]
  have hserved : servedBy t p = servedBy w p := by
    simp only [servedBy, servingChannel, assigned, positionGroup, htables]
  rw [dragsAt, dragConditions, h.untouched hp, hclock, hrun, hspeed, hserved, dragsAt, dragConditions]

theorem ChecksDrag.rests (hnone : ∀ c, ¬dragsAt w p c) : ChecksDrag w (l ++ [p]) t := by
  have hcount : dragCount w (l ++ [p]) = dragCount w l := by
    funext c
    rw [dragCount_append, if_neg (hnone c), Nat.add_zero]
  exact {
    frame := h.frame
    tyres := h.tyres
    records := fun q => by
      rw [h.records]
      by_cases hq : q = p
      · subst hq
        rw [if_neg fun hin => hp hin.1, if_neg fun ⟨_, c, hc⟩ => hnone c hc]
      · simp [hq]
    events := hcount ▸ h.events
    quiet := fun hcalm => by
      rw [List.foldl_append, List.foldl_cons, List.foldl_nil, dragRaised_of_none hnone]
      exact h.quiet (hcount ▸ hcalm) }

theorem ChecksDrag.drags {c : Channel} (hdrag : dragsAt w p c) : ChecksDrag w (l ++ [p]) (checkDrag t p) := by
  have hclock : t.timeBase = w.timeBase := h.frame .clock (by decide)
  have honly : ∀ d, dragsAt w p d → d = c := fun d hd => Option.some.inj (hd.2.symm.trans hdrag.2)
  have hcount : dragCount w (l ++ [p]) = Function.update (dragCount w l) c (dragCount w l c + 1) := by
    funext d
    rw [dragCount_append]
    by_cases hd : d = c
    · rw [hd, if_pos hdrag, Function.update_self]
    · rw [if_neg fun hd' => hd (honly d hd'), Function.update_of_ne hd, Nat.add_zero]
  rw [checkDrag_of_drag ((h.dragsAt_iff hp c).mpr hdrag)]
  have hevent : ChangesOnly [.arbiter, .alerts, .mgmt, .store] t (errorEvent c t) := errorEvent_touches t c
  have hraise := raiseAlert_touches (errorEvent c t) .brakeDrag (channelSubject c) p.val
  have htable : (raiseAlert .brakeDrag (channelSubject c) p.val (errorEvent c t)).tyres = t.tyres :=
    (hraise.tyreTable (by decide)).trans (hevent.tyreTable (by decide))
  exact {
    frame := h.frame.andThen (((hevent.within (by decide)).andThen (hraise.within (by decide))).andThen
      ((onTyre_touches _ p _).within (by decide)))
    tyres := by rw [onTyre_tyres, htable, h.tyres]
    records := fun q => by
      by_cases hq : q = p
      · subst hq
        rw [tyre_onTyre_same, if_pos ⟨by simp, c, hdrag⟩, tyre, htable]
        show draggedRecord t (tyre t q) = _
        rw [h.untouched hp, draggedRecord, hclock, draggedRecord]
      · rw [tyre_onTyre_other hq, tyre, htable]
        show tyre t q = _
        rw [h.records]
        simp [hq]
    events := by
      rw [hcount]
      refine h.events.event.of_channels (hraise .tables (by decide)) fun d => ?_
      exact chan_frame hraise (by decide) d
    quiet := fun hcalm => by
      have hsucc := h.events.faultsAfter_succ (c := c)
      have hbefore : ∀ d, ¬faultsAfter w d (dragCount w l d) := fun d hd => by
        refine hcalm d ?_
        rw [hcount]
        by_cases hdc : d = c
        · rw [hdc, Function.update_self, hsucc]
          exact .inl (hdc ▸ hd)
        · rwa [Function.update_of_ne hdc]
      have hnot : ¬errorFaults t (chan t c) := fun hnow => hcalm c (by
        rw [hcount, Function.update_self, hsucc]
        exact .inr hnow)
      obtain ⟨hstore, hmgmt, halerts⟩ := h.quiet hbefore
      rw [errorEvent_of_counted hnot, List.foldl_append, ← halerts, List.foldl_cons, List.foldl_nil,
        dragRaised_of_drag hdrag, ← raisedAt_congr hclock, ← hclock]
      exact ⟨hstore, hmgmt, rfl⟩ }

end Step

theorem checkDrag_all (w : State) : ChecksDrag w allPositions (allPositions.foldl checkDrag w) := by
  refine foldl_upTo (P := ChecksDrag w) (fun l p t hp h => ?_) allPositions_nodup ?_
  · by_cases hdrag : ∃ c, dragsAt w p c
    · obtain ⟨c, hc⟩ := hdrag
      exact h.drags hp hc
    · have hnone := not_exists.mp hdrag
      rw [checkDrag_of_none fun c => mt (h.dragsAt_iff hp c).mp (hnone c)]
      exact h.rests hp hnone
  · exact ⟨ChangesOnly.nothing _ w, rfl, fun p => (if_neg fun hin => List.not_mem_nil hin.1).symm, .none w,
      fun _ => ⟨rfl, rfl, rfl⟩⟩

end Sys2Proof.Machine
end

section
/-! CHECK_TIMER_EXPIRY as a whole (R112, R121 to R124): the check for LOST, and after it the check for drag. -/

namespace Sys2Proof.Machine

open Sys2Proof

/-! ### The state in which the positions are checked for drag -/

/-- The timer restarted, and the zero-demand run ended by a demand above 0. -/
def checkStarted (s : State) : State := s.onTyres fun t =>
  { t with checkStart := s.timeBase, zeroRun := if demandLevel s = 0 then t.zeroRun else none }

theorem endZeroRun_eq (s : State) : endZeroRun (s.onTyres fun t => { t with checkStart := s.timeBase }) = checkStarted s := by
  unfold endZeroRun checkStarted
  have hdemand : demandLevel (s.onTyres fun t => { t with checkStart := s.timeBase }) = demandLevel s := rfl
  rw [hdemand]
  by_cases h : demandLevel s = 0
  · simp only [if_neg (fun hpos : 0 < demandLevel s => hpos.ne' h), if_pos h]
  · simp only [if_pos (Nat.pos_of_ne_zero h), if_neg h]
    rfl

/-- The state after the check for LOST, with the old last drag times ended. -/
def beforeDrag (s : State) : State := ageDrags (allPositions.foldl checkLost (checkStarted s))

theorem checkTimerExpiry_of_due {s : State} (h : 1000 ≤ (s.timeBase - s.tyres.checkStart).toNat) :
    checkTimerExpiry s = allPositions.foldl checkDrag (beforeDrag s) := by
  rw [beforeDrag, ← endZeroRun_eq]
  exact if_pos ((reached_iff _ _ _).mpr h)

theorem checkTimerExpiry_of_early {s : State} (h : (s.timeBase - s.tyres.checkStart).toNat < 1000) :
    checkTimerExpiry s = s := if_neg (Bool.eq_false_iff.mp ((reached_false_iff _ _ _).mpr h))

theorem tyre_ageDrags (t : State) (p : Position) : tyre (ageDrags t) p = { tyre t p with
    lastDrag := if runLasted t.timeBase (tyre t p).lastDrag 60000 then none else (tyre t p).lastDrag } :=
  gridGet_map _ t.tyres.records p

/-- A record before the check for drag. -/
def agedRecord (s : State) (p : Position) : TyreRec := { checkedRecord s p with
  lastDrag := if runLasted s.timeBase (tyre s p).lastDrag 60000 then none else (tyre s p).lastDrag }

theorem checkedRecord_eq (s : State) (p : Position) : checkedRecord s p =
    { tyre s p with state := if goesLost s p then .lost else (tyre s p).state } := by
  unfold checkedRecord
  split <;> rfl

/-- What the check of all positions for LOST leaves for the check for drag. -/
structure ReadyForDrag (s w : State) : Prop where
  frame : ChangesOnly [.tyres, .alerts] s w
  tyres : w.tyres = { s.tyres with
    checkStart := s.timeBase
    zeroRun := if demandLevel s = 0 then s.tyres.zeroRun else none
    records := w.tyres.records
    derates := w.tyres.derates }
  records : ∀ p, tyre w p = agedRecord s p
  alerts : w.alerts = allPositions.foldl (lostRaised s) s.alerts
  quiet : (∀ p, ¬goesLost s p) → w.tyres.derates = s.tyres.derates
  derated : (∃ p, goesLost s p) → w.tyres.derates = deratesOf w

theorem beforeDrag_ready (s : State) : ReadyForDrag s (beforeDrag s) := by
  have h := checkLost_all (checkStarted s)
  have hclock : (allPositions.foldl checkLost (checkStarted s)).timeBase = s.timeBase := h.frame .clock (by decide)
  unfold beforeDrag
  generalize allPositions.foldl checkLost (checkStarted s) = t at h hclock
  have hrecord : ∀ p, tyre (ageDrags t) p = agedRecord s p := fun p => by
    have hchecked : tyre t p = checkedRecord s p := (h.records p).trans (if_pos (mem_allPositions p))
    rw [tyre_ageDrags, hchecked, hclock, agedRecord, checkedRecord_eq]
  exact {
    frame := (((onTyres_touches s _).within (by decide)).andThen h.frame).andThen ((onTyres_touches t _).within (by decide))
    tyres := by
      show { t.tyres with records := (ageDrags t).tyres.records } = _
      rw [h.tyres]
      rfl
    records := hrecord
    alerts := h.alerts
    quiet := fun hall => h.quiet fun p _ => hall p
    derated := fun ⟨p, hp⟩ => (h.derated ⟨p, mem_allPositions p, hp⟩).trans
      (deratesOf_congr (s := ageDrags t) (t := t) rfl fun q => by
        rw [tyre_ageDrags]) }

/-! ### The drag events, said of the state before the check -/

theorem any_past (now : Stamp) (run : Option Stamp) (ms : Nat) :
    (run.any fun x => decide (ms ≤ (now - x).toNat)) = runLasted now run ms := by
  cases run <;> rfl

/-- A channel of the group side of a position. -/
abbrev servesPosition (t1 : Table) (p : Position) (c : Channel) : Prop :=
  t1Assigned t1 c = true ∧ t1Group t1 c = t1AxleGroup t1 (p.val / 4) ∧
    t1Side t1 c = if p.val % 4 < 2 then Side.left else Side.right

theorem servedBy_iff (s : State) (p : Position) (c : Channel) : servedBy s p = some c ↔
    servesPosition s.tables.t1 p c ∧ ∀ d, d < c → ¬servesPosition s.tables.t1 p d := by
  have hserves : ∀ d, (assigned s d && (t1Group s.tables.t1 d == positionGroup s p) &&
      (t1Side s.tables.t1 d == positionSide p)) = true ↔ servesPosition s.tables.t1 p d := fun d => by
    rw [Bool.and_eq_true, Bool.and_eq_true, beq_iff_eq, beq_iff_eq, positionSide_eq, and_assoc]
    rfl
  have hleast := find?_least (l := allChannels) (by decide) mem_allChannels (k := c) (f := fun d =>
    assigned s d && (t1Group s.tables.t1 d == positionGroup s p) && (t1Side s.tables.t1 d == positionSide p))
  simp only [hserves, ← Bool.not_eq_true] at hleast
  exact hleast

section Ready

variable {s w : State} (h : ReadyForDrag s w)

include h

theorem ReadyForDrag.state (p : Position) : (tyre w p).state = if goesLost s p then .lost else (tyre s p).state := by
  rw [h.records, agedRecord, checkedRecord_eq]

theorem ReadyForDrag.lost_iff (p : Position) :
    (tyre s p).state ≠ .lost ∧ (tyre w p).state = .lost ↔ goesLost s p := by
  rw [h.state]
  split
  · next hlost => exact ⟨fun _ => hlost, fun _ => ⟨hlost.2.2.1, rfl⟩⟩
  · next hnot => exact ⟨fun hsame => absurd hsame.2 hsame.1, fun hlost => absurd hlost hnot⟩

theorem ReadyForDrag.lastDrag (p : Position) : (tyre w p).lastDrag =
    if runLasted s.timeBase (tyre s p).lastDrag 60000 then none else (tyre s p).lastDrag := by
  rw [h.records, agedRecord]

theorem ReadyForDrag.clock : w.timeBase = s.timeBase := h.frame .clock (by decide)

theorem ReadyForDrag.tables : w.tables = s.tables := h.frame .tables (by decide)

theorem ReadyForDrag.zeroRun : w.tyres.zeroRun = if demandLevel s = 0 then s.tyres.zeroRun else none :=
  (congrArg Tyres.zeroRun h.tyres :)

theorem ReadyForDrag.dragConditions_iff (p : Position) : dragConditions w p = true ↔ (tyre s p).state = .hot ∧
    ¬goesLost s p ∧ demandLevel s = 0 ∧ runLasted s.timeBase s.tyres.zeroRun 30000 = true ∧
    ((vehicleSpeed s).any fun v => decide (500 ≤ v)) = true ∧
    ((tyre s p).lastDrag = none ∨ runLasted s.timeBase (tyre s p).lastDrag 60000 = true) := by
  have hhot : (tyre w p).state = .hot ↔ (tyre s p).state = .hot ∧ ¬goesLost s p := by
    rw [h.state]
    split
    · next hlost => exact ⟨nofun, fun hh => absurd hlost hh.2⟩
    · next hnot => exact ⟨fun hh => ⟨hh, hnot⟩, And.left⟩
  have hrun : runLasted s.timeBase w.tyres.zeroRun 30000 = true ↔
      demandLevel s = 0 ∧ runLasted s.timeBase s.tyres.zeroRun 30000 = true := by
    rw [h.zeroRun]
    split
    · next hzero => exact ⟨fun hh => ⟨hzero, hh⟩, And.right⟩
    · next hpos => exact ⟨nofun, fun hh => absurd hh.1 hpos⟩
  have hspeed : atLeast (vehicleSpeed w) 500 = ((vehicleSpeed s).any fun v => decide (500 ≤ v)) := by
    have hsame : vehicleSpeed w = vehicleSpeed s := by
      simp only [vehicleSpeed, wheel, reading_congr (show w.sample = s.sample from h.frame .sample (by decide))]
    rw [hsame]
    cases vehicleSpeed s <;> rfl
  have hdrag : (tyre w p).lastDrag.isNone = true ↔
      (tyre s p).lastDrag = none ∨ runLasted s.timeBase (tyre s p).lastDrag 60000 = true := by
    rw [h.lastDrag, Option.isNone_iff_eq_none]
    split
    · next hold => exact ⟨fun _ => .inr hold, fun _ => rfl⟩
    · next hnew => exact ⟨.inl, fun hh => hh.resolve_right hnew⟩
  simp only [dragConditions, Bool.and_eq_true, beq_iff_eq, h.clock, hhot, hrun, hspeed, hdrag, and_assoc]

theorem ReadyForDrag.dragsAt_iff (p : Position) (c : Channel) : dragsAt w p c ↔ (tyre s p).state = .hot ∧
    ¬goesLost s p ∧ demandLevel s = 0 ∧ runLasted s.timeBase s.tyres.zeroRun 30000 = true ∧
    ((vehicleSpeed s).any fun v => decide (500 ≤ v)) = true ∧
    ((tyre s p).lastDrag = none ∨ runLasted s.timeBase (tyre s p).lastDrag 60000 = true) ∧
    servesPosition s.tables.t1 p c ∧ ∀ d, d < c → ¬servesPosition s.tables.t1 p d := by
  rw [dragsAt, h.dragConditions_iff, servedBy_iff, h.tables]
  simp only [and_assoc]

end Ready

/-! ### The timer's expiry -/

section Expiry

variable {s w t : State}

theorem ChecksDrag.record (k : ChecksDrag w allPositions t) (p : Position) :
    tyre t p = if ∃ c, dragsAt w p c then draggedRecord w (tyre w p) else tyre w p := by
  simp only [k.records, mem_allPositions, true_and]

theorem ChecksDrag.keeps (k : ChecksDrag w allPositions t) (p : Position) : (tyre t p).state = (tyre w p).state ∧
    (tyre t p).history = (tyre w p).history ∧ (tyre t p).gauge = (tyre w p).gauge := by
  rw [k.record]
  split
  · exact ⟨rfl, rfl, rfl⟩
  · exact ⟨rfl, rfl, rfl⟩

theorem ChecksDrag.derates (k : ChecksDrag w allPositions t) : t.tyres.derates = w.tyres.derates :=
  (congrArg Tyres.derates k.tyres :)

variable (h : ReadyForDrag s w) (k : ChecksDrag w allPositions t)

include h k

theorem ReadyForDrag.tyres_checked : t.tyres.checkStart = s.timeBase ∧ t.tyres.map = s.tyres.map ∧
    t.tyres.zeroRun = if demandLevel s = 0 then s.tyres.zeroRun else none := by
  rw [k.tyres, h.tyres]
  exact ⟨rfl, rfl, rfl⟩

theorem ReadyForDrag.derates_of_lost (hlost : ∃ p, goesLost s p) : t.tyres.derates = deratesOf t :=
  (k.derates.trans (h.derated hlost)).trans (deratesOf_congr (k.frame .tables (by decide)) fun p => (k.keeps p).1).symm

/-! The alerts of a check, where no channel goes to FAULTED. -/

variable (hcalm : ∀ c, ¬faultsAfter w c (dragCount w allPositions c))

include hcalm

theorem ReadyForDrag.alerts_checked :
    t.alerts = allPositions.foldl (dragRaised w) (allPositions.foldl (lostRaised s) s.alerts) := by
  obtain ⟨-, -, halerts⟩ := k.quiet hcalm
  rw [halerts, h.alerts]

theorem ReadyForDrag.alerts_without_drag (hdrag : ∀ p c, ¬dragsAt w p c) :
    t.alerts = allPositions.foldl (lostRaised s) s.alerts := by
  rw [h.alerts_checked k hcalm, foldl_resting fun p _ a => dragRaised_of_none (hdrag p) a]

theorem ReadyForDrag.alerts_of_nothing (hlost : ∀ p, ¬goesLost s p) (hdrag : ∀ p c, ¬dragsAt w p c) :
    t.alerts = s.alerts := by
  rw [h.alerts_without_drag k hcalm hdrag, foldl_resting fun p _ a => lostRaised_of_heard (hlost p) a]

theorem ReadyForDrag.alerts_of_lost {p : Position} (hlost : goesLost s p) (honly : ∀ j, j ≠ p → ¬goesLost s j)
    (hdrag : ∀ j c, ¬dragsAt w j c) :
    t.alerts = raisedAt s s.timeBase .tyreLost ⟨.tyre, p.val⟩ ((tyre s p).gauge.getD 0) s.alerts := by
  rw [h.alerts_without_drag k hcalm hdrag,
    foldl_for_one allPositions_nodup (mem_allPositions p) fun j hj a => lostRaised_of_heard (honly j hj) a,
    lostRaised_of_silent hlost]

theorem ReadyForDrag.alerts_of_drag {p : Position} {c : Channel} (hdrag : dragsAt w p c) (hlost : ∀ j, ¬goesLost s j)
    (honly : ∀ j d, dragsAt w j d → j = p) :
    t.alerts = raisedAt s s.timeBase .brakeDrag ⟨.channel, c.val + 1⟩ p.val s.alerts := by
  rw [h.alerts_checked k hcalm, foldl_resting fun j _ a => lostRaised_of_heard (hlost j) a,
    foldl_for_one allPositions_nodup (mem_allPositions p) fun j hj a =>
      dragRaised_of_none (fun d hd => hj (honly j d hd)) a,
    dragRaised_of_drag hdrag, raisedAt_congr h.clock, h.clock]

end Expiry

end Sys2Proof.Machine
end

section
/-! O31: silent positions, the zero-demand run and brake drag (R121 to R124). -/

namespace Sys2Proof.Machine

open Sys2Proof

/-- Settles O31: the tyre table's step on a set is an equation of the model, a set hands the table a demand on the link's
side of zero, and CHECK_TIMER_EXPIRY is the run of the LOST checks followed by the run of the drag checks. -/
theorem silentPositionsGoLost : Obligations.SilentPositionsGoLost := by
  refine ⟨tyresTakeSet_eq, fun s bytes hset => ?_, fun s hpow => ⟨fun hearly => ?_, fun hdue => ?_⟩⟩
  · obtain ⟨t, hexec, htyres, hcalm, hbrakes⟩ := acceptedSet_tyres hset
    exact ⟨t, hexec, htyres, hcalm, fun hpos helectric hdemand => hbrakes hpos ⟨helectric, hdemand⟩⟩
  · rw [exec_powered rfl hpow, checkTimerExpiry_of_early hearly]
  · refine ⟨checkTimerExpiry s, exec_powered rfl hpow, ?_⟩
    have hframe := checkTimerExpiry_touches s
    have h := beforeDrag_ready s
    have k := checkDrag_all (beforeDrag s)
    rw [← checkTimerExpiry_of_due hdue] at k
    generalize checkTimerExpiry s = t at hframe k ⊢
    generalize beforeDrag s = w at h k
    have htables : w.tables = s.tables := h.tables
    obtain ⟨hstart, hmap, hzero⟩ := h.tyres_checked k
    have hstate : ∀ p, (tyre t p).state = if goesLost s p then .lost else (tyre s p).state := fun p =>
      (k.keeps p).1.trans (h.state p)
    refine ⟨hstart, hmap, hstate, fun p => ?_, ?_, hframe⟩
    · obtain ⟨-, hhistory, hgauge⟩ := k.keeps p
      rw [hhistory, hgauge, h.records, agedRecord, checkedRecord_eq]
      exact ⟨rfl, rfl⟩
    intro t1 now past lost side served drags errors faults
    have hpast : ∀ x ms, past x ms = runLasted s.timeBase x ms := any_past s.timeBase
    have hlost : ∀ p, lost p ↔ goesLost s p := fun p => by
      show _ ∧ (tyre t p).state = .lost ↔ _
      rw [(k.keeps p).1]
      exact h.lost_iff p
    have hdrags : ∀ p c, drags p c ↔ dragsAt w p c := fun p c => by
      show _ ∧ ¬lost p ∧ _ ∧ past _ _ = true ∧ _ ∧ (_ ∨ past _ _ = true) ∧ _ ↔ _
      rw [h.dragsAt_iff, hlost, hpast, hpast]
    have hcount : ∀ c, (allPositions.filter fun p => decide (drags p c)).length = dragCount w allPositions c := fun c =>
      congrArg List.length (List.filter_congr fun p _ => decide_eq_decide.mpr (hdrags p c))
    have hany : ∀ c, (∃ p, drags p c) ↔ 0 < dragCount w allPositions c := fun c => by
      simp only [hdrags, dragCount_pos, mem_allPositions, true_and]
    have hchan : ∀ c, chan w c = chan s c := chan_frame h.frame (by decide)
    have herrors : ∀ c, errors c = erred (chan w c).errors (dragCount w allPositions c) := fun c => by
      show (if ∃ p, drags p c then min (_ + (allPositions.filter fun p => decide (drags p c)).length) 15 else _) = _
      rw [hcount, hchan, erred]
      by_cases hsome : ∃ p, drags p c
      · rw [if_pos hsome, if_neg ((hany c).mp hsome).ne']
      · rw [if_neg hsome, if_pos (Nat.eq_zero_of_not_pos (mt (hany c).mpr hsome))]
    have hfaults : ∀ c, faults c ↔ faultsAfter w c (dragCount w allPositions c) := fun c => by
      show _ ∧ (∃ p, drags p c) ∧ _ ≤ errors c ↔ _
      rw [hany, herrors, faultsAfter, hchan, htables]
    simp only [hlost, hdrags, hfaults, herrors, hpast]
    refine ⟨hzero, fun p => ?_, fun c => ⟨k.events.errors c, fun hf => ?_, fun hnot hcase => ?_⟩, fun hnone => ?_,
      fun hsome g sd => ?_, fun hcalm => ⟨?_, ?_, h.alerts_of_nothing k hcalm, fun p => h.alerts_of_lost k hcalm,
      fun p c => h.alerts_of_drag k hcalm⟩⟩
    · rw [k.record]
      by_cases hsome : ∃ c, dragsAt w p c
      · rw [if_pos hsome, if_pos hsome, draggedRecord, h.clock]
      · rw [if_neg hsome, if_neg hsome, h.lastDrag]
    · exact ⟨(k.events.faulted c).mpr (.inr hf), k.events.cause c hf⟩
    · rw [k.events.calm c hnot (htables ▸ hcase), hchan]
    · rw [k.derates, h.quiet hnone]
    · have hside := sidesGet_deratesOf t g sd
      rwa [← h.derates_of_lost k hsome, k.events.tables.trans htables] at hside
    · obtain ⟨hstore, -, -⟩ := k.quiet hcalm
      exact hstore.trans (h.frame .store (by decide))
    · obtain ⟨-, hmgmt, -⟩ := k.quiet hcalm
      exact hmgmt.trans (h.frame .mgmt (by decide))

end Sys2Proof.Machine
end

section
/-! The frames the link engine offers rearward on its timer (R142), and what a rear hand-over makes of the oldest item
queued (R143, R155). -/

namespace Sys2Proof.Machine

open Sys2Proof

/-! ### Fill and substitute frames (R142) -/

section Rearward

variable {s : State}

theorem offerFill_eq (s : State) : offerFill s = { s with
    link := { s.link with fillCount := s.link.fillCount + 1, fills := min (s.link.fills + 1) 65535 }
    relay := offerRear (.demand (chainPosition s) (s.link.lastSeq.getD 0) true s.link.subReceived) s.relay } := rfl

theorem offerSubstitute_of_valid (h : inputValid s inputControl = true) : offerSubstitute s = { s with
    link := { s.link with subSeq := (s.link.subSeq + 1) % 16, subs := min (s.link.subs + 1) 65535 }
    relay := offerRear (.demand (chainPosition s) s.link.subSeq false true) s.relay } := if_pos h

theorem offerSubstitute_of_invalid (h : inputValid s inputControl = false) : offerSubstitute s =
    { s with link := { s.link with subsSkipped := min (s.link.subsSkipped + 1) 65535 } } :=
  if_neg (by rw [h]; exact Bool.false_ne_true)

theorem sendRearward_of_stale (h : s.link.state = .stale) : sendRearward s = offerFill s := by rw [sendRearward, h]

theorem sendRearward_of_lost (h : s.link.state = .lost) : sendRearward s = offerSubstitute s := by rw [sendRearward, h]

/-! ### REARWARD_TIMER_EXPIRY -/

/-- The rearward timer restarted (R142). -/
def rearwardRestarted (s : State) : State := s.onLink fun l => { l with rearwardTimer := some s.timeBase }

theorem rearwardTimerExpiry_of_none (h : s.link.rearwardTimer = none) : rearwardTimerExpiry s = s := by
  rw [rearwardTimerExpiry, h]
  rfl

theorem rearwardTimerExpiry_of_early {start : Stamp} (h : s.link.rearwardTimer = some start)
    (hearly : (s.timeBase - start).toNat < 10) : rearwardTimerExpiry s = s := by
  rw [rearwardTimerExpiry, h, runLasted_some, (reached_false_iff _ _ _).mpr hearly]
  rfl

theorem rearwardTimerExpiry_of_due {start : Stamp} (h : s.link.rearwardTimer = some start)
    (hdue : 10 ≤ (s.timeBase - start).toNat) :
    rearwardTimerExpiry s = sendRearward (rearwardRestarted s) := by
  rw [rearwardTimerExpiry, h, runLasted_some, (reached_iff _ _ _).mpr hdue]
  rfl

end Rearward

/-- Settles O37: a timer that has run its 10 ms restarts, and the engine then acts on its demand state. -/
theorem rearwardTimerSendsFillsAndSubstitutes : Obligations.RearwardTimerSendsFillsAndSubstitutes := by
  intro s hpowered
  have hexec : exec .rearwardTimerExpiry s = .next (rearwardTimerExpiry s) := exec_powered rfl hpowered
  refine ⟨fun hnone => ?_, fun start hstart => ⟨fun hearly => ?_, fun hdue hstale => ?_, fun hdue hlost hvalid => ?_,
    fun hdue hlost hinvalid => ?_⟩⟩
  · rw [hexec, rearwardTimerExpiry_of_none hnone]
  · rw [hexec, rearwardTimerExpiry_of_early hstart hearly]
  · rw [hexec, rearwardTimerExpiry_of_due hstart hdue, sendRearward_of_stale (s := rearwardRestarted s) hstale, offerFill_eq]
    rfl
  · rw [hexec, rearwardTimerExpiry_of_due hstart hdue, sendRearward_of_lost (s := rearwardRestarted s) hlost,
      offerSubstitute_of_valid (s := rearwardRestarted s) hvalid]
    rfl
  · rw [hexec, rearwardTimerExpiry_of_due hstart hdue, sendRearward_of_lost (s := rearwardRestarted s) hlost,
      offerSubstitute_of_invalid (s := rearwardRestarted s) hinvalid]
    rfl

/-! ### The frame of a DEMAND item (R143, 12.1) -/

theorem dataWord_demandPayload {value : Nat} (h : value ≤ 65535) (seq : Nat) (stale raised substitute : Bool) :
    dataWord (demandPayload value seq stale raised substitute) 0 = value := dataWord_wordBytes value h _

theorem dataByte_demandPayload {seq : Nat} (h : seq ≤ 255) (value : Nat) (stale raised substitute : Bool) :
    dataByte (demandPayload value seq stale raised substitute) 2 = seq :=
  (BitVec.toNat_ofNat seq 8).trans (Nat.mod_eq_of_lt (Nat.lt_succ_of_le h))

/-- STALE, RAISED and SUBSTITUTE are bits 0 to 2 of the last byte. -/
theorem dataBit_demandPayload (value seq : Nat) (stale raised substitute : Bool) :
    let data := demandPayload value seq stale raised substitute
    dataBit data 3 0 = stale ∧ dataBit data 3 1 = raised ∧ dataBit data 3 2 = substitute := by
  have hflags : ∀ a b c : Bool, let flags := byteOf (a.toNat + 2 * b.toNat + 4 * c.toNat)
      flags.getLsbD 0 = a ∧ flags.getLsbD 1 = b ∧ flags.getLsbD 2 = c := by decide
  exact hflags stale raised substitute

/-! ### REAR_HANDOVER (R155) -/

section Handover

variable {s : State}

theorem rearHandover_of_resting (h : ¬rearReady s.relay = true) : rearHandover s = s := if_neg h

theorem rearHandover_of_ready {i : RearItem} {rest : List RearItem} (h : rearReady s.relay = true)
    (hq : s.relay.rearward = i :: rest) : rearHandover s =
      { s with relay := { s.relay with rearward := rest, rearTx := some ⟨i, rearFrameOf s i, false⟩ } } := by
  rw [rearHandover, if_pos h, hq]
  rfl

theorem demandLevel_le (h : s.arbiter.demand ≤ 1000) : demandLevel s ≤ 1000 := by
  unfold demandLevel
  split
  · exact Nat.zero_le _
  · exact h
  · exact h

end Handover

/-- Settles O38: a port that is ready hands over the oldest item, and a DEMAND item becomes a frame of the larger of the two
demands, which fits its word. -/
theorem rearHandoverCarriesTheDemand : Obligations.RearHandoverCarriesTheDemand := by
  intro s hpowered
  have hexec : exec .rearHandover s = .next (rearHandover s) := exec_powered rfl hpowered
  refine ⟨fun hrests => ?_, fun i rest hrear htx hisolation hqueue => ⟨rearFrameOf s i, ?_, ?_, ?_⟩⟩
  · have hnot : ¬rearReady s.relay = true := by
      rw [rearReady_iff]
      rintro ⟨hrear, htx, hisolation, hqueue⟩
      obtain h | h | h | h | h := hrests
      · simp [h] at hrear
      · simp [h] at hrear
      · exact h htx
      · exact h hisolation
      · exact hqueue h
    rw [hexec, rearHandover_of_resting hnot]
  · have hready : rearReady s.relay = true :=
      (rearReady_iff _).mpr ⟨hrear, htx, hisolation, by rw [hqueue]; exact List.cons_ne_nil _ _⟩
    rw [hexec, rearHandover_of_ready hready hqueue]
  · rintro g rfl
    rfl
  · rintro source seq stale substitute rfl ⟨-, -, hdemand, hstretch, -⟩ hsource hseq
    have hlevel : demandLevel s ≤ 1000 := demandLevel_le hdemand
    have hvalue : max (demandLevel s) s.roll.stretch ≤ 65535 := by omega
    have hword : dataWord (rearFrameOf s (.demand source seq stale substitute)).data 0 =
        max (demandLevel s) s.roll.stretch := dataWord_demandPayload hvalue _ _ _ _
    obtain ⟨hstale, hraised, hsubstitute⟩ := dataBit_demandPayload (max (demandLevel s) s.roll.stretch) seq stale
      (decide (demandLevel s < s.roll.stretch)) substitute
    refine ⟨hword, hword ▸ Nat.le_max_left _ _, ?_, rfl, dataByte_demandPayload (by omega) _ _ _ _, hstale, hsubstitute,
      rfl, frameClass_ownFrame _ _ _ _ _ _, frameDest_ownFrame _ _ _ _ _ _, ?_, framePriority_ownFrame _ _ _ _ _ _,
      frameSubcode_ownFrame _ _ _ _ _ _⟩
    · exact (congrArg (· = true) hraised).to_iff.trans decide_eq_true_iff
    · exact (frameSource_ownFrame _ _ _ _ _ _).trans (Nat.mod_eq_of_lt (Nat.lt_succ_of_le hsource))

end Sys2Proof.Machine
end

section
/-! The fail-safe state evaluated after a change of the demand state (R46, R47). -/

namespace Sys2Proof.Machine

open Sys2Proof

/-- What the evaluation of the fail-safe state makes of a state (R46, R47). Where the sample stream is lost without FS_B the
entry to FS_B ends halts as well, and what it does to the channels is left open. -/
structure EvaluatesFailSafe (s t : State) : Prop where
  frame : ChangesOnly [.arbiter, .alerts, .mgmt] s t
  arbiter : t.arbiter = { s.arbiter with channels := t.arbiter.channels, failSafe := failSafeOf s }
  capture : t.alerts.capture = s.alerts.capture
  moves : s.arbiter.failSafe = .fsB ∨ s.sample.loss ≠ .lost → ChangesOnly [.arbiter] s t ∧
    ∀ c, chan t c = if s.sample.loss = .lost then chan s c else movedOnSamples s c (chan s c)

theorem evaluateFailSafe_evaluates (s : State) : EvaluatesFailSafe s (evaluateFailSafe s) := by
  by_cases hloss : s.sample.loss = .lost
  · have hof : failSafeOf s = .fsB := if_pos hloss
    obtain ⟨harb, -, halerts, -⟩ := evaluateFailSafe_at_loss hloss
    refine ⟨evaluateFailSafe_touches s, by rw [hof, harb], ?_, fun hsafe => ?_⟩
    · obtain ⟨hfold, -⟩ := foldl_raises_capture _ (fun a c => abandonsHalt_capture s c (chan s c) a) allChannels s.alerts
      rw [halerts]
      split
      · rfl
      · exact hfold
    · have hsame : s.arbiter.failSafe = failSafeOf s := (hsafe.resolve_right (not_not.mpr hloss)).trans hof.symm
      rw [evaluateFailSafe_of_same hsame]
      exact ⟨ChangesOnly.nothing _ s, fun c => (if_pos hloss).symm⟩
  · obtain ⟨hframe, harb, hchan⟩ := evaluateFailSafe_on_samples hloss
    refine ⟨evaluateFailSafe_touches s, by rw [failSafeOf_on_samples hloss, harb], ?_, fun _ => ⟨hframe, fun c => ?_⟩⟩
    · rw [show (evaluateFailSafe s).alerts = s.alerts from hframe .alerts (by decide)]
    · rw [if_neg hloss, hchan]

end Sys2Proof.Machine
end

section
/-! DEMAND frames at the link engine: those that refresh nothing (R133, R139), and a fresh one (R138). -/

namespace Sys2Proof.Machine

open Sys2Proof

theorem exec_demandFrame {s : State} (hpowered : s.powered = true) (f : LinkFrame) :
    exec (.demandFrame f) s = .next (takeDemand f.data (frontCounted s)) :=
  exec_powered (f := fun s => takeDemand f.data (countArrival .front s)) rfl hpowered

/-! ### Judging a DEMAND frame -/

section Frame

variable {s : State} {data : List Byte}

theorem isFresh_iff (data : List Byte) (l : Link) :
    isFresh data l = true ↔ dataBit data 3 0 = false ∧ l.lastSeq ≠ some (dataByte data 2 % 16) := by
  simp [isFresh]

theorem takeDemand_of_short (h : data.length < 4) :
    takeDemand data s = s.onLink fun l => { l with malformed := min (l.malformed + 1) 65535 } := if_pos h

theorem takeDemand_of_fresh (hlen : 4 ≤ data.length) (h : isFresh data s.link = true) :
    takeDemand data s = takeFresh data s := by
  rw [takeDemand, if_neg (Nat.not_lt.mpr hlen), if_pos h]

theorem takeDemand_of_not_fresh (hlen : 4 ≤ data.length) (h : ¬isFresh data s.link = true) :
    takeDemand data s = takeStale data s := by
  rw [takeDemand, if_neg (Nat.not_lt.mpr hlen), if_neg h]

theorem takeStale_of_flag (h : dataBit data 3 0 = true) : takeStale data s = s.onLink fun l =>
    { l with lastFrame := some s.timeBase, staleFlagged := min (l.staleFlagged + 1) 65535 } := by
  rw [takeStale, h]
  rfl

theorem takeStale_of_repeat (h : dataBit data 3 0 = false) : takeStale data s = s.onLink fun l =>
    { l with lastFrame := some s.timeBase, repeats := min (l.repeats + 1) 65535 } := by
  rw [takeStale, h]
  rfl

end Frame

/-- Settles O34: a frame is judged by its length, its STALE flag and its sequence before anything is taken from it. -/
theorem otherDemandFramesRefreshNothing : Obligations.OtherDemandFramesRefreshNothing := by
  refine ⟨fun s f hpowered => ⟨fun hshort => ?_, fun hlen hflag => ?_, fun hlen hclear hseq => ?_⟩, frontAlive_iff⟩
  · rw [exec_demandFrame hpowered, takeDemand_of_short hshort]
    rfl
  · have hnot : ¬isFresh f.data (frontCounted s).link = true := by rw [isFresh_iff, hflag]; simp
    rw [exec_demandFrame hpowered, takeDemand_of_not_fresh hlen hnot, takeStale_of_flag hflag]
    rfl
  · have hnot : ¬isFresh f.data (frontCounted s).link = true := by rw [isFresh_iff]; exact fun h => h.2 hseq
    rw [exec_demandFrame hpowered, takeDemand_of_not_fresh hlen hnot, takeStale_of_repeat hclear]
    rfl

/-! ### A fresh frame (R138) -/

/-- The state with the link record of a fresh frame, and the fail-safe state evaluated where the demand state was LOST. -/
def freshEvaluated (data : List Byte) (s : State) : State :=
  let w := s.onLink (freshLink data s.timeBase)
  if s.link.state = .lost then evaluateFailSafe w else w

/-- What a fresh frame makes of the link record and of the arbiter, before the driver demand is derived (R138, R46, R47). -/
structure TakesFresh (data : List Byte) (s t : State) : Prop where
  frame : ChangesOnly [.link, .arbiter, .alerts, .mgmt] s t
  link : t.link = freshLink data s.timeBase s.link
  arbiter : t.arbiter = { s.arbiter with
    channels := t.arbiter.channels
    failSafe := if s.link.state = .lost then (if s.sample.loss = .lost then .fsB else .normal) else s.arbiter.failSafe }
  rests : s.link.state ≠ .lost → t.arbiter.channels = s.arbiter.channels
  moves : s.arbiter.failSafe = .fsB ∨ s.sample.loss ≠ .lost → ChangesOnly [.link, .arbiter] s t ∧
    ∀ c, chan t c = if s.link.state = .lost ∧ s.sample.loss ≠ .lost ∧ s.arbiter.failSafe ≠ .normal ∧
        ((chan s c).state = .hold ∨ ((chan s c).state = .backup ∧ (chan s c).reason = some .failsafe))
      then goTo .start none (chan s c) else chan s c

/-- With a fresh frame and samples arriving the fail-safe state is NORMAL, and only its row of R47 can move a channel. -/
theorem movedOnSamples_of_fresh {s : State} (h : s.link.state = .fresh) (c : Channel) (r : ChannelRec) :
    movedOnSamples s c r = if s.arbiter.failSafe ≠ .normal ∧
      (r.state = .hold ∨ (r.state = .backup ∧ r.reason = some .failsafe)) then goTo .start none r else r := by
  have hnormal : failSafeOnSamples s = .normal := by rw [failSafeOnSamples, h]; rfl
  rw [movedOnSamples_eq, hnormal, if_neg (c := _ ∧ _) (by rintro ⟨h, -⟩; exact nomatch h)]
  by_cases hsame : s.arbiter.failSafe = .normal
  · rw [if_pos hsame, if_neg fun hne => hne.1 hsame]
  · rw [if_neg hsame]
    simp only [ne_eq, hsame, not_false_eq_true, true_and]

theorem freshEvaluated_takes (data : List Byte) (s : State) : TakesFresh data s (freshEvaluated data s) := by
  have hlink : ChangesOnly [.link] s (s.onLink (freshLink data s.timeBase)) := onLink_touches s _
  unfold freshEvaluated
  dsimp only
  by_cases hlost : s.link.state = .lost
  · obtain ⟨hframe, harb, -, hmoves⟩ := evaluateFailSafe_evaluates (s.onLink (freshLink data s.timeBase))
    have hfresh := movedOnSamples_of_fresh (s := s.onLink (freshLink data s.timeBase)) rfl
    rw [if_pos hlost]
    refine ⟨(hlink.within (by decide)).andThen (hframe.within (by decide)), hframe .link (by decide), ?_,
      fun hnot => absurd hlost hnot, fun hsafe => ?_⟩
    · rw [harb, if_pos hlost]
      rfl
    · obtain ⟨honly, hchan⟩ := hmoves hsafe
      refine ⟨(hlink.within (by decide)).andThen (honly.within (by decide)), fun c => (hchan c).trans ?_⟩
      rw [hfresh]
      by_cases hloss : s.sample.loss = .lost
      · exact (if_pos hloss).trans (if_neg fun h => h.2.1 hloss).symm
      · refine (if_neg hloss).trans (if_congr ?_ rfl rfl)
        exact ⟨fun h => ⟨hlost, hloss, h⟩, fun h => h.2.2⟩
  · rw [if_neg hlost]
    exact ⟨hlink.within (by decide), rfl, by rw [if_neg hlost]; rfl, fun _ => rfl,
      fun _ => ⟨hlink.within (by decide), fun c => (if_neg fun h => hlost h.1).symm⟩⟩

theorem takeFresh_eq (data : List Byte) (s : State) : takeFresh data s =
    offerDemand (dataByte data 2 % 16) false (dataBit data 3 2) (deriveDemand (freshEvaluated data s)) := by
  have hsub : (freshEvaluated data s).link.subReceived = dataBit data 3 2 :=
    (congrArg Link.subReceived (freshEvaluated_takes data s).link :)
  rw [← hsub]
  rfl

/-- Settles O33: the link record, the fail-safe state and the demand of `TakesFresh`, and then the frame offered rearward. -/
theorem freshDemandIsTaken : Obligations.FreshDemandIsTaken := by
  intro s f hpowered hlen hclear hseq
  have hfresh : isFresh f.data (frontCounted s).link = true := (isFresh_iff _ _).mpr ⟨hclear, hseq⟩
  have htaken := freshEvaluated_takes f.data (frontCounted s)
  refine ⟨takeFresh f.data (frontCounted s), by rw [exec_demandFrame hpowered, takeDemand_of_fresh hlen hfresh], ?_⟩
  rw [takeFresh_eq]
  generalize freshEvaluated f.data (frontCounted s) = e at htaken ⊢
  obtain ⟨hframe, hlink, harb, hrests, hmoves⟩ := htaken
  have hrelay : e.relay = (frontCounted s).relay := hframe .relay (by decide)
  have hderived : derivedDemand e = (min (dataWord f.data 0) 1000, .electric) := by
    rw [derivedDemand, hlink]
    rfl
  refine ⟨hlink, ?_, ?_, hrests, fun hsafe => ?_⟩
  · show offerRear (.demand (chainPosition e) _ _ _) e.relay = _
    rw [hrelay, chainPosition, hlink]
    rfl
  · show Arbiter.mk .. = _
    rw [hderived, harb]
    rfl
  · obtain ⟨honly, hchan⟩ := hmoves hsafe
    have hcounted : ChangesOnly [.relay] s (frontCounted s) := countArrival_touches s .front
    refine ⟨?_, hchan⟩
    exact (((hcounted.within (by decide)).andThen (honly.within (by decide))).andThen
      ((deriveDemand_touches e).within (by decide))).andThen ((onRelay_touches _ _).within (by decide))

end Sys2Proof.Machine
end

section
/-! The demand timer (R140): the entry to STALE with its fill frame, and the entry to LOST (R141). -/

namespace Sys2Proof.Machine

open Sys2Proof

/-! ### The expiry -/

section Expiry

variable {s : State} {tm : Timer}

theorem demandTimerExpiry_of_none (h : s.link.demandTimer = none) : demandTimerExpiry s = s := by
  rw [demandTimerExpiry, h]
  rfl

theorem demandTimerExpiry_of_early (h : s.link.demandTimer = some tm) (hearly : (s.timeBase - tm.start).toNat < tm.bound) :
    demandTimerExpiry s = s := by
  rw [demandTimerExpiry, h, timerExpired_some, (reached_false_iff _ _ _).mpr hearly]
  rfl

theorem demandTimerExpiry_of_fresh (h : s.link.demandTimer = some tm) (hdue : tm.bound ≤ (s.timeBase - tm.start).toNat)
    (hstate : s.link.state = .fresh) : demandTimerExpiry s = enterStale s := by
  rw [demandTimerExpiry, h, timerExpired_some, (reached_iff _ _ _).mpr hdue, hstate]
  rfl

theorem demandTimerExpiry_of_overdue (h : s.link.demandTimer = some tm) (hdue : tm.bound ≤ (s.timeBase - tm.start).toNat)
    (hstate : s.link.state = .stale ∨ s.link.state = .nothing) : demandTimerExpiry s = enterLost s := by
  rw [demandTimerExpiry, h, timerExpired_some, (reached_iff _ _ _).mpr hdue]
  obtain hstate | hstate := hstate
  · rw [hstate]
    rfl
  · rw [hstate]
    rfl

end Expiry

/-! ### The entry to STALE (R140) -/

theorem enterStale_eq (s : State) : enterStale s = { s with
    link := { s.link with
      state := .stale, demandTimer := s.link.demandTimer.map fun t => { t with bound := 250 }
      rearwardTimer := some s.timeBase, fillCount := s.link.fillCount + 1, fills := min (s.link.fills + 1) 65535 }
    arbiter := { s.arbiter with demand := s.link.demand, source := .electric }
    relay := offerRear (.demand (chainPosition s) (s.link.lastSeq.getD 0) true s.link.subReceived) s.relay } := rfl

/-! ### The entry to LOST (R141) -/

/-- The link record on the entry to LOST (R141). -/
def lostLink (now : Stamp) (l : Link) : Link :=
  { l with
    state := .lost, demandTimer := none, lostEntries := min (l.lostEntries + 1) 65535, rearwardTimer := some now
    subSeq := (l.lastSeq.map fun n => (n + 1) % 16).getD 0 }

/-- DEMAND_LOST raised at the link engine (R141). -/
def demandLostAlerts (s : State) : Alerts :=
  raisedAt s s.timeBase .demandLost ⟨.block, 8⟩ (if frontAlive s then 1 else 0) s.alerts

/-- The entry up to the capture record: the link record, the raise and the record (log 18). -/
def lostNoted (s : State) : State :=
  fillCaptureBlock .demandLost (blockSubject blockLK)
    (raiseAlert .demandLost (blockSubject blockLK) (frontAlive s).toNat (s.onLink (lostLink s.timeBase)))

theorem enterLost_eq (s : State) : enterLost s = sendRearward (deriveDemand (evaluateFailSafe (lostNoted s))) := by
  have hseq : (match s.link.lastSeq with
      | some n => (n + 1) % 16
      | none => 0) = (s.link.lastSeq.map fun n => (n + 1) % 16).getD 0 := by
    cases s.link.lastSeq <;> rfl
  unfold enterLost lostNoted lostLink State.onLink
  dsimp only
  rw [← hseq]
  rfl

theorem lostNoted_parts (s : State) : ChangesOnly [.link, .alerts] s (lostNoted s) ∧
    (lostNoted s).link = lostLink s.timeBase s.link ∧
    ∃ k : Capture, (k.kind, k.subject, k.time) = (.demandLost, ⟨.block, 8⟩, s.timeBase) ∧
      (lostNoted s).alerts = captured k (demandLostAlerts s) := by
  have halive : (frontAlive s).toNat = if frontAlive s then 1 else 0 := by cases frontAlive s <;> rfl
  unfold lostNoted demandLostAlerts
  rw [← halive]
  refine ⟨?_, ?_, _, rfl, fillCapture_alerts _ _ _ _ _⟩
  · exact (((onLink_touches s _).within (by decide)).andThen ((raiseAlert_touches _ _ _ _).within (by decide))).andThen
      ((fillCaptureBlock_touches _ _ _).within (by decide))
  · exact fillCaptureBlock_touches _ _ _ .link (by decide)

/-- The driver demand in LOST is the control line's (R41). -/
theorem derivedDemand_of_lostLink {s : State} (h : s.link.state = .lost) : derivedDemand s =
    ((reading s inputControl).getD 0, if inputValid s inputControl then .controlLine else .nothing) := by
  rw [derivedDemand, h, reading]
  cases inputValid s inputControl <;> rfl

/-- A substitute frame or a substitute skipped, told of the link record and the relay. -/
theorem offerSubstitute_parts (s : State) :
    let valid := inputValid s inputControl
    (offerSubstitute s).link = { s.link with
      subSeq := if valid then (s.link.subSeq + 1) % 16 else s.link.subSeq
      subs := if valid then min (s.link.subs + 1) 65535 else s.link.subs
      subsSkipped := if valid then s.link.subsSkipped else min (s.link.subsSkipped + 1) 65535 } ∧
    (offerSubstitute s).relay =
      if valid then offerRear (.demand (chainPosition s) s.link.subSeq false true) s.relay else s.relay := by
  intro valid
  cases hvalid : valid with
  | true =>
    rw [offerSubstitute_of_valid hvalid]
    exact ⟨rfl, rfl⟩
  | false =>
    rw [offerSubstitute_of_invalid hvalid]
    exact ⟨rfl, rfl⟩

/-- In LOST with samples arriving the fail-safe state is FS_A, and its rows of R47 move the channels. -/
theorem movedOnSamples_of_lost {s : State} (h : s.link.state = .lost) (c : Channel) (r : ChannelRec) :
    movedOnSamples s c r =
      if s.arbiter.failSafe = .fsA then r
      else if t1FsaBackup s.tables.t1 c = true then
        if r.state = .active ∨ r.state = .hold ∨ (r.state = .backup ∧ r.reason = some .failsafe) then
          goTo .backup (some .failsafe) r else r
      else if r.state = .hold ∨ (r.state = .backup ∧ r.reason = some .failsafe) then goTo .start none r else r := by
  have hfsA : failSafeOnSamples s = .fsA := if_pos h
  rw [movedOnSamples_eq, hfsA]
  simp only [true_and]

/-- What the entry to LOST makes of the arbiter and the alerts before the driver demand is derived (R141, R46, R47). -/
structure EvaluatesLost (s t : State) : Prop where
  arbiter : t.arbiter =
    { s.arbiter with channels := t.arbiter.channels, failSafe := if s.sample.loss = .lost then .fsB else .fsA }
  capture : ∃ k : Capture, (k.kind, k.subject, k.time) = (.demandLost, ⟨.block, 8⟩, s.timeBase) ∧
    t.alerts.capture = some (s.alerts.capture.getD k)
  moves : s.sample.loss ≠ .lost ∨ s.arbiter.failSafe = .fsB → ChangesOnly [.link, .arbiter, .alerts] s t ∧
    t.alerts.queue = (demandLostAlerts s).queue ∧
    ∀ c, chan t c = if s.sample.loss = .lost ∨ s.arbiter.failSafe = .fsA then chan s c
      else if t1FsaBackup s.tables.t1 c = true then
        if (chan s c).state = .active ∨ (chan s c).state = .hold ∨
            ((chan s c).state = .backup ∧ (chan s c).reason = some .failsafe) then
          goTo .backup (some .failsafe) (chan s c) else chan s c
      else if (chan s c).state = .hold ∨ ((chan s c).state = .backup ∧ (chan s c).reason = some .failsafe) then
        goTo .start none (chan s c) else chan s c

theorem lostNoted_evaluates (s : State) : EvaluatesLost s (evaluateFailSafe (lostNoted s)) := by
  obtain ⟨hnoted, hlink, k, hk, halerts⟩ := lostNoted_parts s
  obtain ⟨-, hevaluated, hcapture, hmoves⟩ := evaluateFailSafe_evaluates (lostNoted s)
  have hstate : (lostNoted s).link.state = .lost := (congrArg Link.state hlink :)
  have hmoved := movedOnSamples_of_lost hstate
  generalize lostNoted s = v at *
  have harb : v.arbiter = s.arbiter := hnoted.arbiter (by decide)
  have hloss : v.sample.loss = s.sample.loss := congrArg SamplePort.loss (hnoted .sample (by decide) : v.sample = s.sample)
  have htables : v.tables = s.tables := hnoted .tables (by decide)
  obtain ⟨hraised, -⟩ : (demandLostAlerts s).capture = s.alerts.capture ∧ _ := placeAlert_capture _ _ _
  refine ⟨by rw [hevaluated, harb, failSafeOf, hloss, if_pos hstate], ⟨k, hk, ?_⟩, fun hsafe => ?_⟩
  · rw [hcapture, halerts, captured, hraised]
  · obtain ⟨honly, hchan⟩ := hmoves (by rw [harb, hloss]; exact hsafe.symm)
    refine ⟨(hnoted.within (by decide)).andThen (honly.within (by decide)), ?_, fun c => ?_⟩
    · rw [show (evaluateFailSafe v).alerts = v.alerts from honly .alerts (by decide), halerts]
      rfl
    · rw [hchan, hmoved, chan_frame hnoted (by decide), harb, hloss, htables]
      by_cases hlost : s.sample.loss = .lost
      · rw [if_pos hlost, if_pos (.inl hlost)]
      · simp only [hlost, if_false, false_or]

/-- The entry to LOST told of the demand the arbiter derives and of what is sent rearward, over the state `e` with the fail-safe
state evaluated. -/
theorem enterLost_of_evaluated {s e : State} (h : e = evaluateFailSafe (lostNoted s)) :
    let valid := inputValid s inputControl
    let first := (s.link.lastSeq.map fun n => (n + 1) % 16).getD 0
    ChangesOnly [.link, .relay, .arbiter] e (enterLost s) ∧
    (enterLost s).link = { s.link with
      state := .lost, demandTimer := none, lostEntries := min (s.link.lostEntries + 1) 65535
      rearwardTimer := some s.timeBase, subSeq := if valid then (first + 1) % 16 else first
      subs := if valid then min (s.link.subs + 1) 65535 else s.link.subs
      subsSkipped := if valid then s.link.subsSkipped else min (s.link.subsSkipped + 1) 65535 } ∧
    (enterLost s).relay = (if valid then offerRear (.demand (chainPosition s) first false true) s.relay else s.relay) ∧
    (enterLost s).arbiter = { e.arbiter with
      demand := (reading s inputControl).getD 0, source := if valid then .controlLine else .nothing } := by
  intro valid first
  obtain ⟨hnoted, hnotedLink, -⟩ := lostNoted_parts s
  have hentered : ChangesOnly [.link, .arbiter, .alerts, .mgmt] s e :=
    h ▸ (hnoted.within (by decide)).andThen ((evaluateFailSafe_touches _).within (by decide))
  have hlink : e.link = lostLink s.timeBase s.link :=
    h ▸ Eq.trans (evaluateFailSafe_touches (lostNoted s) .link (by decide)) hnotedLink
  have hrelay : e.relay = s.relay := hentered .relay (by decide)
  have hsample : e.sample = s.sample := hentered .sample (by decide)
  have hvalid : inputValid e inputControl = valid := by rw [inputValid, input, hsample]; rfl
  have hstate : e.link.state = .lost := (congrArg Link.state hlink :)
  rw [enterLost_eq, ← h, sendRearward_of_lost (s := deriveDemand e) hstate]
  obtain ⟨hsentLink, hsentRelay⟩ := offerSubstitute_parts (deriveDemand e)
  have hsent : ChangesOnly [.link, .relay] (deriveDemand e) (offerSubstitute (deriveDemand e)) :=
    sendRearward_of_lost (s := deriveDemand e) hstate ▸ sendRearward_touches _
  have hchain : chainPosition e = chainPosition s := by rw [chainPosition, hlink]; rfl
  refine ⟨((deriveDemand_touches e).within (by decide)).andThen (hsent.within (by decide)), ?_, ?_, ?_⟩
  · rw [hsentLink, show inputValid (deriveDemand e) inputControl = valid from hvalid,
      show (deriveDemand e).link = lostLink s.timeBase s.link from hlink]
    rfl
  · rw [hsentRelay, show inputValid (deriveDemand e) inputControl = valid from hvalid,
      show chainPosition (deriveDemand e) = chainPosition s from hchain,
      show (deriveDemand e).link = lostLink s.timeBase s.link from hlink, show (deriveDemand e).relay = s.relay from hrelay]
    rfl
  · rw [show (offerSubstitute (deriveDemand e)).arbiter = (deriveDemand e).arbiter from hsent .arbiter (by decide)]
    show Arbiter.mk .. = _
    rw [derivedDemand_of_lostLink hstate, hvalid, reading_congr hsample]

/-- Settles O36: FRESH goes to STALE, and the entry to LOST notes itself, has the fail-safe state evaluated, and then derives
the demand and sends what the control line allows. -/
theorem demandTimerMovesTheState : Obligations.DemandTimerMovesTheState := by
  intro s hpowered
  have hexec : exec .demandTimerExpiry s = .next (demandTimerExpiry s) := exec_powered rfl hpowered
  refine ⟨fun hnone => ?_, fun tm htm => ⟨fun hearly => ?_, fun hdue hstate => ?_, fun hdue hstate => ?_⟩⟩
  · rw [hexec, demandTimerExpiry_of_none hnone]
  · rw [hexec, demandTimerExpiry_of_early htm hearly]
  · rw [hexec, demandTimerExpiry_of_fresh htm hdue hstate, enterStale_eq, htm]
    rfl
  · obtain ⟨hnoted, ⟨k, hk, hfilled⟩, hmoves⟩ := lostNoted_evaluates s
    obtain ⟨hsent, hlink, hrelay, harb⟩ := enterLost_of_evaluated (s := s) rfl
    refine ⟨enterLost s, by rw [hexec, demandTimerExpiry_of_overdue htm hdue hstate], ?_⟩
    generalize evaluateFailSafe (lostNoted s) = e at *
    generalize enterLost s = t at *
    have halerts : t.alerts = e.alerts := hsent .alerts (by decide)
    refine ⟨hlink, hrelay, by rw [harb, hnoted], by rw [halerts, hfilled]; rfl, fun hempty => ?_, fun hsafe => ?_⟩
    · rw [halerts, hfilled, hempty]
      exact congrArg some hk
    · obtain ⟨hframe, hqueue, hchan⟩ := hmoves hsafe
      have hkept : ∀ c, chan t c = chan e c := fun c => (congrArg (fun a : Arbiter => quadGet a.channels c) harb :)
      exact ⟨by rw [halerts, hqueue]; rfl, (hframe.within (by decide)).andThen (hsent.within (by decide)),
        fun c => (hkept c).trans (hchan c)⟩

end Sys2Proof.Machine
end

section
/-! POSITION frames: the placement of the part and the check of it (R134 to R136), and the rear port that follows the
placement (R156). -/

namespace Sys2Proof.Machine

open Sys2Proof

/-! ### What a placement writes -/

@[simp] theorem frontCounted_link (s : State) : (frontCounted s).link = s.link := rfl
@[simp] theorem frontCounted_alerts (s : State) : (frontCounted s).alerts = s.alerts := rfl
@[simp] theorem placeAt_link (n : Nat) (s : State) : (placeAt n s).link = { s.link with position := some (n + 1) } := rfl
@[simp] theorem placeAt_alerts (n : Nat) (s : State) : (placeAt n s).alerts = s.alerts := rfl
@[simp] theorem clearMismatch_link (s : State) : (clearMismatch s).link = { s.link with mismatchRun := false } := rfl
@[simp] theorem clearMismatch_alerts (s : State) : (clearMismatch s).alerts = s.alerts := rfl

/-! ### The rows of a placement (R134, R135) -/

/-- The state after a mismatch (R136), the frame carrying `n`. -/
structure Mismatches (n : Nat) (s t : State) : Prop where
  link : t.link = { s.link with mismatches := min (s.link.mismatches + 1) 65535, mismatchRun := true }
  relay : t.relay = s.relay
  alerts : t.alerts = if s.link.mismatchRun then s.alerts
    else raisedAt s s.timeBase .positionMismatch ⟨.block, 8⟩ n s.alerts

theorem positionMismatch_mismatches (n : Nat) (s : State) : Mismatches n s (positionMismatch n s) := by
  unfold positionMismatch
  dsimp only
  cases hrun : s.link.mismatchRun with
  | true => exact ⟨rfl, rfl, by rw [hrun]; rfl⟩
  | false => exact ⟨rfl, rfl, by rw [hrun]; rfl⟩

theorem vehicleSpeed_congr {s t : State} (h : t.sample = s.sample) : vehicleSpeed t = vehicleSpeed s := by
  simp only [vehicleSpeed, wheel, reading_congr h]

/-- A speed that is unknown or above 200 is not below 200. -/
theorem not_below_of_fast {speed : Option Nat} (h : speed = none ∨ ∃ v, speed = some v ∧ 200 < v) :
    ¬below speed 200 = true := by
  obtain rfl | ⟨v, rfl, habove⟩ := h
  · exact Bool.false_ne_true
  · simp only [below, decide_eq_true_eq]
    omega

section Rows

variable {s : State} {n own : Nat}

theorem learnPlacement_of_placing (hnone : s.link.position = none) (hn : n ≤ 2) :
    learnPlacement n s = (placeAt n s).onRelay relayPlaced := by
  rw [learnPlacement, hnone]
  exact if_pos hn

theorem learnPlacement_of_far (hnone : s.link.position = none) (hn : 3 ≤ n) : learnPlacement n s = s := by
  rw [learnPlacement, hnone]
  exact if_neg (Nat.not_le.mpr hn)

theorem learnPlacement_of_agreeing (hown : s.link.position = some own) (hn : n ≤ 2 ∧ n + 1 = own) :
    learnPlacement n s = clearMismatch s := by
  rw [learnPlacement, hown]
  exact if_pos hn

theorem learnPlacement_of_moving (hown : s.link.position = some own) (hslow : below (vehicleSpeed s) 200 = true)
    (hn : n ≤ 2) (hother : n + 1 ≠ own) : learnPlacement n s = clearMismatch (placeAt n s) := by
  rw [learnPlacement, hown]
  dsimp only
  rw [if_neg fun h => hother h.2, if_pos hslow, if_pos hn]

theorem learnPlacement_of_leaving (hown : s.link.position = some own) (hslow : below (vehicleSpeed s) 200 = true)
    (hn : 3 ≤ n) : learnPlacement n s =
      (clearMismatch (s.onLink fun l => { l with position := none })).onRelay relayUnplaced := by
  rw [learnPlacement, hown]
  dsimp only
  rw [if_neg fun h => Nat.not_le.mpr hn h.1, if_pos hslow, if_neg (Nat.not_le.mpr hn)]

theorem learnPlacement_of_mismatch (hown : s.link.position = some own) (hfast : ¬below (vehicleSpeed s) 200 = true)
    (hother : ¬(n ≤ 2 ∧ n + 1 = own)) : learnPlacement n s = positionMismatch n s := by
  rw [learnPlacement, hown]
  dsimp only
  rw [if_neg hother, if_neg hfast]

end Rows

/-! ### The rear port follows the placement (R156) -/

/-- The relay once the chain position has gone from one value to another: it acts on becoming PLACED and on becoming
UNPLACED. -/
def relayFollowing (was now : Option Nat) (r : Relay) : Relay :=
  if was = none ∧ now ≠ none then relayPlaced r else if was ≠ none ∧ now = none then relayUnplaced r else r

theorem relayFollowing_of_same (p : Option Nat) (r : Relay) : relayFollowing p p r = r := by
  rw [relayFollowing, if_neg fun h => h.2 h.1, if_neg fun h => h.1 h.2]

theorem relayFollowing_of_placed {was now : Option Nat} (hwas : was.isSome = true) (hnow : now.isSome = true) (r : Relay) :
    relayFollowing was now r = r := by
  have hsome := Option.isSome_iff_ne_none.mp hwas
  rw [relayFollowing, if_neg fun h => hsome h.1, if_neg fun h => Option.isSome_iff_ne_none.mp hnow h.2]

theorem enterHeld_eq (r : Relay) : enterHeld r = { r with
    rear := .held, rearward := [], flushed := min (r.flushed + r.rearward.length) 65535
    drops := min (r.drops + r.rearward.length) 65535, rearTx := r.rearTx.map fun x => { x with left := true } } := by
  have hnone : r.rearward.filter (fun _ => false) = [] := List.filter_false _
  unfold enterHeld flushRear dropFrames
  dsimp only
  rw [hnone]
  rfl

theorem relayFollowing_eq (was now : Option Nat) (r : Relay) : relayFollowing was now r =
    if was = none ∧ now ≠ none ∧ r.rear = .held ∧ r.rearOff = false then { r with rear := .forwarding }
    else if was ≠ none ∧ now = none ∧ (r.rear = .forwarding ∨ r.rear = .noPartner) then { r with
      rear := .held, rearward := [], flushed := min (r.flushed + r.rearward.length) 65535
      drops := min (r.drops + r.rearward.length) 65535, rearTx := r.rearTx.map fun x => { x with left := true } }
    else r := by
  rw [← enterHeld_eq]
  cases was <;> cases now <;> simp [relayFollowing, relayPlaced, relayUnplaced]

theorem fixedPlacement_relay (n : Nat) (s : State) :
    (fixedPlacement n s).relay = s.relay ∧ (fixedPlacement n s).link.position = s.link.position := by
  unfold fixedPlacement
  split
  · exact ⟨rfl, rfl⟩
  · obtain ⟨hlink, hrelay, -⟩ := positionMismatch_mismatches n s
    exact ⟨hrelay, (congrArg Link.position hlink :)⟩

theorem learnPlacement_relay (n : Nat) (s : State) :
    (learnPlacement n s).relay = relayFollowing s.link.position (learnPlacement n s).link.position s.relay := by
  cases hpos : s.link.position with
  | none =>
    obtain hn | hn := Nat.lt_or_ge 2 n
    · rw [learnPlacement_of_far hpos hn, hpos, relayFollowing_of_same]
    · rw [learnPlacement_of_placing hpos hn]
      exact (if_pos ⟨rfl, nofun⟩).symm
  | some own =>
    have hkept : ∀ t : State, t.relay = s.relay → t.link.position.isSome = true →
        t.relay = relayFollowing (some own) t.link.position s.relay := fun t hrelay hsome => by
      rw [relayFollowing_of_placed rfl hsome, hrelay]
    by_cases hagree : n ≤ 2 ∧ n + 1 = own
    · rw [learnPlacement_of_agreeing hpos hagree]
      exact hkept (clearMismatch s) rfl (congrArg Option.isSome hpos)
    · by_cases hslow : below (vehicleSpeed s) 200 = true
      · obtain hn | hn := Nat.lt_or_ge 2 n
        · rw [learnPlacement_of_leaving hpos hslow hn]
          rfl
        · rw [learnPlacement_of_moving hpos hslow hn fun h => hagree ⟨hn, h⟩]
          exact hkept (clearMismatch (placeAt n s)) rfl rfl
      · obtain ⟨hlink, hrelay, -⟩ := positionMismatch_mismatches n s
        rw [learnPlacement_of_mismatch hpos hslow hagree]
        exact hkept (positionMismatch n s) hrelay (by rw [hlink]; exact congrArg Option.isSome hpos)

/-! ### Taking a POSITION frame -/

/-- The state with a POSITION frame counted. -/
def positionCounted (s : State) : State := s.onLink fun l => { l with positionFrames := min (l.positionFrames + 1) 65535 }

@[simp] theorem positionCounted_link (s : State) :
    (positionCounted s).link = { s.link with positionFrames := min (s.link.positionFrames + 1) 65535 } := rfl
@[simp] theorem positionCounted_alerts (s : State) : (positionCounted s).alerts = s.alerts := rfl

/-- The placement by a frame that carries `n`, in either mode. -/
def placementStep (n : Nat) (s : State) : State :=
  if s.link.strapPos = 0 then learnPlacement n s else fixedPlacement n s

theorem placementStep_relay (n : Nat) (s : State) :
    (placementStep n s).relay = relayFollowing s.link.position (placementStep n s).link.position s.relay := by
  unfold placementStep
  split
  · exact learnPlacement_relay n s
  · obtain ⟨hrelay, hpos⟩ := fixedPlacement_relay n s
    rw [hrelay, hpos, relayFollowing_of_same]

theorem offerPosition_touches (s : State) : ChangesOnly [.relay] s (offerPosition s) :=
  ChangesOnly.ite _ (onRelay_touches s _) (ChangesOnly.nothing _ s)

/-- The relay with the own POSITION frame of a part at a chain position offered; an UNPLACED part offers nothing (R137). -/
def announcing (position : Option Nat) (r : Relay) : Relay :=
  match position with
  | some m => offerRear (.frame (ownFrame 2 2 15 m 0 [byteOf m])) r
  | none => r

theorem offerPosition_relay (s : State) : (offerPosition s).relay = announcing s.link.position s.relay := by
  unfold offerPosition ownPositionFrame chainPosition
  cases s.link.position <;> rfl

theorem exec_positionFrame {s : State} (hpowered : s.powered = true) (f : LinkFrame) :
    exec (.positionFrame f) s = .next (takePosition f.data (frontCounted s)) :=
  exec_powered (f := fun s => takePosition f.data (countArrival .front s)) rfl hpowered

theorem takePosition_of_empty {data : List Byte} (h : data = []) (s : State) :
    takePosition data s = s.onLink fun l => { l with malformed := min (l.malformed + 1) 65535 } := by
  rw [h]
  rfl

theorem takePosition_of_data {data : List Byte} (h : data ≠ []) (s : State) :
    takePosition data s = offerPosition (placementStep (dataByte data 0 % 16) (positionCounted s)) :=
  if_neg (Nat.not_lt.mpr (List.length_pos_iff.mpr h))

/-- What a frame does: the link record and the alerts are those of the placement, the rear port follows it, and the part then
announces itself (R133 to R137, R156). -/
theorem takePosition_parts {data : List Byte} (h : data ≠ []) (s : State) :
    let p := placementStep (dataByte data 0 % 16) (positionCounted s)
    (takePosition data s).link = p.link ∧ (takePosition data s).alerts = p.alerts ∧
    (takePosition data s).relay = announcing (takePosition data s).link.position
      (relayFollowing s.link.position (takePosition data s).link.position s.relay) := by
  intro p
  have hoffered := offerPosition_touches p
  have hlink : (offerPosition p).link = p.link := hoffered .link (by decide)
  have hrelay : p.relay = relayFollowing s.link.position p.link.position s.relay := placementStep_relay _ _
  rw [takePosition_of_data h]
  refine ⟨hlink, hoffered .alerts (by decide), ?_⟩
  rw [show placementStep _ _ = p from rfl, offerPosition_relay, hlink, hrelay]

/-- Settles O35: the rows of the placement in each mode, and then the rear port and the announcement of `takePosition_parts`. -/
theorem positionFramesPlaceThePart : Obligations.PositionFramesPlaceThePart := by
  intro s f hpowered
  refine ⟨fun hempty => ?_, fun hdata hown _ => ⟨takePosition f.data (frontCounted s), exec_positionFrame hpowered f,
    ?_, ?_⟩⟩
  · rw [exec_positionFrame hpowered, takePosition_of_empty hempty]
    rfl
  · exact ((countArrival_touches s .front).within (by decide)).andThen (takePosition_touches _ _)
  intro n l counted agrees mismatch
  obtain ⟨hlink, halerts, hrelay⟩ := takePosition_parts hdata (frontCounted s)
  have hlearn : ∀ {p}, l.strapPos = 0 → learnPlacement n (positionCounted (frontCounted s)) = p →
      placementStep n (positionCounted (frontCounted s)) = p := fun h hp => (if_pos h).trans hp
  have hfixed : ∀ {p}, l.strapPos ≠ 0 → fixedPlacement n (positionCounted (frontCounted s)) = p →
      placementStep n (positionCounted (frontCounted s)) = p := fun h hp => (if_neg h).trans hp
  have hmismatch : placementStep n (positionCounted (frontCounted s)) =
      positionMismatch n (positionCounted (frontCounted s)) → mismatch := fun h => by
    obtain ⟨hmlink, -, hmalerts⟩ := positionMismatch_mismatches n (positionCounted (frontCounted s))
    exact ⟨by rw [hlink, h, hmlink]; rfl, by rw [halerts, h, hmalerts]; rfl⟩
  have hspeed : vehicleSpeed (positionCounted (frontCounted s)) = vehicleSpeed s := vehicleSpeed_congr rfl
  have hslow : ∀ v, vehicleSpeed s = some v → v < 200 →
      below (vehicleSpeed (positionCounted (frontCounted s))) 200 = true := fun v hv hlow =>
    hspeed ▸ (below_iff _ _).mpr ⟨v, hv, hlow⟩
  refine ⟨fun h0 hnone hn => ?_, fun h0 hnone hn => ?_, fun own h0 hpos => ⟨fun hagree => ?_, fun v hv hlow hn hother => ?_,
    fun v hv hlow hn => ?_, fun hfast hother => ?_⟩, fun h0 => ⟨fun hagree => ?_, fun hother => ?_⟩, ?_⟩
  · rw [hlink, halerts, hlearn h0 (learnPlacement_of_placing hnone hn)]
    simp [counted, l]
  · rw [hlink, halerts, hlearn h0 (learnPlacement_of_far hnone hn)]
    simp [counted, l]
  · have hsmall : n ≤ 2 := by have := hown own hpos; omega
    unfold agrees
    rw [hlink, halerts, hlearn h0 (learnPlacement_of_agreeing hpos ⟨hsmall, hagree⟩)]
    simp [counted, l]
  · rw [hlink, halerts, hlearn h0 (learnPlacement_of_moving hpos (hslow v hv hlow) hn hother)]
    simp [counted, l]
  · rw [hlink, halerts, hlearn h0 (learnPlacement_of_leaving hpos (hslow v hv hlow) hn)]
    simp [counted, l]
  · have hnot : ¬below (vehicleSpeed (positionCounted (frontCounted s))) 200 = true := hspeed ▸ not_below_of_fast hfast
    exact hmismatch (hlearn h0 (learnPlacement_of_mismatch hpos hnot fun h => hother h.2))
  · unfold agrees
    rw [hlink, halerts, hfixed h0 (if_pos hagree)]
    simp [counted, l]
  · exact hmismatch (hfixed h0 (if_neg hother))
  · intro r _ placed
    have hplaced : relayFollowing l.position (takePosition f.data (frontCounted s)).link.position r = placed :=
      relayFollowing_eq _ _ _
    refine (hrelay.trans (congrArg (announcing _) hplaced)).trans ?_
    clear_value placed
    generalize (takePosition f.data (frontCounted s)).link.position = now
    cases now <;> rfl

end Sys2Proof.Machine
end

section
/-! Frames placed in the relayed queue and offered to the rearward queue: where each one goes, and what it displaces (R152,
R154). -/

namespace Sys2Proof.Machine

open Sys2Proof

/-! ### The relayed queue (R152) -/

theorem displaceable_iff (e : RelayedFrame) : displaceable e = true ↔ frameClass e.frame ≠ 3 ∧ e.inTx = false := by
  rw [displaceable, Bool.and_eq_true, Bool.not_eq_true', Bool.not_eq_true', isAlert_false_iff]

theorem displaceable_false_iff (e : RelayedFrame) : displaceable e = false ↔ frameClass e.frame = 3 ∨ e.inTx = true := by
  rw [displaceable, Bool.and_eq_false_iff, Bool.not_eq_false', Bool.not_eq_false', isAlert_iff]

section Relayed

variable {f : CanFrame} {r : Relay}

theorem placeRelayed_of_room (h : r.relayed.length < 16) :
    placeRelayed f r = { r with relayed := r.relayed ++ [⟨f, false⟩] } := if_pos h

theorem placeRelayed_of_routine (hfull : 16 ≤ r.relayed.length) (hf : frameClass f ≠ 3) : placeRelayed f r =
    { r with relayedRoutineFull := min (r.relayedRoutineFull + 1) 65535, drops := min (r.drops + 1) 65535 } := by
  have hroutine : (!isAlert f) = true := by rw [Bool.not_eq_true', isAlert_false_iff]; exact hf
  rw [placeRelayed, if_neg hfull.not_gt, if_pos hroutine]
  rfl

/-- An alert at a full queue is judged by the first routine frame that is not in transmission. -/
theorem placeRelayed_of_alert (hfull : 16 ≤ r.relayed.length) (hf : frameClass f = 3) : placeRelayed f r =
    if r.relayed.any displaceable then
      dropFrames 1 { r with relayed := r.relayed.eraseP displaceable ++ [⟨f, false⟩], displaced := satInc r.displaced }
    else dropFrames 1 { r with relayedAlertFull := satInc r.relayedAlertFull } := by
  have halert : ¬(!isAlert f) = true := by rw [Bool.not_eq_true', isAlert_false_iff]; exact not_not.mpr hf
  rw [placeRelayed, if_neg hfull.not_gt, if_neg halert]

theorem placeRelayed_of_displaced (hfull : 16 ≤ r.relayed.length) (hf : frameClass f = 3) {older newer : List RelayedFrame}
    {e : RelayedFrame} (hq : r.relayed = older ++ e :: newer) (he : displaceable e = true)
    (holder : ∀ x ∈ older, displaceable x = false) : placeRelayed f r = { r with
      relayed := older ++ newer ++ [⟨f, false⟩], displaced := min (r.displaced + 1) 65535
      drops := min (r.drops + 1) 65535 } := by
  have hany : r.relayed.any displaceable = true :=
    List.any_eq_true.mpr ⟨e, by rw [hq]; exact List.mem_append_right _ List.mem_cons_self, he⟩
  have herase : r.relayed.eraseP displaceable = older ++ newer := by
    rw [hq, List.eraseP_append_right _ fun x hx => by rw [holder x hx]; exact Bool.false_ne_true,
      List.eraseP_cons_of_pos he]
  rw [placeRelayed_of_alert hfull hf, if_pos hany, herase]
  rfl

theorem placeRelayed_of_kept (hfull : 16 ≤ r.relayed.length) (hf : frameClass f = 3)
    (hkept : ∀ x ∈ r.relayed, displaceable x = false) : placeRelayed f r =
      { r with relayedAlertFull := min (r.relayedAlertFull + 1) 65535, drops := min (r.drops + 1) 65535 } := by
  have hnone : ¬r.relayed.any displaceable = true := by
    rw [List.any_eq_true]
    rintro ⟨x, hx, hd⟩
    exact Bool.false_ne_true ((hkept x hx).symm.trans hd)
  rw [placeRelayed_of_alert hfull hf, if_neg hnone]
  rfl

/-- The rearward queue and the match counts have no part in a frame's placing in the relayed queue. -/
theorem placeRelayed_beside (f : CanFrame) (r : Relay) (q : List RearItem) (counts : List Nat) :
    placeRelayed f { r with rearward := q, matchCounts := counts } =
      { placeRelayed f r with rearward := q, matchCounts := counts } := by
  unfold placeRelayed
  dsimp only
  split_ifs <;> rfl

theorem placeRelayed_length (h : r.relayed.length ≤ 16) : (placeRelayed f r).relayed.length ≤ 16 := by
  have hbound := placeRelayed_bound f (r := { r with rearward := [], matchCounts := List.replicate 24 0 })
    ⟨h, Nat.zero_le _, Nat.zero_le _, List.length_replicate⟩
  rw [placeRelayed_beside] at hbound
  exact hbound.relayed

end Relayed

/-- Settles O41: the four branches of R152, the first displaceable frame being the one that R152 calls the oldest. -/
theorem relayedQueueKeepsAlerts : Obligations.RelayedQueueKeepsAlerts := by
  intro f r
  refine ⟨placeRelayed_of_room, placeRelayed_of_routine, fun hfull hf older e newer hq hroutine hidle holder => ?_,
    fun hfull hf hkept => ?_, placeRelayed_length⟩
  · exact placeRelayed_of_displaced hfull hf hq ((displaceable_iff e).mpr ⟨hroutine, hidle⟩) fun x hx =>
      (displaceable_false_iff x).mpr (holder x hx)
  · exact placeRelayed_of_kept hfull hf fun x hx => (displaceable_false_iff x).mpr (hkept x hx)

/-! ### The rearward queue (R154) -/

/-- Whether the rear port state accepts an offer (R154). -/
abbrev rearAccepts (i : RearItem) (r : Relay) : Prop :=
  r.rear = .forwarding ∨ (r.rear = .noPartner ∧ isLinkItem i = true)

theorem replaceDemand_of_none {i : RearItem} {q : List RearItem} (h : ∀ x ∈ q, isDemandItem x = false) :
    replaceDemand i q = q := by
  have hsame : ∀ x ∈ q, (if isDemandItem x then i else x) = x := fun x hx =>
    if_neg (by rw [h x hx]; exact Bool.false_ne_true)
  exact (List.map_congr_left hsame).trans (List.map_id' q)

/-- The only DEMAND item of a queue is the one replaced, in its place. -/
theorem replaceDemand_of_single {i d : RearItem} {older newer : List RearItem} (hd : isDemandItem d = true)
    (hothers : ∀ x ∈ older ++ newer, isDemandItem x = false) :
    replaceDemand i (older ++ d :: newer) = older ++ i :: newer := by
  have hsplit : replaceDemand i (older ++ d :: newer) =
      replaceDemand i older ++ (if isDemandItem d then i else d) :: replaceDemand i newer := List.map_append
  rw [hsplit, if_pos hd, replaceDemand_of_none fun x hx => hothers x (List.mem_append_left _ hx),
    replaceDemand_of_none fun x hx => hothers x (List.mem_append_right _ hx)]

section Rearward

variable {i : RearItem} {r : Relay}

theorem offerRear_of_accepted (h : rearAccepts i r) : offerRear i r = placeRear i r := by
  obtain hrear | ⟨hrear, hlink⟩ := h
  · rw [offerRear, hrear]
  · rw [offerRear, hrear]
    exact if_pos hlink

theorem offerRear_of_refused (h : ¬rearAccepts i r) : offerRear i r =
    { r with rearRefused := min (r.rearRefused + 1) 65535, drops := min (r.drops + 1) 65535 } := by
  unfold offerRear
  split
  · rfl
  · rfl
  · next hrear => exact absurd (.inl hrear) h
  · next hrear => exact if_neg fun hlink => h (.inr ⟨hrear, hlink⟩)

theorem placeRear_of_replaced (hi : isDemandItem i = true) {older newer : List RearItem} {d : RearItem}
    (hq : r.rearward = older ++ d :: newer) (hd : isDemandItem d = true)
    (hothers : ∀ x ∈ older ++ newer, isDemandItem x = false) : placeRear i r =
      { r with rearward := older ++ i :: newer, demandReplaced := min (r.demandReplaced + 1) 65535 } := by
  have hany : (isDemandItem i && r.rearward.any isDemandItem) = true := by
    rw [hi, Bool.true_and, hq]
    exact List.any_eq_true.mpr ⟨d, List.mem_append_right _ List.mem_cons_self, hd⟩
  rw [placeRear, if_pos hany, hq, replaceDemand_of_single hd hothers]
  rfl

/-- An item that has no DEMAND item to replace joins the queue when there is room. A full queue keeps out a frame, and gives a
DEMAND item the place of its oldest frame. -/
theorem placeRear_of_joining (h : ¬(isDemandItem i && r.rearward.any isDemandItem) = true) : placeRear i r =
    if r.rearward.length < 8 then { r with rearward := r.rearward ++ [i] }
    else if isDemandItem i then
      dropFrames 1 { r with rearward := r.rearward.drop 1 ++ [i], rearFull := satInc r.rearFull }
    else dropFrames 1 { r with rearFull := satInc r.rearFull } := if_neg h

/-- The relayed queue and the match counts have no part in an offer. -/
theorem offerRear_beside (i : RearItem) (r : Relay) (q : List RelayedFrame) (counts : List Nat) :
    offerRear i { r with relayed := q, matchCounts := counts } =
      { offerRear i r with relayed := q, matchCounts := counts } := by
  by_cases haccepts : rearAccepts i r
  · rw [offerRear_of_accepted haccepts, offerRear_of_accepted (r := { r with relayed := q, matchCounts := counts }) haccepts]
    unfold placeRear
    dsimp only
    split_ifs <;> rfl
  · rw [offerRear_of_refused haccepts, offerRear_of_refused (r := { r with relayed := q, matchCounts := counts }) haccepts]

theorem offerRear_length (hlen : r.rearward.length ≤ 8) (hdemands : r.rearward.countP isDemandItem ≤ 1) :
    (offerRear i r).rearward.length ≤ 8 ∧ (offerRear i r).rearward.countP isDemandItem ≤ 1 := by
  have hbound := offerRear_bound i (r := { r with relayed := [], matchCounts := List.replicate 24 0 })
    ⟨Nat.zero_le _, hlen, hdemands, List.length_replicate⟩
  rw [offerRear_beside] at hbound
  exact ⟨hbound.rearward, hbound.demands⟩

end Rearward

/-- Settles O42: the port state judges the offer, and the queue places an accepted item by its kind, its DEMAND item and its
room. -/
theorem rearwardOffersAreJudged : Obligations.RearwardOffersAreJudged := by
  intro i r after dropped position accepted
  have haccepted : rearAccepts i r ↔ accepted := by rw [rearAccepts, isLinkItem_iff]
  refine ⟨fun h => offerRear_of_refused (haccepted.not.mpr h), fun h => ?_, offerRear_length⟩
  have hplaced : after = placeRear i r := offerRear_of_accepted (haccepted.mpr h)
  rw [hplaced]
  refine ⟨fun hi older d newer hq hd hothers => placeRear_of_replaced hi hq hd hothers, fun hi hnone => ?_, fun hi => ?_⟩
  · have hjoins : ¬(isDemandItem i && r.rearward.any isDemandItem) = true := by
      rw [Bool.and_eq_true, List.any_eq_true]
      rintro ⟨-, x, hx, hd⟩
      exact Bool.false_ne_true ((hnone x hx).symm.trans hd)
    rw [placeRear_of_joining hjoins]
    exact ⟨fun hroom => if_pos hroom, fun hfull => (if_neg hfull.not_gt).trans (if_pos hi)⟩
  · have hframe : ¬isDemandItem i = true := by rw [hi]; exact Bool.false_ne_true
    rw [placeRear_of_joining fun h => hframe (Bool.and_eq_true_iff.mp h).1]
    exact ⟨fun hroom => if_pos hroom, fun hfull => (if_neg hfull.not_gt).trans (if_neg hframe)⟩

end Sys2Proof.Machine
end

section
/-! Frames arriving at the two ports, by port and class (R149, R157), and the generic ones by the routing table (R150, R151). -/

namespace Sys2Proof.Machine

open Sys2Proof

/-! ### Arrival by port and class (R149) -/

section Arrival

variable {s : State} {f : CanFrame}

theorem exec_frontArrival (hpowered : s.powered = true) (f : CanFrame) :
    exec (.frameArrival .front f) s = .next (arriveFront f (frontCounted s)) :=
  exec_powered (f := frameArrival .front f) rfl hpowered

theorem exec_rearArrival (hpowered : s.powered = true) (f : CanFrame) :
    exec (.frameArrival .rear f) s = .next (arriveRear f (rearCounted s)) :=
  exec_powered (f := frameArrival .rear f) rfl hpowered

theorem arriveFront_of_short (h : f.extended = false) : arriveFront f s =
    { s with relay := { s.relay with frontShort := min (s.relay.frontShort + 1) 65535 } } :=
  if_neg (by rw [h]; exact Bool.false_ne_true)

theorem arriveFront_of_extended (h : f.extended = true) : arriveFront f s = handleFront f s := if_pos h

theorem arriveRear_of_isolated (h : s.relay.rear = .isolated) : arriveRear f s = { s with relay := { s.relay with
    isolatedDrop := min (s.relay.isolatedDrop + 1) 65535, drops := min (s.relay.drops + 1) 65535 } } := if_pos h

theorem arriveRear_of_short (hrear : s.relay.rear ≠ .isolated) (h : f.extended = false) : arriveRear f s =
    { s with relay := { s.relay with rearShort := min (s.relay.rearShort + 1) 65535 } } :=
  (if_neg hrear).trans (if_neg (by rw [h]; exact Bool.false_ne_true))

theorem arriveRear_of_extended (hrear : s.relay.rear ≠ .isolated) (h : f.extended = true) :
    arriveRear f s = handleRear f s := (if_neg hrear).trans (if_pos h)

theorem handleFront_of_demand (h : frameClass f = 1) : handleFront f s = takeDemand f.data s := by
  simp only [handleFront, h]

theorem handleFront_of_position (h : frameClass f = 2) : handleFront f s = takePosition f.data s := by
  simp only [handleFront, h]

theorem handleFront_of_request (h : frameClass f = 5) : handleFront f s = handleRequest f s := by
  simp only [handleFront, h]

/-- The classes that the part itself sends forward, and class 0, do not belong at the front port. -/
theorem handleFront_of_misdirected (h : frameClass f = 3 ∨ frameClass f = 4 ∨ frameClass f = 6 ∨ frameClass f = 0) :
    handleFront f s = dropMisdirected s := by
  obtain h | h | h | h := h <;> simp only [handleFront, h]

theorem handleFront_of_generic (h : 7 ≤ frameClass f) :
    handleFront f s = s.onRelay (routeFrame s.tables.t6 .front f) := by
  unfold handleFront
  split
  case h_8 => rfl
  all_goals omega

theorem handleRear_of_relayed (h : frameClass f = 3 ∨ frameClass f = 4 ∨ frameClass f = 6) :
    handleRear f s = s.onRelay (placeRelayed f) := by
  obtain h | h | h := h <;> simp only [handleRear, h]

theorem handleRear_of_wrongDirection (h : frameClass f = 0 ∨ frameClass f = 1 ∨ frameClass f = 2 ∨ frameClass f = 5) :
    handleRear f s = dropWrongDirection s := by
  obtain h | h | h | h := h <;> simp only [handleRear, h]

theorem handleRear_of_generic (h : 7 ≤ frameClass f) :
    handleRear f s = s.onRelay (routeFrame s.tables.t6 .rear f) := by
  unfold handleRear
  split
  case h_8 => rfl
  all_goals omega

theorem handleRequest_of_broadcast (h : frameDest f = 15) :
    handleRequest f s = (engineTakes f s).onRelay (offerRear (.frame f)) := if_pos h

theorem handleRequest_of_addressed (h15 : frameDest f ≠ 15) (h : frameDest f = chainPosition s) :
    handleRequest f s = engineTakes f s := (if_neg h15).trans (if_pos h)

theorem handleRequest_of_beyond (h15 : frameDest f ≠ 15) (h : chainPosition s < frameDest f) :
    handleRequest f s = { s with relay := offerRear (.frame f) s.relay } :=
  (if_neg h15).trans ((if_neg h.ne').trans (if_pos h))

theorem handleRequest_of_nearer (h15 : frameDest f ≠ 15) (h : frameDest f < chainPosition s) :
    handleRequest f s = dropMisdirected s :=
  (if_neg h15).trans ((if_neg h.ne).trans (if_neg h.not_gt))

end Arrival

/-- Settles O39: each row of R149 by the lemma of its class, and the requests by their destination. -/
theorem arrivalsAreHandledByPortAndClass : Obligations.ArrivalsAreHandledByPortAndClass := by
  intro s f hpowered
  dsimp only
  have hfront : ∀ {t}, arriveFront f (frontCounted s) = t → exec (.frameArrival .front f) s = .next t := fun ht =>
    (exec_frontArrival hpowered f).trans (congrArg _ ht)
  have hrear : ∀ {t}, arriveRear f (rearCounted s) = t → exec (.frameArrival .rear f) s = .next t := fun ht =>
    (exec_rearArrival hpowered f).trans (congrArg _ ht)
  refine ⟨fun hshort => hfront (arriveFront_of_short hshort), fun hext => ?_,
    fun hopen hshort => hrear (arriveRear_of_short hopen hshort), fun hopen hext => ⟨fun hclass => ?_, fun hclass => ?_⟩,
    fun hisolated => hrear (arriveRear_of_isolated hisolated)⟩
  · have hclassed : ∀ {t}, handleFront f (frontCounted s) = t → exec (.frameArrival .front f) s = .next t := fun ht =>
      hfront ((arriveFront_of_extended hext).trans ht)
    have hrequest : frameClass f = 5 → ∀ {t}, handleRequest f (frontCounted s) = t →
        exec (.frameArrival .front f) s = .next t := fun h5 _ ht => hclassed ((handleFront_of_request h5).trans ht)
    refine ⟨fun h1 => ?_, fun h2 => ?_, fun h5 h15 => hrequest h5 (handleRequest_of_broadcast h15),
      fun h5 h15 hown => hrequest h5 (handleRequest_of_addressed h15 hown),
      fun h5 h15 hfar => hrequest h5 (handleRequest_of_beyond h15 hfar), ?_⟩
    · rw [exec_demandFrame hpowered]
      exact hclassed (handleFront_of_demand h1)
    · rw [exec_positionFrame hpowered]
      exact hclassed (handleFront_of_position h2)
    · rintro (⟨h5, h15, hnear⟩ | hclass)
      · exact hrequest h5 (handleRequest_of_nearer h15 hnear)
      · exact hclassed (handleFront_of_misdirected hclass)
  · exact hrear ((arriveRear_of_extended (s := rearCounted s) hopen hext).trans (handleRear_of_relayed hclass))
  · exact hrear ((arriveRear_of_extended (s := rearCounted s) hopen hext).trans (handleRear_of_wrongDirection hclass))

/-! ### The routing table (R150, R151) -/

/-- What the validation of T6 gives of a slot in use (R151). -/
theorem usedSlot_of_tableCheck {t : Table} (h : tableCheck 6 t = none) {i : Nat} (hi : i < 24) (hused : t6Used t i = true) :
    t6Direction t i ≤ 2 ∧ t6Action t i ≤ 2 ∧ t6Demoted t i ≤ 7 := by
  have hall := (firstFailing_none_iff _).mp (h : t6Check t = none)
  have slot : ∀ {off : Nat} {ok : Bool}, (off, !(u8 t (6 * i) == 1) || ok) ∈ t6SlotChecks t i → ok = true := fun hc => by
    have hcheck := hall _ (List.mem_flatMap.mpr ⟨i, List.mem_range.mpr hi, hc⟩)
    rw [show (u8 t (6 * i) == 1) = true from hused] at hcheck
    exact hcheck
  exact ⟨of_decide_eq_true (slot (off := 6 * i + 1) (by simp [t6SlotChecks])),
    of_decide_eq_true (slot (off := 6 * i + 4) (by simp [t6SlotChecks])),
    of_decide_eq_true (slot (off := 6 * i + 5) (by simp [t6SlotChecks]))⟩

/-- Whether a slot of the routing table decides a frame that arrived at a port (R150). -/
abbrev routeHit (t : Table) (port : Port) (f : CanFrame) (i : Nat) : Prop :=
  t6Used t i = true ∧
    (t6Direction t i = 2 ∨ (t6Direction t i = 0 ∧ port = .front) ∨ (t6Direction t i = 1 ∧ port = .rear)) ∧
    (t6Class t i = 0 ∨ t6Class t i = frameClass f) ∧ (t6Dest t i = 255 ∨ t6Dest t i = frameDest f)

theorem routeMatches_iff {t : Table} (h : tableCheck 6 t = none) (port : Port) (f : CanFrame) {i : Nat} (hi : i < 24) :
    routeMatches t port f i = true ↔ routeHit t port f i := by
  simp only [routeMatches, routeHit, Bool.and_eq_true, Bool.or_eq_true, beq_iff_eq, and_assoc]
  refine and_congr_right fun hused => and_congr_left fun _ => ?_
  obtain ⟨hdirection, -⟩ := usedSlot_of_tableCheck h hi hused
  cases port with
  | front => simp only [bne_iff_ne, reduceCtorEq, and_true, and_false, or_false]; omega
  | rear => simp only [bne_iff_ne, reduceCtorEq, and_true, and_false, false_or]; omega

section Routing

variable {t : Table} {port : Port} {f : CanFrame} {i : Nat}

theorem routeSlot_of_first (h : tableCheck 6 t = none) (hi : i < 24) (hhit : routeHit t port f i)
    (hfirst : ∀ j, j < i → ¬routeHit t port f j) : routeSlot t port f = some i := by
  refine List.find?_range_eq_some.mpr ⟨(routeMatches_iff h port f hi).mpr hhit, List.mem_range.mpr hi, fun j hj => ?_⟩
  rw [Bool.not_eq_true', ← Bool.not_eq_true, routeMatches_iff h port f (hj.trans hi)]
  exact hfirst j hj

theorem routeSlot_of_none (h : tableCheck 6 t = none) (hnone : ∀ j, j < 24 → ¬routeHit t port f j) :
    routeSlot t port f = none := by
  refine List.find?_range_eq_none.mpr fun j hj => ?_
  rw [Bool.not_eq_true', ← Bool.not_eq_true, routeMatches_iff h port f hj]
  exact hnone j hj

theorem routeFrame_of_forward (hslot : routeSlot t port f = some i) (h : t6Action t i = 0) (r : Relay) :
    routeFrame t port f r = forwardFrame port f (countMatch i r) := by
  simp only [routeFrame, hslot, h]

theorem routeFrame_of_drop (hslot : routeSlot t port f = some i) (h : t6Action t i = 1) (r : Relay) :
    routeFrame t port f r = { countMatch i r with routedDrop := min (r.routedDrop + 1) 65535 } := by
  simp only [routeFrame, hslot, h]
  rfl

theorem routeFrame_of_demoted (hslot : routeSlot t port f = some i) (h : t6Action t i = 2) (r : Relay) :
    routeFrame t port f r =
      forwardFrame port (withPriority f (max (framePriority f) (t6Demoted t i))) (countMatch i r) := by
  simp only [routeFrame, hslot, h]

theorem routeFrame_of_unmatched (hslot : routeSlot t port f = none) (r : Relay) : routeFrame t port f r =
    forwardFrame port f { r with unmatched := min (r.unmatched + 1) 65535 } := by
  simp only [routeFrame, hslot]
  rfl

end Routing

theorem framePriority_le (f : CanFrame) : framePriority f ≤ 7 :=
  Nat.le_of_lt_succ (f.ident.extractLsb' 26 3).isLt

theorem framePriority_withPriority {f : CanFrame} {p : Nat} (h : p ≤ 7) : framePriority (withPriority f p) = p :=
  (withPriority_fields f p).1.trans (Nat.mod_eq_of_lt (Nat.lt_succ_of_le h))

/-- A generic frame reaches the routing table of the state it arrives in (R149). -/
theorem exec_genericArrival {s : State} (hpowered : s.powered = true) {port : Port} {f : CanFrame}
    (hext : f.extended = true) (hclass : 7 ≤ frameClass f) (hopen : port = .rear → s.relay.rear ≠ .isolated) :
    exec (.frameArrival port f) s =
      .next ((if port = .front then frontCounted s else rearCounted s).onRelay (routeFrame s.tables.t6 port f)) := by
  cases port with
  | front =>
    rw [exec_frontArrival hpowered, arriveFront_of_extended hext, handleFront_of_generic hclass]
    rfl
  | rear =>
    rw [exec_rearArrival hpowered, arriveRear_of_extended (s := rearCounted s) (hopen rfl) hext,
      handleRear_of_generic hclass]
    rfl

/-- Settles O40: the search of the table finds the first slot that matches, and that slot's action is applied. -/
theorem genericFramesFollowTheFirstMatch : Obligations.GenericFramesFollowTheFirstMatch := by
  intro s port f hpowered hvalid hext hclass hopen
  extract_lets t6 u forward hit
  have hforward : ∀ g r, forwardFrame port g r = forward g r := fun g r => by cases port <;> rfl
  have hrouted : ∀ {r}, routeFrame t6 port f u.relay = r →
      exec (.frameArrival port f) s = .next { u with relay := r } := fun hr => by
    rw [exec_genericArrival hpowered hext hclass hopen, ← hr]
    rfl
  have hmatched : ∀ i, countMatch i u.relay = { u.relay with
      matchCounts := s.relay.matchCounts.set i (min (s.relay.matchCounts.getD i 0 + 1) 65535) } := fun i => by
    cases port <;> rfl
  have hdropped : u.relay.routedDrop = s.relay.routedDrop ∧ u.relay.unmatched = s.relay.unmatched := by
    cases port <;> exact ⟨rfl, rfl⟩
  refine ⟨fun i hi hhit hfirst => ?_, fun hnone => hrouted ?_⟩
  · have hslot : routeSlot t6 port f = some i := routeSlot_of_first hvalid hi hhit hfirst
    obtain ⟨-, haction, hdemoted⟩ := usedSlot_of_tableCheck hvalid hi hhit.1
    intro r
    refine ⟨fun h0 => hrouted ?_, fun h1 => hrouted ?_, fun h2 => ?_, haction⟩
    · rw [routeFrame_of_forward hslot h0, hmatched, hforward]
    · rw [routeFrame_of_drop hslot h1, hmatched, hdropped.1]
    · obtain ⟨-, hkept⟩ := withPriority_fields f (max (framePriority f) (t6Demoted t6 i))
      obtain ⟨hcls, hdest, hsource, hsub⟩ := hkept
      refine ⟨_, hrouted ?_, framePriority_withPriority (max_le (framePriority_le f) hdemoted), hcls, hdest, hsource, hsub,
        rfl, rfl⟩
      rw [routeFrame_of_demoted hslot h2, hmatched, hforward]
  · rw [routeFrame_of_unmatched (routeSlot_of_none hvalid hnone), hforward, hdropped.2]

end Sys2Proof.Machine
end

section
/-! The front port: the frame handed over by the ranks of R153, and what the outcome leaves where the frame came from (R162,
R164, R168). -/

namespace Sys2Proof.Machine

open Sys2Proof

/-! ### The first of a list that meets a condition -/

theorem changeFirst_of_split {α : Type} {which : α → Bool} {older newer : List α} {e : α} (f : α → α)
    (holder : ∀ x ∈ older, which x = false) (he : which e = true) :
    changeFirst which f (older ++ e :: newer) = older ++ f e :: newer := by
  induction older with
  | nil => exact if_pos he
  | cons x older ih =>
    obtain ⟨hx, hrest⟩ := List.forall_mem_cons.mp holder
    rw [List.cons_append, changeFirst, if_neg (by rw [hx]; exact Bool.false_ne_true), ih hrest]
    rfl

/-! ### The choice (R153) -/

section Choice

variable {s : State}

/-- What the front arbiter looks for in the relayed queue first: the oldest alert. -/
theorem oldestAlert_of_split {q older newer : List RelayedFrame} {e : RelayedFrame} (hq : q = older ++ e :: newer)
    (he : isAlert e.frame = true) (holder : ∀ x ∈ older, isAlert x.frame = false) :
    q.find? (fun e => isAlert e.frame) = some e :=
  List.find?_eq_some_iff_append.mpr ⟨he, older, newer, hq, fun x hx => by rw [holder x hx]; rfl⟩

theorem oldestAlert_of_routine {q : List RelayedFrame} (h : ∀ x ∈ q, isAlert x.frame = false) :
    q.find? (fun e => isAlert e.frame) = none :=
  List.find?_eq_none.mpr fun x hx => by rw [h x hx]; exact Bool.false_ne_true

theorem frontChoice_of_ownAlert {e : Alert} {rest : List Alert} (h : s.alerts.queue = e :: rest) :
    frontChoice s = some ⟨.ownAlert, alertFrame s e⟩ := by
  simp only [frontChoice, h, List.head?_cons]

theorem frontChoice_of_relayedAlert (hown : s.alerts.queue = []) {e : RelayedFrame}
    (halert : s.relay.relayed.find? (fun e => isAlert e.frame) = some e) :
    frontChoice s = some ⟨.relayed, e.frame⟩ := by
  simp only [frontChoice, hown, halert, List.head?_nil]

section Routine

variable (hown : s.alerts.queue = []) (hroutine : ∀ x ∈ s.relay.relayed, isAlert x.frame = false)
include hown hroutine

theorem frontChoice_of_response {f : CanFrame} {frames : List CanFrame} {rest : List (List CanFrame)}
    (h : s.mgmt.queue = (f :: frames) :: rest) : frontChoice s = some ⟨.response, f⟩ := by
  simp only [frontChoice, hown, oldestAlert_of_routine hroutine, h, List.head?_nil, List.head?_cons, Option.bind_some]

theorem frontChoice_of_relayed (hresponses : s.mgmt.queue = []) {e : RelayedFrame} {newer : List RelayedFrame}
    (h : s.relay.relayed = e :: newer) : frontChoice s = some ⟨.relayed, e.frame⟩ := by
  have hnone := oldestAlert_of_routine hroutine
  rw [h] at hnone
  simp only [frontChoice, hown, h, hnone, hresponses, List.head?_nil, List.head?_cons, Option.bind_none]

end Routine

/-- With the queues empty the choice is that of the status slot. -/
theorem frontChoice_of_slot (hown : s.alerts.queue = []) (hresponses : s.mgmt.queue = []) (hrelayed : s.relay.relayed = []) :
    frontChoice s = s.alerts.slot.bind fun p =>
      if p.sent1 = false then some ⟨.status1, p.first⟩ else if p.sent2 = false then some ⟨.status2, p.second⟩ else none := by
  simp only [frontChoice, hown, hresponses, hrelayed, List.head?_nil, List.find?_nil, Option.bind_none]
  cases s.alerts.slot with
  | none => rfl
  | some p => simp only [Bool.not_eq_true', Option.bind_some]

/-! ### The hand-over (R153, R163) -/

theorem frontHandover_of_busy (h : s.relay.frontTx ≠ none) : frontHandover s = s := by
  obtain ⟨tx, htx⟩ := Option.ne_none_iff_exists'.mp h
  simp only [frontHandover, htx]

theorem frontHandover_of_idle (hfree : s.relay.frontTx = none) (h : frontChoice s = none) : frontHandover s = s := by
  simp only [frontHandover, hfree, h]

theorem frontHandover_of_choice (hfree : s.relay.frontTx = none) {tx : FrontTx} (h : frontChoice s = some tx) :
    frontHandover s = (markFront tx.source s).onRelay fun r => { r with frontTx := some tx } := by
  simp only [frontHandover, hfree, h]

end Choice

theorem markRelayed_of_alert {older newer : List RelayedFrame} {e : RelayedFrame} (he : isAlert e.frame = true)
    (holder : ∀ x ∈ older, isAlert x.frame = false) :
    markRelayed (older ++ e :: newer) = older ++ { e with inTx := true } :: newer :=
  (if_pos (List.any_eq_true.mpr ⟨e, List.mem_append_right _ List.mem_cons_self, he⟩)).trans
    (changeFirst_of_split _ holder he)

theorem markRelayed_of_routine {e : RelayedFrame} {newer : List RelayedFrame}
    (h : ∀ x ∈ e :: newer, isAlert x.frame = false) : markRelayed (e :: newer) = { e with inTx := true } :: newer := by
  refine if_neg ?_
  rw [List.any_eq_true]
  rintro ⟨x, hx, halert⟩
  exact Bool.false_ne_true ((h x hx).symm.trans halert)

theorem frameSource_ownFrame_of_le {so : Nat} (h : so ≤ 15) (p c d sub : Nat) (data : List Byte) :
    frameSource (ownFrame p c d so sub data) = so :=
  (frameSource_ownFrame p c d so sub data).trans (Nat.mod_eq_of_lt (Nat.lt_succ_of_le h))

theorem frameSubcode_ownFrame_of_lt {sub : Nat} (h : sub < 2 ^ 13) (p c d so : Nat) (data : List Byte) :
    (frameSubcode (ownFrame p c d so sub data)).toNat = sub := by
  rw [frameSubcode_ownFrame, BitVec.toNat_ofNat, Nat.mod_eq_of_lt h]

/-- A cause's code fits the subcode of its alert frame (12.1). -/
theorem causeCode_lt (c : Cause) : causeCode c < 2 ^ 13 := by cases c <;> decide

/-- Settles O43: the choice at each rank, and the mark that the chosen frame carries from then on. -/
theorem frontPortIsHandedByRank : Obligations.FrontPortIsHandedByRank := by
  intro s hpowered _
  extract_lets out sent noAlert
  have hout : out = .next (frontHandover s) := exec_powered rfl hpowered
  rw [hout]
  refine ⟨fun hbusy => congrArg _ (frontHandover_of_busy hbusy), fun hfree => ⟨fun e rest hqueue => ?_, fun hown => ?_⟩⟩
  · refine ⟨alertFrame s e, ?_, rfl, framePriority_ownFrame _ _ _ _ _ _, frameClass_ownFrame _ _ _ _ _ _,
      frameDest_ownFrame _ _ _ _ _ _, fun hposition => frameSource_ownFrame_of_le hposition _ _ _ _ _,
      frameSubcode_ownFrame_of_lt (causeCode_lt e.cause) _ _ _ _ _, rfl⟩
    rw [frontHandover_of_choice hfree (frontChoice_of_ownAlert hqueue)]
    simp only [markFront, State.onAlerts, hqueue]
    rfl
  have hroutine : noAlert → ∀ x ∈ s.relay.relayed, isAlert x.frame = false := fun h x hx =>
    (isAlert_false_iff _).mpr (h x hx)
  refine ⟨fun older e newer hqueue he holder => ?_, fun f frames rest hnone hqueue => ?_,
    fun e newer hnone hresponses hqueue => ?_, fun hresponses hrelayed => ?_⟩
  · have halert := (isAlert_iff e.frame).mpr he
    have hbefore : ∀ x ∈ older, isAlert x.frame = false := fun x hx => (isAlert_false_iff _).mpr (holder x hx)
    rw [frontHandover_of_choice hfree (frontChoice_of_relayedAlert hown (oldestAlert_of_split hqueue halert hbefore)),
      ← markRelayed_of_alert halert hbefore, ← hqueue]
    rfl
  · rw [frontHandover_of_choice hfree (frontChoice_of_response hown (hroutine hnone) hqueue)]
    rfl
  · have hall := hroutine hnone
    rw [frontHandover_of_choice hfree (frontChoice_of_relayed hown hall hresponses hqueue),
      ← markRelayed_of_routine (hqueue ▸ hall), ← hqueue]
    rfl
  · have hchoice := frontChoice_of_slot hown hresponses hrelayed
    refine ⟨fun hslot => ?_, fun p hslot => ?_⟩
    · rw [hslot] at hchoice
      rw [frontHandover_of_idle hfree hchoice]
    · rw [hslot, Option.bind_some] at hchoice
      refine ⟨fun h1 => ?_, fun h1 h2 => ?_, fun h1 h2 => ?_⟩
      · rw [if_pos h1] at hchoice
        rw [frontHandover_of_choice hfree hchoice]
        simp only [markFront, State.onAlerts, hslot]
        rfl
      · rw [h1, if_neg nofun, if_pos h2] at hchoice
        rw [frontHandover_of_choice hfree hchoice]
        simp only [markFront, State.onAlerts, hslot]
        rfl
      · rw [h1, if_neg nofun, h2, if_neg nofun] at hchoice
        rw [frontHandover_of_idle hfree hchoice]

/-! ### The outcome (R153, R162, R164, R168) -/

section Outcome

variable {s : State} {acked : Bool}

theorem frontHandoverOutcome_of_none (h : s.relay.frontTx = none) : frontHandoverOutcome acked s = s := by
  simp only [frontHandoverOutcome, h]

theorem frontHandoverOutcome_of_some {tx : FrontTx} (h : s.relay.frontTx = some tx) : frontHandoverOutcome acked s =
    (frontOutcome tx.source acked s).onRelay fun r => { r with
      frontTx := none, frontUnacked := if acked then r.frontUnacked else min (r.frontUnacked + 1) 65535 } := by
  simp only [frontHandoverOutcome, h]
  rfl

/-- Entries that are not in transmission stay as they are. -/
theorem alertsAfterOutcome_of_waiting {q : List Alert} (h : ∀ x ∈ q, x.inTx = false) :
    q.filterMap (alertAfterOutcome acked) = q := by
  have hsome : ∀ x ∈ q, alertAfterOutcome acked x = some x := fun x hx =>
    if_neg (by rw [h x hx]; exact Bool.false_ne_true)
  rw [List.filterMap_congr hsome, List.filterMap_some]

theorem alertAfterOutcome_of_sent {e : Alert} (h : e.inTx = true) : alertAfterOutcome acked e =
    if acked = true ∧ e.updated = false then none else some { e with inTx := false, updated := false } := by
  rw [alertAfterOutcome, if_pos h]
  simp only [Bool.and_eq_true, Bool.not_eq_true']

theorem alertsAfterOutcome_of_split {before after : List Alert} {e : Alert} (he : e.inTx = true)
    (hothers : ∀ x ∈ before ++ after, x.inTx = false) : (before ++ e :: after).filterMap (alertAfterOutcome acked) =
      if acked = true ∧ e.updated = false then before ++ after
      else before ++ { e with inTx := false, updated := false } :: after := by
  have hbefore := alertsAfterOutcome_of_waiting (acked := acked) fun x hx => hothers x (List.mem_append_left _ hx)
  have hafter := alertsAfterOutcome_of_waiting (acked := acked) fun x hx => hothers x (List.mem_append_right _ hx)
  rw [List.filterMap_append, List.filterMap_cons, alertAfterOutcome_of_sent he, hbefore, hafter]
  split_ifs <;> rfl

/-- The relayed frame in transmission leaves when it was acknowledged and waits again when it was not. -/
theorem relayedOutcome_of_split {older newer : List RelayedFrame} {e : RelayedFrame} (he : e.inTx = true)
    (hothers : ∀ x ∈ older ++ newer, x.inTx = false) : relayedOutcome acked (older ++ e :: newer) =
      if acked then older ++ newer else older ++ { e with inTx := false } :: newer := by
  have hkept : ∀ q : List RelayedFrame, (∀ x ∈ q, x.inTx = false) →
      q.filter (fun e => !e.inTx) = q ∧ q.map (fun e => { e with inTx := false }) = q := fun q hq =>
    ⟨List.filter_eq_self.mpr fun x hx => by rw [hq x hx]; rfl,
      (List.map_congr_left fun x hx => by rw [← hq x hx]).trans (List.map_id' q)⟩
  obtain ⟨holderFilter, holderMap⟩ := hkept older fun x hx => hothers x (List.mem_append_left _ hx)
  obtain ⟨hnewerFilter, hnewerMap⟩ := hkept newer fun x hx => hothers x (List.mem_append_right _ hx)
  unfold relayedOutcome
  split
  · rw [List.filter_append, List.filter_cons_of_neg (by rw [he]; exact Bool.false_ne_true), holderFilter, hnewerFilter]
  · rw [List.map_append, List.map_cons, holderMap, hnewerMap]

theorem dropSentFrame_cons (f : CanFrame) (frames : List CanFrame) (rest : List (List CanFrame)) :
    dropSentFrame ((f :: frames) :: rest) = if frames = [] then rest else frames :: rest := by
  cases frames with
  | nil => rfl
  | cons g gs => rfl

end Outcome

/-- Settles O44: the outcome at each source, and the port that is free after it. -/
theorem frontOutcomesRemoveOrKeep : Obligations.FrontOutcomesRemoveOrKeep := by
  intro s acked hpowered
  extract_lets out relay
  have hout : out = .next (frontHandoverOutcome acked s) := exec_powered rfl hpowered
  rw [hout]
  refine ⟨fun hnone => congrArg _ (frontHandoverOutcome_of_none hnone), fun tx htx => ?_⟩
  rw [frontHandoverOutcome_of_some htx]
  refine ⟨fun hsource before e after hqueue he hothers => ?_, fun hsource hwaiting => ?_,
    fun hsource older e newer hqueue he hothers => ?_, fun hsource f frames rest hqueue => ?_, fun hsource p hslot => ?_,
    fun hsource p hslot => ?_⟩
  · rw [hsource, ← alertsAfterOutcome_of_split he hothers, ← hqueue]
    rfl
  · rw [hsource]
    simp only [frontOutcome, alertOutcome, State.onAlerts, alertsAfterOutcome_of_waiting hwaiting]
    rfl
  · rw [hsource, ← relayedOutcome_of_split he hothers, ← hqueue]
    rfl
  · rw [hsource, hqueue, ← dropSentFrame_cons, ← hqueue]
    cases acked <;> rfl
  · rw [hsource]
    simp only [frontOutcome, statusOutcome, State.onAlerts, hslot, Bool.true_and, Bool.not_true, Bool.false_and,
      Bool.or_false]
    rfl
  · rw [hsource]
    simp only [frontOutcome, statusOutcome, State.onAlerts, hslot, Bool.true_and, Bool.not_false, Bool.false_and,
      Bool.or_false]
    rfl

end Sys2Proof.Machine
end

section
/-! The rear port: the outcome of a hand-over by the port's state and run (R155), and isolation (R157). -/

namespace Sys2Proof.Machine

open Sys2Proof

/-! ### The outcome of a hand-over (R155) -/

/-- The relay once the hand-over in progress has ended. -/
def rearEnded (acked : Bool) (tx : RearTx) (r : Relay) : Relay :=
  if acked then rearAcked { r with rearTx := none } else rearNotAcked tx { r with rearTx := none }

section Outcome

variable {s : State} {acked : Bool} {tx : RearTx}

theorem rearHandoverOutcome_of_none (h : s.relay.rearTx = none) : rearHandoverOutcome acked s = s := by
  simp only [rearHandoverOutcome, h]

theorem rearHandoverOutcome_of_some (h : s.relay.rearTx = some tx) :
    rearHandoverOutcome acked s = settleIsolation (s.onRelay (rearEnded acked tx)) := by
  simp only [rearHandoverOutcome, h]
  rfl

theorem settleIsolation_of_none (h : s.relay.isolation = none) : settleIsolation s = s := by
  simp only [settleIsolation, h]

theorem settleIsolation_of_some {tag : Byte} (h : s.relay.isolation = some tag) :
    settleIsolation s = answer 16 tag (.completed .done) (s.onRelay enterIsolated) := by
  simp only [settleIsolation, h]
  rfl

end Outcome

section Ended

variable {r : Relay} {tx : RearTx}

theorem rearSends_iff (r : Relay) : rearSends r = true ↔ r.rear = .forwarding ∨ r.rear = .noPartner := by
  rw [rearSends, Bool.or_eq_true, beq_iff_eq, beq_iff_eq]

theorem rearAcked_of_sending (h : r.rear = .forwarding ∨ r.rear = .noPartner) :
    rearAcked r = { r with run := 0, rear := .forwarding } := if_pos ((rearSends_iff r).mpr h)

theorem rearAcked_of_closed (h : r.rear = .held ∨ r.rear = .isolated) : rearAcked r = r := by
  refine if_neg ?_
  rw [rearSends_iff]
  obtain h | h := h <;> simp only [h, reduceCtorEq, or_self, not_false_eq_true]

theorem rearNotAcked_of_discarded (h : r.rear = .noPartner ∨ r.rear = .held ∨ r.rear = .isolated) :
    rearNotAcked tx r = discardRear r := by
  obtain h | h | h := h <;> simp only [rearNotAcked, h]

/-- The first two failures in a row: the frame returns, unless the port has left its states or is to be isolated. -/
theorem rearNotAcked_of_forwarding (h : r.rear = .forwarding) (hrun : r.run ≤ 1) : rearNotAcked tx r =
    if r.isolation.isSome || tx.left then discardRear { r with run := r.run + 1 }
    else returnRear tx.item { r with run := r.run + 1 } := by
  simp only [rearNotAcked, h]
  exact if_pos (Nat.lt_succ_of_le hrun)

theorem rearNotAcked_of_lastRun (h : r.rear = .forwarding) (hrun : 2 ≤ r.run) :
    rearNotAcked tx r = enterNoPartner (discardRear { r with run := 3 }) := by
  simp only [rearNotAcked, h]
  exact if_neg hrun.not_gt

/-- The frames that leave on the entry to NO_PARTNER are counted at once, beside a frame just discarded. -/
theorem enterNoPartner_discardRear (r : Relay) : enterNoPartner (discardRear r) = { r with
    rear := .noPartner, rearDiscard := min (r.rearDiscard + 1) 65535, rearward := r.rearward.filter isLinkItem
    flushed := min (r.flushed + (r.rearward.length - (r.rearward.filter isLinkItem).length)) 65535
    drops := min (r.drops + 1 + (r.rearward.length - (r.rearward.filter isLinkItem).length)) 65535 } := by
  have hdrops : ∀ n k : Nat, satAdd (satAdd n 1) k = min (n + 1 + k) 65535 := fun n k => by unfold satAdd; omega
  simp only [enterNoPartner, flushRear, discardRear, dropFrames, hdrops]
  rfl

theorem returnRear_of_replaced {i : RearItem} (hi : isDemandItem i = true) (hany : r.rearward.any isDemandItem = true) :
    returnRear i r = { r with demandReplaced := min (r.demandReplaced + 1) 65535 } :=
  if_pos (by rw [hi, hany]; rfl)

theorem returnRear_of_room {i : RearItem} (h : isDemandItem i = false ∨ r.rearward.any isDemandItem = false)
    (hroom : r.rearward.length < 8) : returnRear i r = { r with rearward := i :: r.rearward } := by
  have hnot : ¬(isDemandItem i && r.rearward.any isDemandItem) = true := by
    rw [Bool.not_eq_true, Bool.and_eq_false_iff]
    exact h
  exact (if_neg hnot).trans (if_pos hroom)

theorem returnRear_of_full {i : RearItem} (hi : isDemandItem i = false) (hfull : 8 ≤ r.rearward.length) : returnRear i r =
    { r with rearFull := min (r.rearFull + 1) 65535, drops := min (r.drops + 1) 65535 } := by
  rw [returnRear, hi, Bool.false_and, if_neg Bool.false_ne_true, if_neg hfull.not_gt, if_neg Bool.false_ne_true]
  rfl

theorem rearAcked_beside (r : Relay) :
    (rearAcked r).isolation = r.isolation ∧ (rearAcked r).rearTx = r.rearTx := by
  unfold rearAcked
  split
  · exact ⟨rfl, rfl⟩
  · exact ⟨rfl, rfl⟩

theorem returnRear_beside (i : RearItem) (r : Relay) :
    (returnRear i r).isolation = r.isolation ∧ (returnRear i r).rearTx = r.rearTx := by
  unfold returnRear
  split_ifs <;> exact ⟨rfl, rfl⟩

theorem rearNotAcked_beside (tx : RearTx) (r : Relay) :
    (rearNotAcked tx r).isolation = r.isolation ∧ (rearNotAcked tx r).rearTx = r.rearTx := by
  unfold rearNotAcked
  split
  · split
    · split
      · exact ⟨rfl, rfl⟩
      · exact returnRear_beside tx.item { r with run := r.run + 1 }
    · exact ⟨rfl, rfl⟩
  · exact ⟨rfl, rfl⟩
  · exact ⟨rfl, rfl⟩
  · exact ⟨rfl, rfl⟩

/-- Neither outcome touches a pending isolation, and the port is free after both. -/
theorem rearEnded_beside (acked : Bool) (tx : RearTx) (r : Relay) :
    (rearEnded acked tx r).isolation = r.isolation ∧ (rearEnded acked tx r).rearTx = none := by
  cases acked with
  | true => exact rearAcked_beside { r with rearTx := none }
  | false => exact rearNotAcked_beside tx { r with rearTx := none }

end Ended

/-- Settles O45: the rows of R155 for an acknowledged and for a failed hand-over, no isolation being pending. -/
theorem rearOutcomesFollowTheRun : Obligations.RearOutcomesFollowTheRun := by
  intro s acked hpowered out
  have hout : out = .next (rearHandoverOutcome acked s) := exec_powered rfl hpowered
  rw [hout]
  refine ⟨fun hnone => congrArg _ (rearHandoverOutcome_of_none hnone), fun tx htx hisolation => ?_⟩
  intro r dropped discarded
  have hended : rearHandoverOutcome acked s = s.onRelay (rearEnded acked tx) := by
    rw [rearHandoverOutcome_of_some htx]
    exact settleIsolation_of_none ((rearEnded_beside acked tx s.relay).1.trans hisolation)
  rw [hended]
  have hacked : acked = true → ∀ {t}, rearAcked r = t →
      (Host.Outcome.next (s.onRelay (rearEnded acked tx)) : Host.Outcome State Fault Refusal) =
        .next { s with relay := t } := fun h _ ht => by rw [h, ← ht]; rfl
  have hfailed : acked = false → ∀ {t}, rearNotAcked tx r = t →
      (Host.Outcome.next (s.onRelay (rearEnded acked tx)) : Host.Outcome State Fault Refusal) =
        .next { s with relay := t } := fun h _ ht => by rw [h, ← ht]; rfl
  have hreturned : r.rear = .forwarding → r.run ≤ 1 → tx.left = false →
      rearNotAcked tx r = returnRear tx.item { r with run := r.run + 1 } := fun hrear hrun hstayed => by
    rw [rearNotAcked_of_forwarding hrear hrun, hstayed, show r.isolation = none from hisolation]
    rfl
  refine ⟨fun h hrear => hacked h (rearAcked_of_sending hrear), fun h hrear => hacked h (rearAcked_of_closed hrear),
    fun h hrear => hfailed h (rearNotAcked_of_discarded hrear), fun h hrear hrun hleft => hfailed h ?_,
    fun h hrear hrun hstayed => ⟨fun hi hany => hfailed h ?_, fun hjoins hroom => hfailed h ?_,
      fun hi hfull => hfailed h ?_⟩, fun h hrear hrun => hfailed h ?_⟩
  · rw [rearNotAcked_of_forwarding hrear hrun, hleft, Bool.or_true, if_pos rfl]
    rfl
  · exact (hreturned hrear hrun hstayed).trans (returnRear_of_replaced hi hany)
  · exact (hreturned hrear hrun hstayed).trans (returnRear_of_room hjoins hroom)
  · exact (hreturned hrear hrun hstayed).trans (returnRear_of_full hi hfull)
  · exact (rearNotAcked_of_lastRun hrear hrun.ge).trans (enterNoPartner_discardRear _)

/-! ### Isolation (R157) -/

/-- Every frame of the rearward queue is flushed on the entry to ISOLATED. -/
theorem enterIsolated_eq (r : Relay) : enterIsolated r = { r with
    rear := .isolated, isolation := none, rearward := [], flushed := min (r.flushed + r.rearward.length) 65535
    drops := min (r.drops + r.rearward.length) 65535 } := by
  have hnone : r.rearward.filter (fun _ => false) = [] := List.filter_false _
  unfold enterIsolated flushRear dropFrames
  dsimp only
  rw [hnone]
  rfl

section Requests

variable {s : State} {q : ReqFrame} {tag : Byte}

theorem exec_isolateRear (h : TakesRequest s q 1 tag) :
    exec (.isolateRear q) s = .next (isolateRear tag (requestTaken s)) := by
  obtain ⟨hpowered, -⟩ := id h
  rw [exec_powered rfl hpowered, request_reaches h (code := codeIsolateRear) (by decide) (by decide)]
  rfl

theorem exec_resumeRear (h : TakesRequest s q 1 tag) :
    exec (.resumeRear q) s = .next (resumeRear tag (requestTaken s)) := by
  obtain ⟨hpowered, -⟩ := id h
  rw [exec_powered rfl hpowered, request_reaches h (code := codeResumeRear) (by decide) (by decide)]
  rfl

theorem isolateRear_of_isolated (h : s.relay.rear = .isolated) : isolateRear tag s = answer 16 tag .done s := if_pos h

section Open

variable (hopen : s.relay.rear ≠ .isolated)
include hopen

theorem isolateRear_of_pending (h : s.relay.isolation ≠ none) :
    isolateRear tag s = answer 16 tag (.refused .busy) s :=
  (if_neg hopen).trans (if_pos (Option.isSome_iff_ne_none.mpr h))

theorem isolateRear_of_free (h : s.relay.isolation = none) (hfree : s.relay.rearTx = none) :
    isolateRear tag s = answer 16 tag .done (s.onRelay enterIsolated) := by
  rw [isolateRear, if_neg hopen, h, if_neg nofun, hfree]
  rfl

theorem isolateRear_of_sending (h : s.relay.isolation = none) (hbusy : s.relay.rearTx ≠ none) : isolateRear tag s =
    answer 16 tag .accepted { s with relay := { s.relay with isolation := some tag } } := by
  rw [isolateRear, if_neg hopen, h, if_neg nofun, if_neg fun hnone => hbusy (Option.isNone_iff_eq_none.mp hnone)]
  rfl

theorem resumeRear_of_pending {held : Byte} (h : s.relay.isolation = some held) : resumeRear tag s =
    answer 17 tag .done (answer 16 held (.completed .cancelled)
      { s with relay := { s.relay with isolation := none } }) := by
  rw [resumeRear, if_neg hopen, h]
  rfl

theorem resumeRear_of_open (h : s.relay.isolation = none) :
    resumeRear tag s = answer 17 tag (.refused .state) s := by
  rw [resumeRear, if_neg hopen, h]
  rfl

end Open

/-- The port resumes FORWARDING on a PLACED part without REAR_OFF, and HELD on any other (R156, R157). -/
theorem resumeRear_of_isolated (h : s.relay.rear = .isolated) : resumeRear tag s =
    answer 17 tag .done { s with relay := { s.relay with
      rear := if s.link.position.isSome = true ∧ s.relay.rearOff = false then .forwarding else .held, run := 0 } } := by
  have hstate : resumedState s =
      if s.link.position.isSome = true ∧ s.relay.rearOff = false then .forwarding else .held := by
    simp only [resumedState, Bool.and_eq_true, Bool.not_eq_true']
  rw [resumeRear, if_pos h, hstate]
  rfl

end Requests

/-- A failed hand-over discards its frame while an isolation is pending, and the frames flushed by its outcome and by the
isolation after it are those of the rearward queue. -/
theorem rearEnded_of_pending {r : Relay} (h : r.isolation ≠ none) (acked : Bool) (tx : RearTx) :
    (rearEnded acked tx r).rearDiscard = (if acked then r.rearDiscard else min (r.rearDiscard + 1) 65535) ∧
    min ((rearEnded acked tx r).flushed + (rearEnded acked tx r).rearward.length) 65535 =
      min (r.flushed + r.rearward.length) 65535 := by
  have hclosed : ∀ {u : Relay}, u = { r with rearTx := none } → rearNotAcked tx u = discardRear u →
      (rearEnded false tx r).rearDiscard = min (r.rearDiscard + 1) 65535 ∧
      min ((rearEnded false tx r).flushed + (rearEnded false tx r).rearward.length) 65535 =
        min (r.flushed + r.rearward.length) 65535 := by
    rintro u rfl hdiscarded
    have hended : rearEnded false tx r = discardRear { r with rearTx := none } := hdiscarded
    rw [hended]
    exact ⟨rfl, rfl⟩
  cases acked with
  | true =>
    have hended : rearEnded true tx r = rearAcked { r with rearTx := none } := rfl
    rw [hended]
    unfold rearAcked
    split
    · exact ⟨rfl, rfl⟩
    · exact ⟨rfl, rfl⟩
  | false =>
    have hended : rearEnded false tx r = rearNotAcked tx { r with rearTx := none } := rfl
    cases hrear : r.rear with
    | forwarding =>
      obtain hrun | hrun := Nat.lt_or_ge r.run 2
      · rw [hended, rearNotAcked_of_forwarding (r := { r with rearTx := none }) hrear (Nat.le_of_lt_succ hrun),
          Option.isSome_iff_ne_none.mpr h]
        exact ⟨rfl, rfl⟩
      · rw [hended, rearNotAcked_of_lastRun (r := { r with rearTx := none }) hrear hrun, enterNoPartner_discardRear]
        have hfewer := List.length_filter_le isLinkItem r.rearward
        refine ⟨rfl, ?_⟩
        dsimp only
        omega
    | noPartner => exact hclosed rfl (rearNotAcked_of_discarded (.inl hrear))
    | held => exact hclosed rfl (rearNotAcked_of_discarded (.inr (.inl hrear)))
    | isolated => exact hclosed rfl (rearNotAcked_of_discarded (.inr (.inr hrear)))

/-- Settles O46: the two requests by the port's state and the isolation pending, and an isolation that takes effect with the
outcome it has waited for. -/
theorem isolationCutsTheRearOff : Obligations.IsolationCutsTheRearOff := by
  refine ⟨fun s q tag h => ?_, fun s tx held acked hpowered htx hpending => ?_⟩
  · intro u r n
    rw [exec_isolateRear h, exec_resumeRear h]
    refine ⟨fun hrear => congrArg _ (isolateRear_of_isolated (s := u) hrear),
      fun hopen hbusy => congrArg _ (isolateRear_of_pending (s := u) hopen hbusy), fun hopen hnone hfree => ?_,
      fun hopen hnone hbusy => congrArg _ (isolateRear_of_sending (s := u) hopen hnone hbusy),
      fun hrear => congrArg _ (resumeRear_of_isolated (s := u) hrear),
      fun held hopen hheld => congrArg _ (resumeRear_of_pending (s := u) hopen hheld),
      fun hopen hnone => congrArg _ (resumeRear_of_open (s := u) hopen hnone)⟩
    rw [isolateRear_of_free (s := u) hopen hnone hfree, State.onRelay, enterIsolated_eq]
    rw [← hnone]
  · have hsome : s.relay.isolation ≠ none := by rw [hpending]; exact nofun
    obtain ⟨hdiscards, hflushed⟩ := rearEnded_of_pending hsome acked tx
    obtain ⟨hkept, hfree⟩ := rearEnded_beside acked tx s.relay
    have hsettled : rearHandoverOutcome acked s = answer 16 held (.completed .done)
        ((s.onRelay (rearEnded acked tx)).onRelay enterIsolated) := by
      rw [rearHandoverOutcome_of_some htx]
      exact settleIsolation_of_some (hkept.trans hpending)
    have hrelay : (rearHandoverOutcome acked s).relay = enterIsolated (rearEnded acked tx s.relay) := by
      rw [hsettled]
      rfl
    refine ⟨rearHandoverOutcome acked s, exec_powered rfl hpowered, ?_⟩
    rw [hrelay, enterIsolated_eq]
    refine ⟨rfl, hfree, rfl, rfl, hflushed, hdiscards, fun hroom => ?_, rearHandoverOutcome_touches s acked⟩
    rw [hsettled, answer_mgmt]
    exact congrArg Mgmt.queue (if_pos hroom)

end Sys2Proof.Machine
end

section
/-! Requests at the front port: a request is a frame of its code (R149), the order in which the engine judges it (R168), and
its answer (12.1). -/

namespace Sys2Proof.Machine

open Sys2Proof

/-! ### Requests as frames (R149) -/

theorem frameArrival_request (code : Nat) (q : ReqFrame) (s : State) :
    frameArrival .front (requestFrame code q) s = requestArrival code q s :=
  (arriveFront_of_extended (f := requestFrame code q) rfl).trans (handleFront_of_request (requestFrame_class code q))

theorem exec_request_eq_arrival {c : Instr} {code : Nat} {q : ReqFrame} (h : effectOf c = some (requestArrival code q))
    (s : State) : exec c s = exec (.frameArrival .front (requestFrame code q)) s := by
  rw [exec_effect h, exec_effect (c := .frameArrival .front (requestFrame code q)) rfl, live, live, frameArrival_request]

/-- A request frame for this part or for every part is taken by the engine, and a broadcast one is then offered rearward. -/
theorem exec_requestFrame {s : State} {f : CanFrame} (hpowered : s.powered = true) (hext : f.extended = true)
    (hclass : frameClass f = 5) (hdest : frameDest f = chainPosition s ∨ frameDest f = 15) :
    exec (.frameArrival .front f) s = .next (if frameDest f = 15
      then (engineTakes f (frontCounted s)).onRelay (offerRear (.frame f)) else engineTakes f (frontCounted s)) := by
  rw [exec_frontArrival hpowered, arriveFront_of_extended hext, handleFront_of_request hclass]
  by_cases h15 : frameDest f = 15
  · rw [if_pos h15, handleRequest_of_broadcast h15]
  · rw [if_neg h15, handleRequest_of_addressed (s := frontCounted s) h15 (hdest.resolve_right h15)]

/-! ### The judgement (R168) -/

theorem requestLength_eq : ∀ code ≤ 18, 1 ≤ code →
    requestLength code = [4, 2, 8, 2, 2, 1, 3, 1, 1, 4, 2, 2, 1, 4, 1, 1, 1, 1].getD (code - 1) 0 := by decide

section Judgement

variable {s : State} {f : CanFrame} {tag : Byte}

theorem engineTakes_of_untagged (h : f.data = []) :
    engineTakes f (frontCounted s) = countMalformed (requestTaken s) := by
  simp only [engineTakes, h]
  rfl

theorem engineTakes_of_tagged {rest : List Byte} (h : f.data = tag :: rest) :
    engineTakes f (frontCounted s) = judgeRequest f tag (requestTaken s) := by
  simp only [engineTakes, h]
  rfl

theorem judgeRequest_of_unknown (h : frameCode f = 0 ∨ 18 < frameCode f) : judgeRequest f tag s =
    answer (frameCode f) tag (.refused .unknown)
      { s with mgmt := { s.mgmt with unknown := min (s.mgmt.unknown + 1) 65535 } } :=
  if_pos (h.imp_left Nat.lt_one_iff.mpr)

section Known

variable (hknown : 1 ≤ frameCode f ∧ frameCode f ≤ 18)
include hknown

theorem judgeRequest_of_short (h : f.data.length < requestLength (frameCode f)) : judgeRequest f tag s =
    answer (frameCode f) tag (.refused .range) (countMalformed s) :=
  (if_neg fun hunknown => by omega).trans (if_pos h)

theorem judgeRequest_of_broadcast (hlong : requestLength (frameCode f) ≤ f.data.length) (h15 : frameDest f = 15)
    (hread : frameCode f ≠ 1) : judgeRequest f tag s = answer (frameCode f) tag (.refused .state) s :=
  (if_neg fun hunknown => by omega).trans ((if_neg hlong.not_gt).trans (if_pos ⟨h15, hread⟩))

end Known

end Judgement

/-- An answer's frame has the part's own fields, and its subcode is the request's code (12.1). -/
theorem responseFrame_fields (s : State) {code : Nat} (h : code < 32) (data : List Byte) :
    framePriority (responseFrame s code data) = 5 ∧ frameClass (responseFrame s code data) = 6 ∧
    frameDest (responseFrame s code data) = 0 ∧
    (chainPosition s ≤ 15 → frameSource (responseFrame s code data) = chainPosition s) ∧
    (frameSubcode (responseFrame s code data)).toNat = code :=
  ⟨framePriority_ownFrame _ _ _ _ _ _, frameClass_ownFrame _ _ _ _ _ _, frameDest_ownFrame _ _ _ _ _ _,
    fun hposition => frameSource_ownFrame_of_le hposition _ _ _ _ _,
    frameSubcode_ownFrame_of_lt (h.trans (by decide)) _ _ _ _ _⟩

/-- Settles O50: each request as the frame of its code, the judgements in their order, and the entry that an answer is. -/
theorem requestsAreJudgedInOrder : Obligations.RequestsAreJudgedInOrder := by
  refine ⟨fun s q => ?_, fun s f hpowered hext hclass hdest => ?_, fun s code tag a hcode => ?_⟩
  · have asFrame := fun {c : Instr} {code : Nat} (h : effectOf c = some (requestArrival code q)) =>
      exec_request_eq_arrival h s
    exact ⟨asFrame rfl, asFrame rfl, asFrame rfl, asFrame rfl, asFrame rfl, asFrame rfl, asFrame rfl, asFrame rfl, asFrame rfl,
      asFrame rfl, asFrame rfl, asFrame rfl, asFrame rfl, asFrame rfl, asFrame rfl, asFrame rfl, asFrame rfl, asFrame rfl⟩
  · intro offered u out code
    have hout : ∀ {t}, engineTakes f (frontCounted s) = t → out = .next (offered t) := fun ht =>
      (exec_requestFrame hpowered hext hclass hdest).trans (by rw [ht]; rfl)
    refine ⟨fun hempty => hout (engineTakes_of_untagged hempty), fun tag rest hdata => ?_⟩
    have hjudged : ∀ {t}, judgeRequest f tag u = t → out = .next (offered t) := fun ht =>
      hout ((engineTakes_of_tagged hdata).trans ht)
    refine ⟨fun hunknown => hjudged (judgeRequest_of_unknown hunknown), fun hlow hhigh hshort => hjudged ?_,
      fun hlow hhigh hlong h15 => hjudged ?_⟩
    · rw [← requestLength_eq code hhigh hlow] at hshort
      exact judgeRequest_of_short ⟨hlow, hhigh⟩ hshort
    · have hfirst : 1 ≤ code := Nat.one_le_of_lt hlow
      rw [← requestLength_eq code hhigh hfirst] at hlong
      exact judgeRequest_of_broadcast ⟨hfirst, hhigh⟩ hlong h15 (Nat.ne_of_gt hlow)
  · obtain ⟨hpriority, hclass, hdest, hsource, hcodeOf⟩ := responseFrame_fields s hcode (tag :: answerBytes a)
    exact ⟨responseFrame s code (tag :: answerBytes a), rfl, rfl, hpriority, hclass, hdest, hsource, hcodeOf, rfl⟩

end Sys2Proof.Machine
end

section
/-! A raise taken into the own alert queue (R161): the order of the queue, where a new entry goes, and the entry that gives
way in a full queue. -/

namespace Sys2Proof.Machine

open Sys2Proof

/-! ### The order of the own alert queue -/

/-- One alert stands before another: of a higher priority, or of the same code and raised at or before it, times compared
by their age (R161; log 37). -/
def RaisedBefore (now : Stamp) (x y : Alert) : Prop :=
  causeCode x.cause < causeCode y.cause ∨
    (causeCode x.cause = causeCode y.cause ∧ (now - y.time).toNat ≤ (now - x.time).toNat)

/-- Two alerts of one cause and subject. -/
def SameRaise (x y : Alert) : Prop := x.cause = y.cause ∧ x.subject = y.subject

theorem standsBefore_iff {now : Stamp} {new e : Alert} : standsBefore now new e = true ↔ RaisedBefore now e new := by
  simp only [standsBefore, Bool.or_eq_true, Bool.and_eq_true, decide_eq_true_eq]
  exact Iff.rfl

theorem RaisedBefore.trans {now : Stamp} {x y z : Alert} (h : RaisedBefore now x y) (k : RaisedBefore now y z) :
    RaisedBefore now x z := by
  unfold RaisedBefore at *
  omega

theorem RaisedBefore.of_not {now : Stamp} {x y : Alert} (h : ¬RaisedBefore now x y) : RaisedBefore now y x := by
  unfold RaisedBefore at *
  omega

theorem SameRaise.symm {x y : Alert} (h : SameRaise x y) : SameRaise y x := ⟨h.1.symm, h.2.symm⟩

theorem SameRaise.of_new {x y new : Alert} (hy : SameRaise y new) (hx : SameRaise x new) : SameRaise x y :=
  ⟨hx.1.trans hy.1.symm, hx.2.trans hy.2.symm⟩

theorem sameAlert_iff_sameRaise {new e : Alert} : sameAlert new.cause new.subject e = true ↔ SameRaise e new := by
  simp [sameAlert, SameRaise]

/-- What an entry stands in the order by, case 1 of R161 leaves. -/
theorem updateAlert_order (cause : Cause) (subject : Subject) (value : Nat) (e : Alert) :
    (updateAlert cause subject value e).cause = e.cause ∧ (updateAlert cause subject value e).time = e.time := by
  unfold updateAlert
  split
  · exact ⟨rfl, rfl⟩
  · exact ⟨rfl, rfl⟩

/-! ### Where a new entry goes -/

/-- The entries of a queue in order that stand before a new one, and those that do not. -/
structure SplitsAt (now : Stamp) (new : Alert) (q before after : List Alert) : Prop where
  split : q = before ++ after
  first : ∀ x ∈ before, RaisedBefore now x new
  last : ∀ x ∈ after, ¬RaisedBefore now x new

/-- In a queue in order the new entry goes behind the last one that stands before it. -/
theorem insertAlert_splits {now : Stamp} (new : Alert) {q : List Alert} (h : q.Pairwise (RaisedBefore now)) :
    ∃ before after, SplitsAt now new q before after ∧ insertAlert now new q = before ++ new :: after := by
  induction q with
  | nil => exact ⟨[], [], ⟨rfl, nofun, nofun⟩, rfl⟩
  | cons e q ih =>
    obtain ⟨hhead, hrest⟩ := List.pairwise_cons.mp h
    by_cases he : RaisedBefore now e new
    · obtain ⟨before, after, ⟨hq, hfirst, hlast⟩, hinsert⟩ := ih hrest
      refine ⟨e :: before, after, ⟨by rw [hq, List.cons_append], ?_, hlast⟩, ?_⟩
      · exact List.forall_mem_cons.mpr ⟨he, hfirst⟩
      · rw [insertAlert, if_pos (standsBefore_iff.mpr he), hinsert, List.cons_append]
    · have hlast : ∀ x ∈ e :: q, ¬RaisedBefore now x new :=
        List.forall_mem_cons.mpr ⟨he, fun x hx hnew => he ((hhead x hx).trans hnew)⟩
      refine ⟨[], e :: q, ⟨rfl, nofun, hlast⟩, ?_⟩
      rw [insertAlert, if_neg (mt standsBefore_iff.mp he), List.nil_append]

theorem insertAlert_in_order {now : Stamp} (new : Alert) {q : List Alert} (h : q.Pairwise (RaisedBefore now)) :
    (insertAlert now new q).Pairwise (RaisedBefore now) := by
  obtain ⟨before, after, ⟨rfl, hfirst, hlast⟩, hinsert⟩ := insertAlert_splits new h
  obtain ⟨hbefore, hafter, hacross⟩ := List.pairwise_append.mp h
  rw [hinsert]
  refine List.pairwise_append.mpr ⟨hbefore, List.pairwise_cons.mpr ⟨fun x hx => .of_not (hlast x hx), hafter⟩, ?_⟩
  exact fun x hx => List.forall_mem_cons.mpr ⟨hfirst x hx, hacross x hx⟩

/-! ### The entry that gives way -/

/-- The entry of a full queue that a raise of a higher priority displaces: the last of the lowest priority among the
entries not in transmission. -/
structure LastCandidate (before : List Alert) (e : Alert) (after : List Alert) : Prop where
  free : e.inTx = false
  before : ∀ x ∈ before, x.inTx = true ∨ causeCode x.cause ≤ causeCode e.cause
  after : ∀ x ∈ after, x.inTx = true ∨ causeCode x.cause < causeCode e.cause

theorem lowestCandidateCode_none {q : List Alert} (h : ∀ e ∈ q, e.inTx = true) : lowestCandidateCode q = none := by
  induction q with
  | nil => rfl
  | cons e q ih =>
    obtain ⟨he, hq⟩ := List.forall_mem_cons.mp h
    rw [lowestCandidateCode, if_pos he, ih hq]

/-- No candidate has a code above one that no entry out of transmission exceeds. -/
theorem lowestCandidateCode_le {q : List Alert} {code : Nat}
    (h : ∀ x ∈ q, x.inTx = true ∨ causeCode x.cause ≤ code) :
    maxReading (some code) (lowestCandidateCode q) = some code := by
  induction q with
  | nil => rfl
  | cons e q ih =>
    obtain ⟨he, hq⟩ := List.forall_mem_cons.mp h
    rw [lowestCandidateCode]
    split
    · exact ih hq
    · next hfree =>
      have hle : causeCode e.cause ≤ code := he.resolve_left hfree
      have hrest := ih hq
      cases hlow : lowestCandidateCode q with
      | none => simp [maxReading, hle]
      | some n =>
        rw [hlow] at hrest
        simp only [maxReading, Option.some.injEq] at hrest ⊢
        omega

theorem lowestCandidateCode_of_lastCandidate {before after : List Alert} {e : Alert} (h : LastCandidate before e after) :
    lowestCandidateCode (before ++ e :: after) = some (causeCode e.cause) := by
  obtain ⟨hfree, hbefore, hafter⟩ := h
  induction before with
  | nil =>
    rw [List.nil_append, lowestCandidateCode, hfree, if_neg Bool.false_ne_true]
    exact lowestCandidateCode_le fun x hx => (hafter x hx).imp_right Nat.le_of_lt
  | cons x before ih =>
    obtain ⟨hx, hrest⟩ := List.forall_mem_cons.mp hbefore
    rw [List.cons_append, lowestCandidateCode, ih hrest]
    split
    · rfl
    · next hxfree => exact congrArg some (Nat.max_eq_right (hx.resolve_left hxfree))

theorem dropLastCandidate_of_lastCandidate {before after : List Alert} {e : Alert} (h : LastCandidate before e after) :
    dropLastCandidate (causeCode e.cause) (before ++ e :: after) = before ++ after := by
  obtain ⟨hfree, -, hafter⟩ := h
  induction before with
  | nil =>
    have hnone : after.any (isCandidate (causeCode e.cause)) = false := List.any_eq_false.mpr fun x hx => by
      rcases hafter x hx with htx | hlt
      · simp [isCandidate, htx]
      · simp [isCandidate, Nat.ne_of_lt hlt]
    rw [List.nil_append, dropLastCandidate]
    refine (if_neg ?_).trans (if_pos (by simp [hfree]))
    exact fun hany => Bool.false_ne_true (hnone.symm.trans hany)
  | cons x before ih =>
    rw [List.cons_append, dropLastCandidate, ih, List.cons_append]
    exact if_pos (List.any_eq_true.mpr ⟨e, by simp, by simp [hfree]⟩)

/-! ### The four cases of a raise -/

section Cases

variable {now : Stamp} {new : Alert} {a : Alerts}

/-- Case 1 of R161: the entry of the cause and subject takes the value; it is the only one. -/
theorem placeAlert_of_repeat {before after : List Alert} {e : Alert} (hq : a.queue = before ++ e :: after)
    (hsame : SameRaise e new) (hapart : a.queue.Pairwise fun x y => ¬SameRaise x y) : placeAlert now new a =
      { a with queue := before ++ { e with value := new.value, updated := e.updated || e.inTx } :: after } := by
  have hany : a.queue.any (sameAlert new.cause new.subject) = true :=
    List.any_eq_true.mpr ⟨e, by simp [hq], sameAlert_iff_sameRaise.mpr hsame⟩
  have hother : ∀ {l : List Alert}, (∀ x ∈ l, ¬SameRaise x e) →
      l.map (updateAlert new.cause new.subject new.value) = l := fun hl =>
    (List.map_congr_left fun x hx => if_neg fun hxnew =>
      hl x hx (.of_new hsame (sameAlert_iff_sameRaise.mp hxnew))).trans (List.map_id _)
  have hupdate : updateAlert new.cause new.subject new.value e =
      { e with value := new.value, updated := e.updated || e.inTx } := if_pos (sameAlert_iff_sameRaise.mpr hsame)
  rw [hq] at hapart
  obtain ⟨-, hafter, hbefore⟩ := List.pairwise_append.mp hapart
  have hleft := hother fun x hx => hbefore x hx e List.mem_cons_self
  have hright := hother fun x hx => mt SameRaise.symm ((List.pairwise_cons.mp hafter).1 x hx)
  rw [placeAlert, if_pos hany, hq, List.map_append, List.map_cons, hleft, hupdate, hright]

section New

variable (hnew : ∀ e ∈ a.queue, ¬SameRaise e new)
include hnew

theorem not_any_sameAlert : ¬a.queue.any (sameAlert new.cause new.subject) = true := by
  rw [List.any_eq_true]
  exact fun ⟨e, he, hsame⟩ => hnew e he (sameAlert_iff_sameRaise.mp hsame)

/-- Case 2 of R161: room in the queue. -/
theorem placeAlert_of_room (hroom : a.queue.length < 4) :
    placeAlert now new a = { a with queue := insertAlert now new a.queue } := by
  rw [placeAlert, if_neg (not_any_sameAlert hnew), if_pos hroom]

section Full

variable (hfull : a.queue.length = 4)
include hfull

/-- Case 3 of R161: a full queue with an entry of a lower priority that is not in transmission. -/
theorem placeAlert_of_lower {before after : List Alert} {e : Alert} (hq : a.queue = before ++ e :: after)
    (hlast : LastCandidate before e after) (hlower : causeCode new.cause < causeCode e.cause) :
    placeAlert now new a =
      { a with queue := insertAlert now new (before ++ after), lost := min (a.lost + 1) 65535 } := by
  rw [placeAlert, if_neg (not_any_sameAlert hnew), if_neg hfull.not_lt, hq, lowestCandidateCode_of_lastCandidate hlast]
  dsimp only
  rw [if_pos hlower, dropLastCandidate_of_lastCandidate hlast]
  rfl

/-- Case 4 of R161: a full queue in which no entry that is not in transmission has a lower priority. -/
theorem placeAlert_of_higher {before after : List Alert} {e : Alert} (hq : a.queue = before ++ e :: after)
    (hlast : LastCandidate before e after) (hhigher : causeCode e.cause ≤ causeCode new.cause) :
    placeAlert now new a = { a with lost := min (a.lost + 1) 65535 } := by
  rw [placeAlert, if_neg (not_any_sameAlert hnew), if_neg hfull.not_lt, hq, lowestCandidateCode_of_lastCandidate hlast]
  dsimp only
  rw [if_neg hhigher.not_gt]
  rfl

theorem placeAlert_of_sending (hsending : ∀ e ∈ a.queue, e.inTx = true) :
    placeAlert now new a = { a with lost := min (a.lost + 1) 65535 } := by
  rw [placeAlert, if_neg (not_any_sameAlert hnew), if_neg hfull.not_lt, lowestCandidateCode_none hsending]
  rfl

end Full

end New

end Cases

/-- A raise leaves the queue in the order of R161. -/
theorem placeAlert_in_order {now : Stamp} (new : Alert) {a : Alerts} (h : a.queue.Pairwise (RaisedBefore now)) :
    (placeAlert now new a).queue.Pairwise (RaisedBefore now) := by
  unfold placeAlert
  split
  · refine List.pairwise_map.mpr (h.imp fun {x y} hxy => ?_)
    obtain ⟨hcause, htime⟩ := updateAlert_order new.cause new.subject new.value x
    obtain ⟨hcause', htime'⟩ := updateAlert_order new.cause new.subject new.value y
    rwa [RaisedBefore, hcause, htime, hcause', htime']
  · split
    · exact insertAlert_in_order new h
    · split
      · split
        · exact insertAlert_in_order new (h.sublist (dropLastCandidate_sublist _ _))
        · exact h
      · exact h

/-- Settles O47: the four cases of R161 one by one; the order and the bound of the queue are kept in each. -/
theorem raisesArePlacedByPriority : Obligations.RaisesArePlacedByPriority := by
  refine ⟨fun _ _ _ _ => rfl, fun now new a => ?_⟩
  intro first same b placedIn lost horder hapart hlen
  have placed : ∀ {q : List Alert}, q.Sublist a.queue → b.queue = insertAlert now new q → placedIn q := fun hq hb => by
    obtain ⟨before, after, ⟨hsplit, hfirst, hlast⟩, hinsert⟩ := insertAlert_splits new (horder.sublist hq)
    exact ⟨before, after, hsplit, hb.trans hinsert, hfirst, hlast⟩
  obtain ⟨hlenAfter, hapartAfter⟩ := (alertsBound_iff b).mp
    (placeAlert_bound now new ((alertsBound_iff a).mpr ⟨hlen, hapart⟩))
  refine ⟨fun before e after hq hsame => placeAlert_of_repeat hq hsame hapart, fun hnew => ⟨fun hroom => ?_,
    fun hfull before e after hq hfree hbefore hafter => ⟨fun hlower => ?_, fun hhigher => ?_⟩,
    placeAlert_of_sending hnew⟩, placeAlert_in_order new horder, hapartAfter, hlenAfter⟩
  · have hb : b = { a with queue := insertAlert now new a.queue } := placeAlert_of_room hnew hroom
    exact ⟨placed (.refl _) (congrArg Alerts.queue hb), hb.trans (by rw [hb])⟩
  · have hb : b = { a with queue := insertAlert now new (before ++ after), lost := lost } :=
      placeAlert_of_lower hnew hfull hq ⟨hfree, hbefore, hafter⟩ hlower
    have hsub : (before ++ after).Sublist a.queue := hq ▸ (List.sublist_cons_self e after).append_left before
    exact ⟨placed hsub (congrArg Alerts.queue hb), hb.trans (by rw [hb])⟩
  · exact placeAlert_of_higher hnew hfull hq ⟨hfree, hbefore, hafter⟩ hhigher

end Sys2Proof.Machine
end

section
/-! The status pair (R164, R165): the worst tyre state, and the fields of the two payloads where 12.1 places them. -/

namespace Sys2Proof.Machine

open Sys2Proof

/-! ### The worst tyre state (R131) -/

/-- The states that rank, the worst first (R131). -/
def tyreRanking : List TyreState := [.fastLeak, .veryLow, .hot, .low, .lost, .high, .noData, .ok]

/-- Where a position's state stands in the ranking: 8 when it does not rank. -/
def rankOf (s : State) (p : Position) : Nat := tyreRanking.idxOf (tyre s p).state

theorem rankOf_le (s : State) (p : Position) : rankOf s p ≤ 8 := List.idxOf_le_length

theorem tyreRank_eq (st : TyreState) :
    tyreRank st = if tyreRanking.idxOf st < 8 then some (tyreRanking.idxOf st) else none := by
  cases st <;> rfl

theorem tyreRank_of_ranked {s : State} {p : Position} (h : rankOf s p < 8) :
    tyreRank (tyre s p).state = some (rankOf s p) := (tyreRank_eq _).trans (if_pos h)

theorem tyreRank_of_unranked {s : State} {p : Position} (h : rankOf s p = 8) : tyreRank (tyre s p).state = none :=
  (tyreRank_eq _).trans (if_neg h.not_lt)

/-- A position ranks, and none of a list ranks before it: least rank, then least number. -/
def Leads (s : State) (p : Position) (l : List Position) : Prop :=
  rankOf s p < 8 ∧ ∀ i ∈ l, rankOf s p < rankOf s i ∨ (rankOf s p = rankOf s i ∧ p ≤ i)

/-- What the search for the worst of a list of positions says of the list. -/
def WorstOf (s : State) (l : List Position) : Option Position → Prop
  | none => ∀ i ∈ l, rankOf s i = 8
  | some p => Leads s p l

theorem worstTyreOf_worst (s : State) {l : List Position} (hsorted : l.Pairwise (· < ·)) :
    WorstOf s l (worstTyreOf s l) := by
  induction l with
  | nil => exact nofun
  | cons p l ih =>
    obtain ⟨hbelow, hrest⟩ := List.pairwise_cons.mp hsorted
    have hworst := ih hrest
    rcases (rankOf_le s p).lt_or_eq with hp | hp
    · rw [worstTyreOf, tyreRank_of_ranked hp]
      cases hq : worstTyreOf s l with
      | none =>
        rw [hq] at hworst
        exact ⟨hp, List.forall_mem_cons.mpr
          ⟨.inr ⟨rfl, le_refl p⟩, fun i hi => .inl (hp.trans_eq (hworst i hi).symm)⟩⟩
      | some q =>
        rw [hq] at hworst
        obtain ⟨hranked, hleads⟩ := hworst
        dsimp only
        rw [tyreRank_of_ranked hranked]
        dsimp only
        split
        · next hle =>
          refine ⟨hp, List.forall_mem_cons.mpr ⟨.inr ⟨rfl, le_refl p⟩, fun i hi => ?_⟩⟩
          have hpi : p ≤ i := (hbelow i hi).le
          rcases hleads i hi with hlt | ⟨heq, -⟩
          · exact .inl (hle.trans_lt hlt)
          · exact (hle.trans_eq heq).lt_or_eq.imp_right fun h => ⟨h, hpi⟩
        · next hlt => exact ⟨hranked, List.forall_mem_cons.mpr ⟨.inl (Nat.lt_of_not_le hlt), hleads⟩⟩
    · rw [worstTyreOf, tyreRank_of_unranked hp]
      dsimp only
      cases hq : worstTyreOf s l with
      | none =>
        rw [hq] at hworst
        exact List.forall_mem_cons.mpr ⟨hp, hworst⟩
      | some q =>
        rw [hq] at hworst
        obtain ⟨hranked, hleads⟩ := hworst
        exact ⟨hranked, List.forall_mem_cons.mpr ⟨.inl (hranked.trans_eq hp.symm), hleads⟩⟩

/-- The worst tyre state as STATUS-2 shows it: ABSENT with position 0, or the state of the position that leads (R131). -/
theorem worstTyre_spec (s : State) : ((∀ j, rankOf s j = 8) → worstTyre s = (.absent, 0)) ∧
    ∀ i, rankOf s i < 8 → ∃ j : Position, worstTyre s = ((tyre s j).state, j.val) ∧
      (rankOf s j < rankOf s i ∨ (rankOf s j = rankOf s i ∧ j ≤ i)) := by
  have hworst := worstTyreOf_worst s (l := allPositions) (by decide)
  unfold worstTyre
  cases hq : worstTyreOf s allPositions with
  | none =>
    rw [hq] at hworst
    exact ⟨fun _ => rfl, fun i hi => absurd (hworst i (mem_allPositions i)) hi.ne⟩
  | some q =>
    rw [hq] at hworst
    obtain ⟨hranked, hleads⟩ := hworst
    exact ⟨fun hnone => absurd (hnone q) hranked.ne, fun i _ => ⟨q, rfl, hleads i (mem_allPositions i)⟩⟩

theorem worstTyre_position_le (s : State) : (worstTyre s).2 ≤ 15 := by
  unfold worstTyre
  split
  · next p _ => exact Nat.le_of_lt_succ p.isLt
  · exact Nat.zero_le _

/-! ### Words and bytes of a payload (12.1) -/

theorem toNat_byteOf {n : Nat} (h : n ≤ 255) : (byteOf n).toNat = n :=
  (BitVec.toNat_ofNat n 8).trans (Nat.mod_eq_of_lt (Nat.lt_succ_of_le h))

theorem toNat_countByte (n : Nat) : (countByte n).toNat = min n 255 := toNat_byteOf (Nat.min_le_right n 255)

/-- The two bytes of a word give it back. -/
theorem toNat_wordBytes {n : Nat} (h : n ≤ 65535) : 256 * (byteOf (n / 256)).toNat + (byteOf n).toNat = n :=
  dataWord_wordBytes n h []

/-! ### The ranges of the fields (12.1) -/

theorem chanStateCode_le (st : ChanState) : chanStateCode st ≤ 5 := by cases st <;> decide

theorem supplyStateCode_le (st : SupplyState) : supplyStateCode st ≤ 5 := by cases st <;> decide

theorem rollStateCode_le (st : RollState) : rollStateCode st ≤ 4 := by cases st <;> decide

theorem failSafeCode_le (st : FailSafe) : failSafeCode st ≤ 2 := by cases st <;> decide

theorem demandSourceCode_le (src : DemandSource) : demandSourceCode src ≤ 2 := by cases src <;> decide

theorem tyreStateCode_le (st : TyreState) : tyreStateCode st ≤ 9 := by cases st <;> decide

/-- A reading of the reservoir or of the supply fits its eleven bits. -/
theorem inputValue_lt {s : State} (h : PressureInv s) {i : Fin 16} (hmax : inputMax i = 1200) : inputValue s i < 2048 := by
  obtain ⟨-, -, -, -, hinputs⟩ := h
  obtain ⟨⟨-, hle⟩, -⟩ := hinputs i
  unfold inputValue
  omega

/-! ### STATUS-1 -/

theorem loadWord_eq (e : Estimate) : loadWord e = e.load % 8192 + (if e.state = .valid then 32768 else 0) := by
  unfold loadWord
  cases e.state <;> rfl

theorem loadWord_le (e : Estimate) : loadWord e ≤ 65535 := by
  rw [loadWord_eq]
  split <;> omega

/-- The fields of STATUS-1 where 12.1 places them: the payload is a list of eight bytes, of which each field is one or two. -/
theorem status1Payload_fields (s : State) :
    dataWord (status1Payload s) 0 = loadWord s.load.a ∧ dataWord (status1Payload s) 2 = loadWord s.load.b ∧
    dataByte (status1Payload s) 4 = supplyStateCode s.air.state + 16 * rollStateCode s.roll.state ∧
    dataByte (status1Payload s) 5 = failSafeCode s.arbiter.failSafe ∧
    dataWord (status1Payload s) 6 = chanStateCode (chan s 0).state + 16 * chanStateCode (chan s 1).state +
      256 * chanStateCode (chan s 2).state + 4096 * chanStateCode (chan s 3).state := by
  have hsupply := supplyStateCode_le s.air.state
  have hroll := rollStateCode_le s.roll.state
  have hfailSafe := failSafeCode_le s.arbiter.failSafe
  have h0 := chanStateCode_le (chan s 0).state
  have h1 := chanStateCode_le (chan s 1).state
  have h2 := chanStateCode_le (chan s 2).state
  have h3 := chanStateCode_le (chan s 3).state
  exact ⟨toNat_wordBytes (loadWord_le _), toNat_wordBytes (loadWord_le _), toNat_byteOf (by omega),
    toNat_byteOf (by omega), toNat_wordBytes (by omega)⟩

/-! ### STATUS-2 -/

theorem mul_toNat_eq_ite (n : Nat) (b : Bool) : n * b.toNat = if b then n else 0 := by cases b <;> simp

/-- The words of STATUS-2 where 12.1 places their fields; the bounds of the pressures keep each field in its bits. -/
theorem status2Payload_fields {s : State} (hinv : PressureInv s) :
    dataWord (status2Payload s) 0 = inputValue s inputReservoir + (if inputValid s inputReservoir then 2048 else 0) +
      4096 * (worstTyre s).2 ∧
    dataWord (status2Payload s) 2 = inputValue s inputSupply + (if inputValid s inputSupply then 2048 else 0) +
      4096 * demandSourceCode s.arbiter.source + (if s.load.a.overload then 16384 else 0) +
      (if s.load.b.overload then 32768 else 0) ∧
    dataWord (status2Payload s) 4 = demandLevel s + 4096 * tyreStateCode (worstTyre s).1 := by
  have hreservoir := inputValue_lt hinv (i := inputReservoir) rfl
  have hsupply := inputValue_lt hinv (i := inputSupply) rfl
  obtain ⟨-, -, harbiter, -⟩ := hinv
  have hdemand := demandLevel_le harbiter
  have hposition := worstTyre_position_le s
  have hsource := demandSourceCode_le s.arbiter.source
  have hstate := tyreStateCode_le (worstTyre s).1
  have hreservoirValid := (inputValid s inputReservoir).toNat_le
  have hsupplyValid := (inputValid s inputSupply).toNat_le
  have ha := s.load.a.overload.toNat_le
  have hb := s.load.b.overload.toNat_le
  refine ⟨(toNat_wordBytes (by omega)).trans ?_, (toNat_wordBytes (by omega)).trans ?_,
    (toNat_wordBytes (by omega)).trans ?_⟩
  · rw [Nat.mod_eq_of_lt hreservoir, mul_toNat_eq_ite]
  · rw [Nat.mod_eq_of_lt hsupply, mul_toNat_eq_ite, mul_toNat_eq_ite, mul_toNat_eq_ite]
  · rw [Nat.mod_eq_of_lt (by omega)]

/-- The counts of STATUS-2 end at 255. -/
theorem status2Payload_counts (s : State) : dataByte (status2Payload s) 6 = min s.alerts.lost 255 ∧
    dataByte (status2Payload s) 7 = min s.relay.drops 255 := ⟨toNat_countByte _, toNat_countByte _⟩

/-! ### The pair (R164) -/

theorem pairUnsent_iff (slot : Option StatusPair) :
    pairUnsent slot = true ↔ (slot.map fun q => !(q.sent1 && q.sent2)) = some true := by
  cases slot with
  | none => simp [pairUnsent]
  | some q => simp [pairUnsent, Bool.not_and]

theorem exec_statusTimerExpiry {s : State} (hpowered : s.powered = true) :
    exec .statusTimerExpiry s = .next (statusTimerExpiry s) := exec_powered rfl hpowered

/-- What both frames of the pair share: the fields of their identifier, and a payload of eight bytes (12.1). -/
theorem statusFrame_fields (s : State) (subcode : Nat) {data : List Byte} (hlength : data.length = 8) :
    let f := ownFrame 6 classStatus 0 (chainPosition s) subcode data
    f.extended = true ∧ framePriority f = 6 ∧ frameClass f = 4 ∧ frameDest f = 0 ∧
      (chainPosition s ≤ 15 → frameSource f = chainPosition s) ∧ f.data.length = 8 :=
  ⟨rfl, framePriority_ownFrame _ _ _ _ _ _, frameClass_ownFrame _ _ _ _ _ _, frameDest_ownFrame _ _ _ _ _ _,
    fun hposition => frameSource_ownFrame_of_le hposition _ _ _ _ _, hlength⟩

/-- Settles O48: the pair is composed at 100 ms, and its two payloads hold the fields of R165. -/
theorem statusPairIsComposedEvery100Ms : Obligations.StatusPairIsComposedEvery100Ms := by
  intro s hpowered
  refine ⟨fun hearly => ?_, fun hdue => ⟨composeStatus s, ?_, rfl, rfl, rfl, ?_, frameSubcode_ownFrame _ _ _ _ _ _,
    frameSubcode_ownFrame _ _ _ _ _ _, ?_⟩⟩
  · rw [exec_statusTimerExpiry hpowered, statusTimerExpiry, if_neg (mt (reached_iff _ _ _).mp hearly.not_ge)]
  · rw [exec_statusTimerExpiry hpowered, statusTimerExpiry, if_pos ((reached_iff _ _ _).mpr hdue), State.onAlerts]
    simp only [pairUnsent_iff]
    rfl
  · rintro f (rfl | rfl)
    · exact statusFrame_fields s 1 rfl
    · exact statusFrame_fields s 2 rfl
  · intro w x
    obtain ⟨hloadA, hloadB, hstates, hfailSafe, hchannels⟩ := status1Payload_fields s
    obtain ⟨hlost, hdrops⟩ := status2Payload_counts s
    obtain ⟨hnone, hleads⟩ := worstTyre_spec s
    refine ⟨?_, hstates, hfailSafe, hchannels, (worstTyre s).1, (worstTyre s).2, fun h => Prod.mk.inj (hnone h),
      fun i hi => ?_, status2Payload_fields, hlost, hdrops⟩
    · rintro e k (⟨rfl, rfl⟩ | ⟨rfl, rfl⟩)
      · exact hloadA.trans (loadWord_eq _)
      · exact hloadB.trans (loadWord_eq _)
    · obtain ⟨j, hworst, hfirst⟩ := hleads i hi
      obtain ⟨hstate, hposition⟩ := Prod.mk.inj hworst
      exact ⟨j, hposition, hstate, hfirst⟩

end Sys2Proof.Machine
end

section
/-! The fault capture record over every command (R166, R167): nothing but CLEAR_CAPTURE, a power-on reset and the loss of
power takes a filled record away. The shared operations and the blocks. -/

namespace Sys2Proof.Machine

open Sys2Proof

/-! ### A filled record stays -/

/-- From `s` to `t` a filled capture record stays as it is. -/
def CaptureStays (s t : State) : Prop := ∀ k, s.alerts.capture = some k → t.alerts.capture = some k

namespace CaptureStays

variable {s t u : State}

theorem refl (s : State) : CaptureStays s s := fun _ => id

theorem andThen (h : CaptureStays s t) (k : CaptureStays t u) : CaptureStays s u := fun x hx => k x (h x hx)

theorem ite (b : Prop) [Decidable b] (h : CaptureStays s t) (k : CaptureStays s u) :
    CaptureStays s (if b then t else u) := by
  split
  · exact h
  · exact k

theorem foldl {β : Type} (f : State → β → State) (l : List β) (h : ∀ s b, CaptureStays s (f s b)) (s : State) :
    CaptureStays s (l.foldl f s) :=
  foldl_keeps (CaptureStays s) f l (fun t b _ ht => ht.andThen (h t b)) s (.refl s)

theorem of_eq (h : t.alerts.capture = s.alerts.capture) : CaptureStays s t := fun _ => h.trans

/-- What does not reach the alert composer. -/
theorem beside {ps : List Part} (h : ChangesOnly ps s t) (hps : ps.contains Part.alerts = false) : CaptureStays s t :=
  of_eq (congrArg Alerts.capture (h .alerts (by simpa using hps)))

/-- An answer after other work. -/
theorem answered (h : CaptureStays s t) (code : Nat) (tag : Byte) (a : Answer) : CaptureStays s (answer code tag a t) :=
  h.andThen (beside (answer_touches t code tag a) rfl)

end CaptureStays

section Operations

variable (s : State)

/-! ### Alerts -/

theorem raiseAlertAt_keeps_capture (time : Stamp) (cause : Cause) (subject : Subject) (value : Nat) :
    CaptureStays s (raiseAlertAt time cause subject value s) := .of_eq (placeAlert_capture _ _ _).1

theorem raiseAlert_keeps_capture (cause : Cause) (subject : Subject) (value : Nat) :
    CaptureStays s (raiseAlert cause subject value s) := raiseAlertAt_keeps_capture s _ cause subject value

/-- A request finds the record filled and is counted (R166). -/
theorem fillCapture_keeps_capture (kind : CaptureKind) (subject : Subject) (commanded delivered : Nat) :
    CaptureStays s (fillCapture kind subject commanded delivered s) := fun k hk => by
  rw [fillCapture_alerts]
  exact (captured_of_some hk).1

theorem fillCaptureBlock_keeps_capture (kind : CaptureKind) (subject : Subject) :
    CaptureStays s (fillCaptureBlock kind subject s) := fillCapture_keeps_capture s kind subject 0 0

theorem alertOutcome_keeps_capture (acked : Bool) : CaptureStays s (alertOutcome acked s) := .of_eq rfl

theorem statusOutcome_keeps_capture (first acked : Bool) : CaptureStays s (statusOutcome first acked s) := by
  refine .of_eq ?_
  rw [statusOutcome, onAlerts_alerts]
  split
  · split
    · rfl
    · rfl
  · rfl

theorem statusTimerExpiry_keeps_capture : CaptureStays s (statusTimerExpiry s) := .ite _ (.of_eq rfl) (.refl s)

/-! ### Faults and the fail-safe state -/

theorem enterFaulted_keeps_capture (c : Channel) (cause : FaultCause) : CaptureStays s (enterFaulted c cause s) :=
  fun k hk => by
    obtain ⟨-, hfilled⟩ := enterFaulted_capture c cause s
    obtain ⟨hkept, -⟩ := hfilled k hk
    exact hkept

theorem errorEvent_keeps_capture (c : Channel) : CaptureStays s (errorEvent c s) :=
  (CaptureStays.beside (onChannel_touches s c _) rfl).andThen (.ite _ (enterFaulted_keeps_capture _ c _) (.refl _))

theorem hardFault_keeps_capture (c : Channel) (cause : FaultCause) : CaptureStays s (hardFault c cause s) :=
  .ite _ (.refl s) ((CaptureStays.beside (onChannel_touches s c _) rfl).andThen (enterFaulted_keeps_capture _ c cause))

theorem faultByThreshold_keeps_capture (c : Channel) : CaptureStays s (faultByThreshold s c) :=
  .ite _ (enterFaulted_keeps_capture s c _) (.refl s)

theorem evaluateFailSafe_keeps_capture : CaptureStays s (evaluateFailSafe s) := .of_eq (evaluateFailSafe_evaluates s).capture

theorem driverStatusRecord_keeps_capture (bytes : List Byte) : CaptureStays s (driverStatusRecord bytes s) := by
  have examined : ∀ t c, CaptureStays t (examineStatus bytes t c) := fun t c => by
    unfold examineStatus
    split
    · exact .ite _ (hardFault_keeps_capture t c _) (.refl t)
    · exact .refl t
  exact .ite _ (.andThen (.beside (onValve_touches s _) rfl) (.foldl _ _ examined _)) (.beside (onValve_touches s _) rfl)

/-! ### The pressure arbiter -/

theorem superviseChannel_keeps_capture (c : Channel) : CaptureStays s (superviseChannel s c) := by
  have deviation : CaptureStays s (deviationCheck c s) := by
    unfold deviationCheck
    dsimp only
    split
    · exact .ite _ (.andThen (.beside (onChannel_touches s c _) rfl) (errorEvent_keeps_capture _ c)) (.refl s)
    · exact .refl s
  unfold superviseChannel
  refine .ite _ (.ite _ ?_ deviation) (.refl s)
  split
  · exact hardFault_keeps_capture s c _
  · exact hardFault_keeps_capture s c _
  · exact hardFault_keeps_capture s c _
  · exact hardFault_keeps_capture s c _
  · exact .refl s
  · exact .refl s

theorem haltStep_keeps_capture (c : Channel) : CaptureStays s (haltStep s c) :=
  .andThen (.ite _ (.andThen (raiseAlert_keeps_capture s _ _ _) (.beside (onChannel_touches _ c _) rfl)) (.refl s))
    (.beside (pendingHaltCheck_touches _ c) rfl)

theorem arbiterTakesSet_keeps_capture : CaptureStays s (arbiterTakesSet s) := by
  unfold arbiterTakesSet arbiterJudges arbiterCommands
  dsimp only
  refine .andThen ?_ (.beside (onValve_touches _ _) rfl)
  refine .andThen ?_ (.beside ((onArbiter_touches _ _).andThen (onArbiter_touches _ _)) rfl)
  refine .andThen ?_ (.beside (onArbiter_touches _ _) rfl)
  refine .andThen ?_ (.foldl _ _ haltStep_keeps_capture _)
  refine .andThen ?_ (.beside (onArbiter_touches _ _) rfl)
  refine .andThen ?_ (.foldl _ _ superviseChannel_keeps_capture _)
  exact .beside (((onArbiter_touches s _).andThen (onArbiter_touches _ _)).andThen (onArbiter_touches _ _)) rfl

theorem arbiterTakesT1_keeps_capture : CaptureStays s (arbiterTakesT1 s) := by
  unfold arbiterTakesT1
  refine .andThen ?_ (.beside (setCeilings_touches _) rfl)
  refine .andThen ?_ (.foldl _ _ (fun t c => .beside (cancelPendingHalt_touches t c) rfl) _)
  exact .andThen (.beside (onArbiter_touches s _) rfl) (.foldl _ _ faultByThreshold_keeps_capture _)

/-! ### The load estimator, the air supervisor and the roll monitor -/

theorem estimatorTakesSet_keeps_capture : CaptureStays s (estimatorTakesSet s) := by
  have each : ∀ g t, CaptureStays t (estimateTakesSet g t) := fun g t => .of_eq (by
    rw [estimateTakesSet_alerts]
    split
    · exact (placeAlert_capture _ _ _).1
    · rfl)
  exact (each .a s).andThen (each .b _)

theorem airTakesSet_keeps_capture : CaptureStays s (airTakesSet s) := fun k hk => by
  have hraised : (setRaised s (airTakesSet s)).capture = some k := (setRaised_capture s _).1.trans hk
  rw [airTakesSet_alerts]
  split
  · exact (captured_of_some hraised).1
  · exact hraised

theorem goIntervene_keeps_capture : CaptureStays s (goIntervene s) := by
  unfold goIntervene
  refine .andThen ?_ (.beside (requestTally_touches _ _) rfl)
  refine .andThen ?_ (raiseAlert_keeps_capture _ _ _ _)
  exact .andThen (.beside (leaveTest_touches s) rfl) (.beside (onRoll_touches _ _) rfl)

theorem rampStep_touches : ChangesOnly [.air, .roll] s (rampStep s) :=
  .ite _ (goIdle_touches s) ((onRoll_touches s _).within (by decide))

theorem abortToIdle_touches : ChangesOnly [.air, .roll] s (abortToIdle s) :=
  ((onRoll_touches s _).within (by decide)).andThen (goIdle_touches _)

theorem rollStateStep_keeps_capture : CaptureStays s (rollStateStep s) := by
  have noted : ∀ (t : State) f, CaptureStays t (t.onRoll f) := fun t f => .beside (onRoll_touches t f) rfl
  unfold rollStateStep
  split
  · exact .ite _ (.ite _ (goIntervene_keeps_capture s) (.ite _ (.beside (tryTest_touches s) rfl) (.refl s))) (.refl s)
  · unfold testStep
    split
    · exact .ite _ ((noted s _).andThen (goIntervene_keeps_capture _)) (.ite _ (goIntervene_keeps_capture s)
        (.ite _ ((noted s _).andThen (.beside (goWatch_touches _) rfl))
          (.ite _ ((noted s _).andThen (.beside (goIdle_touches _) rfl)) (.refl s))))
    · exact .refl s
  · exact .ite _ (goIntervene_keeps_capture s) (.refl s)
  · exact (noted s _).andThen (.ite _ (noted _ _) (.ite _ (.ite _ (noted _ _) (.refl _)) (noted _ _)))
  · exact .ite _ (goIntervene_keeps_capture s) (.beside (rampStep_touches s) rfl)

theorem rollInvalidStep_keeps_capture : CaptureStays s (rollInvalidStep s) := by
  unfold rollInvalidStep
  split
  · exact .refl s
  · exact .beside (abortToIdle_touches s) rfl
  · exact .beside (goIdle_touches s) rfl
  · exact .beside (goRecover_touches s) rfl
  · exact .beside (rampStep_touches s) rfl

theorem rollTakesSet_keeps_capture : CaptureStays s (rollTakesSet s) := by
  cases ha : lateral s with
  | none =>
    rw [rollTakesSet_of_invalid ha]
    exact .andThen (.beside (onRoll_touches s _) rfl) (rollInvalidStep_keeps_capture _)
  | some a =>
    rw [rollTakesSet_of_valid ha]
    exact .andThen (.beside (onRoll_touches s _) rfl) (rollStateStep_keeps_capture _)

theorem rollTimerExpiry_keeps_capture : CaptureStays s (rollTimerExpiry s) := by
  refine .ite _ (.andThen (t := updateThresholds s) (.beside (onRoll_touches s _) rfl) ?_) (.refl s)
  unfold testExpiry watchExpiry
  dsimp only
  split
  · exact .ite _ (.beside (abortToIdle_touches _) rfl)
      (.andThen (.beside (onRoll_touches _ _) rfl) (.beside (goWatch_touches _) rfl))
  · exact .ite _ (.beside (goIdle_touches _) rfl) (.ite _ (goIntervene_keeps_capture _)
      (.ite _ (.beside (tryTest_touches _) rfl) (.beside (goIdle_touches _) rfl)))
  · exact .beside (goRecover_touches _) rfl
  · exact .refl _
  · exact .refl _

/-! ### Sample sets -/

theorem handSet_keeps_capture : CaptureStays s (handSet s) :=
  handSet_keeps (CaptureStays s) (fun t h => h.andThen (.beside (spend_touches t) rfl))
    (fun t h => h.andThen (estimatorTakesSet_keeps_capture t)) (fun t h => h.andThen (arbiterTakesSet_keeps_capture t))
    (fun t h => h.andThen (airTakesSet_keeps_capture t)) (fun t h => h.andThen (rollTakesSet_keeps_capture t))
    (fun t h => h.andThen (.beside (tyresTakeSet_touches t) rfl)) (.refl s)

theorem sampleSetArrival_keeps_capture (bytes : List Byte) : CaptureStays s (sampleSetArrival bytes s) := by
  have port : ∀ f, CaptureStays s (s.onSample f) := fun f => .beside (onSample_touches s f) rfl
  refine .ite _ (.refl s) (.ite _ (port _) (.ite _ (port _) ?_))
  exact .andThen (.ite _ ((port _).andThen (evaluateFailSafe_keeps_capture _)) (port _)) (handSet_keeps_capture _)

theorem lossTimerExpiry_keeps_capture : CaptureStays s (lossTimerExpiry s) := by
  refine .ite _ ?_ (.refl s)
  unfold declareLoss
  refine .andThen ?_ (.beside (airTakesLoss_touches _) rfl)
  refine .andThen ?_ (.beside (rollTakesLoss_touches _) rfl)
  refine .andThen ?_ (evaluateFailSafe_keeps_capture _)
  refine .andThen ?_ (.beside (deriveDemand_touches _) rfl)
  refine .andThen ?_ (fillCaptureBlock_keeps_capture _ _ _)
  exact .andThen (.beside (onSample_touches s _) rfl) (raiseAlert_keeps_capture _ _ _ _)

/-! ### The tyre table -/

theorem takeReading_keeps_capture (p : Position) (e : Telegram) : CaptureStays s (takeReading p e s) := by
  have raised : ∀ (t : State) st, CaptureStays t (tyreAlert e.time p st t) := fun t st => by
    cases st with
    | fastLeak | veryLow | hot | low => exact raiseAlertAt_keeps_capture t _ _ _ _
    | high | ok | absent | disabled | noData | lost => exact .refl t
  have entered : ∀ (t : State) st, CaptureStays t (enterTyreState e.time p st t) := fun t st =>
    .ite _ (.refl t) (.andThen (.andThen (.beside (onTyre_touches t p _) rfl) (raised _ st))
      (.beside (onTyres_touches _ _) rfl))
  exact .ite _ (.beside (onTyre_touches s p _) rfl) (.andThen (.beside (onTyre_touches s p _) rfl) (entered _ _))

theorem takeMiss_keeps_capture (e : Telegram) : CaptureStays s (takeMiss e s) := by
  have listed : ∀ k x, CaptureStays s (setUnknown k x s) := fun _ _ => .beside (onTyres_touches s _) rfl
  unfold takeMiss
  split
  · split
    · exact .ite _ (.beside (onTyres_touches s _) rfl)
        (.ite _ ((listed _ _).andThen (raiseAlertAt_keeps_capture _ _ _ _ _)) (listed _ _))
    · exact .refl s
  · exact listed _ _

theorem unbindOther_touches (id : SensorId) (p : Position) : ChangesOnly [.tyres] s (unbindOther id p s) := by
  unfold unbindOther
  split
  · exact .ite _ (.nothing _ s) (onTyres_touches s _)
  · exact .nothing _ s

theorem bindSensor_keeps_capture (e : Telegram) (p : Position) : CaptureStays s (bindSensor e p s) := by
  have tyres : ∀ (t : State) f, CaptureStays t (t.onTyres f) := fun t f => .beside (onTyres_touches t f) rfl
  unfold bindSensor bindSlot
  refine .andThen ?_ (tyres _ _)
  refine .andThen ?_ (.beside (requestBlock3_touches _) rfl)
  refine .andThen ?_ (tyres _ _)
  refine .andThen ?_ (.beside (endSession_touches _ _) rfl)
  refine .andThen ?_ (tyres _ _)
  refine .andThen ?_ (takeReading_keeps_capture _ p e)
  exact .andThen (.beside (unbindOther_touches s e.id p) rfl) ((tyres _ _).andThen (tyres _ _))

theorem telegramEntryTaken_keeps_capture : CaptureStays s (telegramEntryTaken s) := by
  have tyres : ∀ (t : State) f, CaptureStays t (t.onTyres f) := fun t f => .beside (onTyres_touches t f) rfl
  have ordinary : ∀ e t, CaptureStays t (ordinaryEntry e t) := fun e t => by
    unfold ordinaryEntry
    split
    · exact .ite _ (tyres t _) ((takeReading_keeps_capture t _ e).andThen (tyres _ _))
    · exact (tyres t _).andThen (takeMiss_keeps_capture _ e)
  have judged : ∀ e t, CaptureStays t (judgeEntry e t) := fun e t => by
    unfold judgeEntry
    split
    · exact .ite _ (bindSensor_keeps_capture t e _) (ordinary e t)
    · exact ordinary e t
  unfold telegramEntryTaken
  split
  · exact .andThen (.andThen (.beside (onRx_touches s _) rfl) (.ite _ (tyres _ _) (.refl _))) (judged _ _)
  · exact .refl s

theorem checkTimerExpiry_keeps_capture : CaptureStays s (checkTimerExpiry s) := by
  have tyres : ∀ (t : State) f, CaptureStays t (t.onTyres f) := fun t f => .beside (onTyres_touches t f) rfl
  have lost : ∀ t p, CaptureStays t (checkLost t p) := fun t p =>
    .ite _ (((tyres t _).andThen (raiseAlert_keeps_capture _ _ _ _)).andThen (tyres _ _)) (.refl t)
  have drag : ∀ t p, CaptureStays t (checkDrag t p) := fun t p => by
    unfold checkDrag
    split
    · refine .ite _ (.andThen ?_ (tyres _ _)) (.refl t)
      exact (errorEvent_keeps_capture t _).andThen (raiseAlert_keeps_capture _ _ _ _)
    · exact .refl t
  unfold checkTimerExpiry
  refine .ite _ ?_ (.refl s)
  refine .andThen ?_ (.foldl checkDrag allPositions drag _)
  refine .andThen (.andThen ?_ (.foldl checkLost allPositions lost _)) (tyres _ _)
  exact (tyres s _).andThen (.ite _ (tyres _ _) (.refl _))

/-! ### The front port and the link engine -/

theorem frontHandover_keeps_capture : CaptureStays s (frontHandover s) := by
  have marked : ∀ source, CaptureStays s (markFront source s) := fun source => by
    cases source with
    | ownAlert | status1 | status2 => exact .of_eq rfl
    | relayed => exact .beside (onRelay_touches s _) rfl
    | response => exact .refl s
  unfold frontHandover
  split
  · exact (marked _).andThen (.beside (onRelay_touches _ _) rfl)
  · exact .refl s
  · exact .refl s

theorem frontHandoverOutcome_keeps_capture (acked : Bool) : CaptureStays s (frontHandoverOutcome acked s) := by
  have outcome : ∀ source, CaptureStays s (frontOutcome source acked s) := fun source => by
    cases source with
    | ownAlert => exact alertOutcome_keeps_capture s acked
    | relayed => exact .beside (onRelay_touches s _) rfl
    | response => exact .ite _ (.beside (onMgmt_touches s _) rfl) (.refl s)
    | status1 => exact statusOutcome_keeps_capture s true acked
    | status2 => exact statusOutcome_keeps_capture s false acked
  unfold frontHandoverOutcome
  split
  · exact (outcome _).andThen (.beside (onRelay_touches _ _) rfl)
  · exact .refl s

theorem takePosition_keeps_capture (data : List Byte) : CaptureStays s (takePosition data s) := by
  have link : ∀ (t : State) f, CaptureStays t (t.onLink f) := fun t f => .beside (onLink_touches t f) rfl
  have relay : ∀ (t : State) f, CaptureStays t (t.onRelay f) := fun t f => .beside (onRelay_touches t f) rfl
  have mismatch : ∀ n t, CaptureStays t (positionMismatch n t) := fun n t =>
    (link t _).andThen (.ite _ (raiseAlert_keeps_capture _ _ _ _) (.refl _))
  have learn : ∀ n t, CaptureStays t (learnPlacement n t) := fun n t => by
    unfold learnPlacement
    split
    · exact .ite _ ((link t _).andThen (relay _ _)) (.refl t)
    · exact .ite _ (link t _) (.ite _ (.ite _ ((link t _).andThen (link _ _))
        (((link t _).andThen (link _ _)).andThen (relay _ _))) (mismatch n t))
  have fixed : ∀ n t, CaptureStays t (fixedPlacement n t) := fun n t => .ite _ (link t _) (mismatch n t)
  have offered : ∀ t, CaptureStays t (offerPosition t) := fun t => .ite _ (relay t _) (.refl t)
  refine .ite _ (link s _) ?_
  exact ((link s _).andThen (.ite _ (learn _ _) (fixed _ _))).andThen (offered _)

theorem takeDemand_keeps_capture (data : List Byte) : CaptureStays s (takeDemand data s) := by
  have link : ∀ f, CaptureStays s (s.onLink f) := fun f => .beside (onLink_touches s f) rfl
  refine .ite _ (link _) (.ite _ ?_ (link _))
  unfold takeFresh
  refine .andThen ?_ (.beside (onRelay_touches _ _) rfl)
  refine .andThen ?_ (.beside (deriveDemand_touches _) rfl)
  exact .ite _ ((link _).andThen (evaluateFailSafe_keeps_capture _)) (link _)

theorem demandTimerExpiry_keeps_capture : CaptureStays s (demandTimerExpiry s) := by
  have link : ∀ f, CaptureStays s (s.onLink f) := fun f => .beside (onLink_touches s f) rfl
  have lost : CaptureStays s (enterLost s) := by
    unfold enterLost
    refine .andThen ?_ (.beside (sendRearward_touches _) rfl)
    refine .andThen ?_ (.beside (deriveDemand_touches _) rfl)
    refine .andThen ?_ (evaluateFailSafe_keeps_capture _)
    refine .andThen ?_ (fillCaptureBlock_keeps_capture _ _ _)
    exact (link _).andThen (raiseAlert_keeps_capture _ _ _ _)
  refine .ite _ ?_ (.refl s)
  split
  · exact .andThen (.andThen (link _) (.beside (deriveDemand_touches _) rfl)) (.beside (sendRearward_touches _) rfl)
  · exact lost
  · exact lost
  · exact .refl s

end Operations

end Sys2Proof.Machine
end

section
/-! The fault capture record over the requests, the resets and every command, and the record's two other changes: filled by a
request, emptied by CLEAR_CAPTURE (R166, R167). -/

namespace Sys2Proof.Machine

open Sys2Proof

section Requests

variable (s : State)

/-! ### The functional reset -/

/-- A functional reset requests the record for its raises, and leaves a filled one (R36, R166). -/
theorem functionalReset_keeps_capture : CaptureStays s (functionalReset s) := fun k hk => by
  rw [functionalReset_alerts]
  show captureAfter _ s.alerts.capture = some k
  rw [hk]
  rfl

theorem assertResetLine_keeps_capture : CaptureStays s (assertResetLine s) := by
  unfold assertResetLine
  split
  · exact .refl s
  · exact .andThen (.beside (setLine_touches s true) rfl) (functionalReset_keeps_capture _)

theorem releaseResetLine_keeps_capture : CaptureStays s (releaseResetLine s) := by
  unfold releaseResetLine
  split
  · exact .andThen (.beside (setLine_touches s false) rfl) (.beside (onSample_touches _ _) rfl)
  · exact .refl s

/-! ### Requests (R168) -/

theorem installTable_keeps_capture (n : Nat) (bytes : Table) : CaptureStays s (installTable n bytes s) := by
  have tables : ∀ f, CaptureStays s (s.onTables f) := fun f => .beside (onTables_touches s f) rfl
  have port : ∀ t1, CaptureStays s (portTakesT1 (s.onTables fun x => { x with t1 := t1 })) := fun _ =>
    (tables _).andThen (.beside (portTakesT1_touches _) rfl)
  unfold installTable
  split
  case h_1 =>
    refine .andThen (.ite _ ?_ ?_) (.beside (spend_touches _) rfl)
    · exact ((port _).andThen (.beside (tyresTakeT1_touches _) rfl)).andThen (arbiterTakesT1_keeps_capture _)
    · exact ((port _).andThen (arbiterTakesT1_keeps_capture _)).andThen (.beside (tyresTakeT1_touches _) rfl)
  case h_2 => exact (tables _).andThen (.beside (estimatorTakesT2_touches _) rfl)
  case h_3 => exact tables _
  case h_4 => exact (tables _).andThen (.beside (tyresTakeT4_touches _ _) rfl)
  case h_5 => exact .beside (tyresTakeT5_touches s _) rfl
  case h_6 => exact (tables _).andThen (.beside (relayTakesT6_touches _) rfl)
  case h_7 => exact .refl s

theorem answer_keeps_capture (code : Nat) (tag : Byte) (a : Answer) : CaptureStays s (answer code tag a s) :=
  (CaptureStays.refl s).answered code tag a

/-- A store operation that a request starts. -/
theorem startedStore_keeps_capture {t : State} (h : CaptureStays s t) (code : Nat) (tag : Byte) :
    CaptureStays s (answer code tag .accepted (holdStoreTag code tag t)) :=
  (h.andThen (.beside (holdStoreTag_touches t code tag) rfl)).answered _ _ _

/-- A request of any code but that of CLEAR_CAPTURE. -/
theorem passRequest_keeps_capture {code : Nat} (hcode : code ≠ 13) (tag : Byte) (data : List Byte) :
    CaptureStays s (passRequest code tag data s) := by
  have told : ∀ code a, CaptureStays s (answer code tag a s) := fun code a => answer_keeps_capture s code tag a
  have mgmt : ∀ f code a, CaptureStays s (answer code tag a (s.onMgmt f)) := fun f code a =>
    CaptureStays.answered (.beside (onMgmt_touches s f) rfl) code tag a
  have started : ∀ f code, CaptureStays s (answer code tag .accepted (holdStoreTag code tag (s.onStore f))) :=
    fun f code => startedStore_keeps_capture s (.beside (onStore_touches s f) rfl) code tag
  unfold passRequest
  split
  case h_1 =>
    unfold readRecord
    split
    · exact .andThen (.beside (placeEntry_touches s _) rfl) (.beside (spend_touches _) rfl)
    · exact .andThen (told _ _) (.beside (spend_touches _) rfl)
  case h_2 => exact .ite _ (mgmt _ _ _) (told _ _)
  case h_3 =>
    unfold loadSegment
    split
    · exact told _ _
    · exact .ite _ (mgmt _ _ _) (told _ _)
  case h_4 =>
    unfold activateTable
    split
    · exact told _ _
    · exact .answered (.andThen (installTable_keeps_capture s _ _) (.beside (onMgmt_touches _ _) rfl)) _ _ _
  case h_5 =>
    unfold storeBlock
    split
    · exact .ite _ (told _ _) (.ite _ (told _ _) (startedStore_keeps_capture s (.beside (startWrite_touches s _) rfl) _ _))
    · exact told _ _
  case h_6 => exact .ite _ (told _ _) (.ite _ (told _ _) (started _ _))
  case h_7 => exact .ite _ (told _ _) (.ite _ (told _ _) (.ite _ (told _ _) (started _ _)))
  case h_8 => exact .ite _ (told _ _) (.answered (.beside (onStore_touches s _) rfl) _ _ _)
  case h_9 => exact .ite _ (told _ _) (.ite _ (told _ _) (.ite _ (told _ _) (started _ _)))
  case h_10 => exact .beside (haltChannel_touches s _ _ _) rfl
  case h_11 => exact .beside (runChannel_touches s _ _) rfl
  case h_12 => exact .beside (clearChannel_touches s _ _) rfl
  case h_13 => exact absurd rfl hcode
  case h_14 => exact .beside (learnPosition_touches s _ _ _) rfl
  case h_15 => exact .beside (cancelLearn_touches s _) rfl
  case h_16 => exact .beside (isolateRear_touches s _) rfl
  case h_17 => exact .beside (resumeRear_touches s _) rfl
  case h_18 => exact .ite _ (told _ _) ((told _ _).andThen (functionalReset_keeps_capture _))
  case h_19 => exact .refl s

theorem engineTakes_keeps_capture {f : CanFrame} (hcode : frameCode f ≠ 13) : CaptureStays s (engineTakes f s) := by
  have mgmt : ∀ (t : State) g, CaptureStays t (t.onMgmt g) := fun t g => .beside (onMgmt_touches t g) rfl
  unfold engineTakes
  refine .andThen (t := s.onMgmt fun m => { m with taken := satInc m.taken }) (mgmt s _) ?_
  dsimp only
  split
  · exact .ite _ ((mgmt _ _).answered _ _ _) (.ite _ ((mgmt _ _).answered _ _ _) (.ite _ (answer_keeps_capture _ _ _ _)
      (passRequest_keeps_capture _ hcode _ _)))
  · exact mgmt _ _

theorem handleRequest_keeps_capture {f : CanFrame} (hcode : frameCode f ≠ 13) : CaptureStays s (handleRequest f s) := by
  have relay : ∀ (t : State) g, CaptureStays t (t.onRelay g) := fun t g => .beside (onRelay_touches t g) rfl
  exact .ite _ ((engineTakes_keeps_capture s hcode).andThen (relay _ _)) (.ite _ (engineTakes_keeps_capture s hcode)
    (.ite _ (relay s _) (relay s _)))

theorem requestArrival_keeps_capture {code : Nat} (hcode : code < 32 ∧ code ≠ 13) (q : ReqFrame) :
    CaptureStays s (requestArrival code q s) := by
  obtain ⟨hlt, hne⟩ := hcode
  refine .andThen (.beside (countArrival_touches s _) rfl) (handleRequest_keeps_capture _ ?_)
  rw [requestFrame_code code q hlt]
  exact hne

theorem frameArrival_keeps_capture (p : Port) {f : CanFrame} (hrequest : frameClass f = 5 → frameCode f ≠ 13) :
    CaptureStays s (frameArrival p f s) := by
  have relay : ∀ (t : State) g, CaptureStays t (t.onRelay g) := fun t g => .beside (onRelay_touches t g) rfl
  cases p with
  | front =>
    refine .andThen (t := countArrival .front s) (relay s _) (.ite _ ?_ (relay _ _))
    unfold handleFront
    split
    case h_2 => exact takeDemand_keeps_capture _ _
    case h_3 => exact takePosition_keeps_capture _ _
    case h_6 hclass => exact handleRequest_keeps_capture _ (hrequest hclass)
    all_goals exact relay _ _
  | rear =>
    refine .andThen (t := countArrival .rear s) (relay s _) (.ite _ (relay _ _) (.ite _ ?_ (relay _ _)))
    unfold handleRear
    split
    all_goals exact relay _ _

end Requests

/-! ### Every command -/

/-- Every command but CLEAR_CAPTURE that a part without supply does not take. -/
theorem effect_keeps_capture {c : Instr} {f : State → State} (h : effectOf c = some f) (hcode : requestCodeOf c ≠ some 13)
    (s : State) : CaptureStays s (f s) := by
  cases c <;> simp only [effectOf, reduceCtorEq, Option.some.injEq] at h <;> subst h
  case sampleSetArrival b => exact sampleSetArrival_keeps_capture s b
  case lossTimerExpiry => exact lossTimerExpiry_keeps_capture s
  case valveRecordSent => exact .beside (valveRecordSent_touches s) rfl
  case pendingRecordTransmit => exact .beside (pendingRecordTransmit_touches s) rfl
  case refreshDue => exact .beside (refreshDue_touches s) rfl
  case driverStatusRecord b => exact driverStatusRecord_keeps_capture s b
  case holdTimerExpiry c => exact .beside (holdTimerExpiry_touches s c) rfl
  case rollTimerExpiry => exact rollTimerExpiry_keeps_capture s
  case syncMatch b => exact .beside (takeBit_touches s b) rfl
  case telegramComplete b => exact .beside (takeBit_touches s b) rfl
  case bitTaken b => exact .beside (takeBit_touches s b) rfl
  case telegramEntryTaken => exact telegramEntryTaken_keeps_capture s
  case checkTimerExpiry => exact checkTimerExpiry_keeps_capture s
  case learnTimerExpiry => exact .beside (learnTimerExpiry_touches s) rfl
  case frameArrival p f =>
    exact frameArrival_keeps_capture s p fun hclass heq => hcode ((if_pos hclass).trans (congrArg some heq))
  case demandFrame f => exact .andThen (.beside (countArrival_touches s .front) rfl) (takeDemand_keeps_capture _ _)
  case positionFrame f => exact .andThen (.beside (countArrival_touches s .front) rfl) (takePosition_keeps_capture _ _)
  case demandTimerExpiry => exact demandTimerExpiry_keeps_capture s
  case rearwardTimerExpiry => exact .beside (rearwardTimerExpiry_touches s) rfl
  case frontHandover => exact frontHandover_keeps_capture s
  case frontHandoverOutcome a => exact frontHandoverOutcome_keeps_capture s a
  case rearHandover => exact .beside (rearHandover_touches s) rfl
  case rearHandoverOutcome a => exact .beside (rearHandoverOutcome_touches s a) rfl
  case statusTimerExpiry => exact statusTimerExpiry_keeps_capture s
  case blockWriteComplete => exact .beside (blockWriteComplete_touches s) rfl
  case tallyEraseComplete => exact .beside (tallyEraseComplete_touches s) rfl
  case tallyBitProgrammed => exact .beside (tallyBitProgrammed_touches s) rfl
  case pendingTallyStart => exact .beside (pendingTallyStart_touches s) rfl
  case waitingBlock3StoreStart => exact .beside (waitingBlock3StoreStart_touches s) rfl
  case protectionWordProgrammed => exact .beside (protectionWordProgrammed_touches s) rfl
  case clearCapture q => exact absurd rfl hcode
  all_goals exact requestArrival_keeps_capture s (by decide) _

theorem exec_keeps_capture {c : Instr} {s t : State} (h : exec c s = .next t) (hreset : c ≠ .powerOnReset)
    (hloss : c ≠ .powerLoss) (hcode : requestCodeOf c ≠ some 13) : CaptureStays s t := by
  obtain ⟨hc, -⟩ | ⟨hc, -⟩ | ⟨-, ht⟩ | ⟨-, ht⟩ | ⟨b, -, ht⟩ | ⟨f, hf, ht⟩ := exec_cases h
  · exact absurd hc hreset
  · exact absurd hc hloss
  · rw [ht]
    exact .ite _ (assertResetLine_keeps_capture s) (.beside (setLine_touches s true) rfl)
  · rw [ht]
    exact .ite _ (releaseResetLine_keeps_capture s) (.beside (setLine_touches s false) rfl)
  · rw [ht]
    exact .ite _ (.beside (carrierChange_touches s b) rfl) (.beside (onRx_touches s _) rfl)
  · rw [ht]
    exact .ite _ (effect_keeps_capture hf hcode s) (.refl s)

/-! ### The record's own changes -/

/-- CLEAR_CAPTURE empties the record and its count (R167). -/
theorem exec_clearCapture {s : State} {q : ReqFrame} {tag : Byte} (h : TakesRequest s q 1 tag) :
    exec (.clearCapture q) s = .next (answer 13 tag .done { requestTaken s with
      alerts := { s.alerts with capture := none, sinceCapture := 0 } }) := by
  have hpowered : s.powered = true := h.1
  rw [exec_powered (c := .clearCapture q) rfl hpowered, request_reaches h (by decide) (by decide)]
  rfl

theorem demandLevel_eq (s : State) : demandLevel s = if s.arbiter.source = .nothing then 0 else s.arbiter.demand := by
  unfold demandLevel
  cases s.arbiter.source <;> rfl

theorem fillCapture_of_filled {s : State} {k : Capture} (h : s.alerts.capture = some k) (kind : CaptureKind)
    (subject : Subject) (commanded delivered : Nat) : fillCapture kind subject commanded delivered s =
      { s with alerts := { s.alerts with sinceCapture := min (s.alerts.sinceCapture + 1) 255 } } := by
  rw [fillCapture, h]
  rfl

theorem fillCapture_of_empty {s : State} (h : s.alerts.capture = none) (kind : CaptureKind)
    (subject : Subject) (commanded delivered : Nat) : fillCapture kind subject commanded delivered s =
      { s with alerts := { s.alerts with capture := some (captureRecord kind subject commanded delivered s) } } := by
  rw [fillCapture, h]
  rfl

/-- Settles O49: a filled record over every command, CLEAR_CAPTURE, and a request at a filled and at an empty record. -/
theorem captureChangesOnlyWhenCleared : Obligations.CaptureChangesOnlyWhenCleared := by
  refine ⟨fun c s t k h hk hreset hloss hcode => exec_keeps_capture h hreset hloss hcode k hk,
    fun _ _ _ => exec_clearCapture, fun s kind c => ⟨fun k hk => fillCapture_of_filled hk _ _ _ _, fun hempty => ?_⟩⟩
  rw [← demandLevel_eq]
  exact fillCapture_of_empty hempty _ _ _ _

end Sys2Proof.Machine
end
